-- ==== Sys2Proof/Word.lean ====
section
/-! DEFINITION. The word types the part's links and registers are made of. -/

namespace Sys2Proof

/-- One byte of a frame, or an 8-bit setting or counter. -/
abbrev Byte := BitVec 8

/-- A 16-bit field or counter. -/
abbrev Half := BitVec 16

/-- A 32-bit field or counter: the time count, a lot, a generation, a record's counts. -/
abbrev Word := BitVec 32

end Sys2Proof
end

