-- ==== Sys2Proof/Syntax.lean ====
section
/-! DEFINITION. The commands: one constructor of Instr for each row of spec/opcode_table.json, with the operands
the manual gives the event or the request. -/

namespace Sys2Proof

/-- A cell, C0 to C7. -/
abbrev CellId := Fin 8

/-- A wafer record slot, W0 to W23. -/
abbrev SlotId := Fin 24

/-- The level on a prober line (R23). -/
inductive Level where
  | low
  | high
  deriving DecidableEq, Repr, Inhabited

/-- A prober input line of a cell (chapter 2). -/
inductive Line where
  | load
  | unload
  deriving DecidableEq, Repr, Inhabited

/-- Why a receiver gives up the frame it has open (R3, step 1 of R176). -/
inductive DiscardCause where
  /-- A start delimiter arrived: it opens the next frame. -/
  | startDelimiter
  /-- An end delimiter stood before the CRC was complete, or not directly after it. -/
  | misplacedEnd
  /-- The header's length exceeds 1024. -/
  | overlongLength
  deriving DecidableEq, Repr, Inhabited

/-- A request as its REQUEST frame carries it, less the name code, which the command's own name gives (R195, R200):
the route byte (node address and requester), the tag and the argument bytes. -/
structure Request where
  route : Byte
  tag   : Byte
  args  : List Byte
  deriving DecidableEq, Repr, Inhabited

/-- The commands of the part, one constructor for each row of spec/opcode_table.json. -/
inductive Instr where
  /-- POWER_ON_RESET: RESET_N is asserted and released; `straps` is what the node-address straps read as it ends. -/
  | powerOnReset (straps : BitVec 4)
  /-- CELL_FRAME_RECEPTION: a frame ends on cell c's link; the bytes between its delimiters, as received. -/
  | cellFrameReception (c : CellId) (bytes : List Byte)
  /-- LINE_LEVEL_CHANGE: the raw level on one of c's input lines becomes `level`. -/
  | lineLevelChange (c : CellId) (line : Line) (level : Level)
  /-- EDGE_RECOGNITION: the line unit recognizes `level` on one of c's input lines. -/
  | edgeRecognition (c : CellId) (line : Line) (level : Level)
  /-- TIME_COUNT_STEP: one millisecond step. -/
  | timeCountStep
  /-- GRACE_EXPIRY: c's grace timer expires. -/
  | graceExpiry (c : CellId)
  /-- PROGRESS_EXPIRY: the slot's progress timer expires. -/
  | progressExpiry (slot : SlotId)
  /-- ENGINE_TAKE: the collation engine takes and handles a frame. -/
  | engineTake
  /-- PAUSE: the hall side sends a PAUSE symbol. -/
  | pause
  /-- RESUME_SYMBOL: the hall side sends a RESUME symbol. -/
  | resumeSymbol
  /-- HALL_FRAME_RECEPTION: a frame ends on the hall link; the bytes between its delimiters, as received. -/
  | hallFrameReception (bytes : List Byte)
  /-- TRANSMIT_TAKE: the arbiter grants a stream and takes its ready frame. -/
  | transmitTake
  /-- TRANSMIT_COMPLETION: the last byte of the frame being sent has left. -/
  | transmitCompletion
  /-- UNKNOWN_REQUEST: the management unit takes a request whose name code names no request. -/
  | unknownRequest (name : Byte) (rq : Request)
  | ident (rq : Request)
  | timeSet (rq : Request)
  | timeRead (rq : Request)
  | cellSet (rq : Request)
  | cellRead (rq : Request)
  | cellRestart (rq : Request)
  | stopClear (rq : Request)
  | bankOpen (rq : Request)
  | bankRecipe (rq : Request)
  | bankXlate (rq : Request)
  | bankClass (rq : Request)
  | bankZone (rq : Request)
  | bankClose (rq : Request)
  | bankDrop (rq : Request)
  | bankLive (rq : Request)
  | bankRead (rq : Request)
  | alertSet (rq : Request)
  | streamSet (rq : Request)
  | waferList (rq : Request)
  | waferRead (rq : Request)
  | waferMark (rq : Request)
  | waferSeal (rq : Request)
  | waferDrop (rq : Request)
  | waferFree (rq : Request)
  | waferSend (rq : Request)
  | mapSend (rq : Request)
  | mapStop (rq : Request)
  | linkRead (rq : Request)
  | resetAll (rq : Request)
  /-- CELL_OPEN_FRAME_DISCARD: c's receiver gives up the frame it has open. -/
  | cellOpenFrameDiscard (c : CellId) (cause : DiscardCause)
  /-- HALL_OPEN_FRAME_DISCARD: the hall receiver gives up the frame it has open. -/
  | hallOpenFrameDiscard (cause : DiscardCause)
  deriving DecidableEq, Repr

/-- The name code of a request, as its REQUEST frame carries it (R200); none for a command that is no request. -/
def Instr.nameCode : Instr → Option Byte
  | .powerOnReset _ => none
  | .cellFrameReception _ _ => none
  | .lineLevelChange _ _ _ => none
  | .edgeRecognition _ _ _ => none
  | .timeCountStep => none
  | .graceExpiry _ => none
  | .progressExpiry _ => none
  | .engineTake => none
  | .pause => none
  | .resumeSymbol => none
  | .hallFrameReception _ => none
  | .transmitTake => none
  | .transmitCompletion => none
  | .unknownRequest name _ => some name
  | .ident _ => some 0x01
  | .timeSet _ => some 0x02
  | .timeRead _ => some 0x03
  | .cellSet _ => some 0x10
  | .cellRead _ => some 0x11
  | .cellRestart _ => some 0x12
  | .stopClear _ => some 0x13
  | .bankOpen _ => some 0x20
  | .bankRecipe _ => some 0x21
  | .bankXlate _ => some 0x22
  | .bankClass _ => some 0x23
  | .bankZone _ => some 0x24
  | .bankClose _ => some 0x25
  | .bankDrop _ => some 0x26
  | .bankLive _ => some 0x27
  | .bankRead _ => some 0x28
  | .alertSet _ => some 0x30
  | .streamSet _ => some 0x31
  | .waferList _ => some 0x40
  | .waferRead _ => some 0x41
  | .waferMark _ => some 0x42
  | .waferSeal _ => some 0x43
  | .waferDrop _ => some 0x44
  | .waferFree _ => some 0x45
  | .waferSend _ => some 0x46
  | .mapSend _ => some 0x50
  | .mapStop _ => some 0x51
  | .linkRead _ => some 0x60
  | .resetAll _ => some 0x7F
  | .cellOpenFrameDiscard _ _ => none
  | .hallOpenFrameDiscard _ => none

/-- The name codes of R200's table. -/
def knownNames : List Byte :=
  [0x01, 0x02, 0x03, 0x10, 0x11, 0x12, 0x13, 0x20, 0x21, 0x22, 0x23, 0x24, 0x25, 0x26, 0x27, 0x28,
   0x30, 0x31, 0x40, 0x41, 0x42, 0x43, 0x44, 0x45, 0x46, 0x50, 0x51, 0x60, 0x7F]

/-- The request command a name code stands for; a code outside R200's table is an UNKNOWN_REQUEST (step 1 of
R178). -/
def Instr.ofRequest (name : Byte) (rq : Request) : Instr :=
  if name = 0x01 then .ident rq
  else if name = 0x02 then .timeSet rq
  else if name = 0x03 then .timeRead rq
  else if name = 0x10 then .cellSet rq
  else if name = 0x11 then .cellRead rq
  else if name = 0x12 then .cellRestart rq
  else if name = 0x13 then .stopClear rq
  else if name = 0x20 then .bankOpen rq
  else if name = 0x21 then .bankRecipe rq
  else if name = 0x22 then .bankXlate rq
  else if name = 0x23 then .bankClass rq
  else if name = 0x24 then .bankZone rq
  else if name = 0x25 then .bankClose rq
  else if name = 0x26 then .bankDrop rq
  else if name = 0x27 then .bankLive rq
  else if name = 0x28 then .bankRead rq
  else if name = 0x30 then .alertSet rq
  else if name = 0x31 then .streamSet rq
  else if name = 0x40 then .waferList rq
  else if name = 0x41 then .waferRead rq
  else if name = 0x42 then .waferMark rq
  else if name = 0x43 then .waferSeal rq
  else if name = 0x44 then .waferDrop rq
  else if name = 0x45 then .waferFree rq
  else if name = 0x46 then .waferSend rq
  else if name = 0x50 then .mapSend rq
  else if name = 0x51 then .mapStop rq
  else if name = 0x60 then .linkRead rq
  else if name = 0x7F then .resetAll rq
  else .unknownRequest name rq

/-- The request a command carries; none for a command that is no request. -/
def Instr.request : Instr → Option Request
  | .powerOnReset _ => none
  | .cellFrameReception _ _ => none
  | .lineLevelChange _ _ _ => none
  | .edgeRecognition _ _ _ => none
  | .timeCountStep => none
  | .graceExpiry _ => none
  | .progressExpiry _ => none
  | .engineTake => none
  | .pause => none
  | .resumeSymbol => none
  | .hallFrameReception _ => none
  | .transmitTake => none
  | .transmitCompletion => none
  | .unknownRequest _ rq => some rq
  | .ident rq => some rq
  | .timeSet rq => some rq
  | .timeRead rq => some rq
  | .cellSet rq => some rq
  | .cellRead rq => some rq
  | .cellRestart rq => some rq
  | .stopClear rq => some rq
  | .bankOpen rq => some rq
  | .bankRecipe rq => some rq
  | .bankXlate rq => some rq
  | .bankClass rq => some rq
  | .bankZone rq => some rq
  | .bankClose rq => some rq
  | .bankDrop rq => some rq
  | .bankLive rq => some rq
  | .bankRead rq => some rq
  | .alertSet rq => some rq
  | .streamSet rq => some rq
  | .waferList rq => some rq
  | .waferRead rq => some rq
  | .waferMark rq => some rq
  | .waferSeal rq => some rq
  | .waferDrop rq => some rq
  | .waferFree rq => some rq
  | .waferSend rq => some rq
  | .mapSend rq => some rq
  | .mapStop rq => some rq
  | .linkRead rq => some rq
  | .resetAll rq => some rq
  | .cellOpenFrameDiscard _ _ => none
  | .hallOpenFrameDiscard _ => none

end Sys2Proof
end

