-- ==== Sys2Proof/Decode.lean ====
section
/-! DEFINITION. The command a word of the opcode table spells. No row of spec/opcode_table.json gives a bit
("fixed" and "fields" are empty for all 45), so no word spells a command. Requests are read from the bytes of their
frames, which Machine/Hall.lean and Machine/Requests.lean do. -/

namespace Sys2Proof

/-- The command a word spells by the table's bits: none, since no row of the table gives bits. -/
def decodeTableWord (_nbits _w : Nat) : Option Instr := none

end Sys2Proof
end

