-- ==== Sys2Proof/Config.lean ====
section
/-! DEFINITION. What the part fixes for good: the capacities of its queues, the result cap, the identification
codes; and the free values, which the manual does not state. -/

namespace Sys2Proof.Config

/-- Frames one cell's input FIFO holds (R10). -/
def fifoCap : Nat := 16

/-- The occupancy that moves a port from GO to HOLD (R12). -/
def holdAt : Nat := 12

/-- The occupancy that moves a port from HOLD to GO (R12). -/
def goAt : Nat := 8

/-- Frames the FWD queue holds (R159). -/
def fwdCap : Nat := 64

/-- Replies the RESP queue holds (R160). -/
def respCap : Nat := 8

/-- Requests the hall receive FIFO holds (R177). -/
def rxCap : Nat := 4

/-- Entries the SUM queue holds (R161). -/
def sumCap : Nat := 8

/-- Entries the alert queue holds (R142). -/
def alertCap : Nat := 32

/-- The result cap: the value of T + R at which a record takes no more results (R61). -/
def resultCap : Nat := 1048575

/-- The longest payload a frame carries (R3, R194). -/
def maxPayload : Nat := 1024

/-- The restarts one dump makes before it is marked unstable (R171). -/
def maxRestarts : Nat := 3

/-- Columns and rows of a map frame's die space (R97). -/
def dieSide : Nat := 512

/-- The node address that addresses every node on the hall network (R175). -/
def broadcastNode : BitVec 4 := 15

/-- The part code IDENT reports (R200). -/
def partCode : Half := 0x2840

/-- The layout revision IDENT reports (R200). -/
def layoutRevision : Byte := 1

/-- FREE VALUE (DESIGN CHOICE, notes/assumptions/4.md). The eight bytes LINK_READ writes for the origin, next row,
rows, restart count, flags and ending of a dump when no dump is in progress. R191 and R200 do not state them. It is
applied to a counter of draws that State holds, so that no two draws need agree. -/
opaque noDumpFields : Nat → BitVec 64

/-- FREE VALUE (DESIGN CHOICE, notes/assumptions/11.md). What the four node-address straps read as a hall reset ends. The
straps come from outside the part, and RESET_ALL carries no operand for them (R175, R192). It is applied to the counter
of draws, so that no two resets need read the same. -/
opaque strapLevels : Nat → BitVec 4

end Sys2Proof.Config
end

