-- ==== Sys2Proof/Machine/State.lean ====
section
/-! DEFINITION. Everything the part holds, as plain data, block by block as the manual's block overview divides it,
and the part right after reset. -/

namespace Sys2Proof.Machine

/-- Why the part could stop. The manual describes no event that stops the part: every command has an effect, or is
ignored, counted or answered by a reply. So no command raises a fault, and this type has no constructor (safe). -/
inductive Fault where
  deriving DecidableEq, Repr

/-- Why the model could refuse a command. -/
inductive Refusal where
  /-- Raised by a refused arm of exec, for a command that has no meaning yet. No arm is refused (safe). -/
  | notModelled (mnemonic : String)
  deriving DecidableEq, Repr

/-! ## Cell ports, the line unit and the tally unit: what is held per cell -/

/-- A cell port's mode (R2). -/
inductive Mode where
  | off
  | forward
  | collate
  | silent
  deriving DecidableEq, Repr, Inhabited

/-- The byte order of a cell link's payload fields (R6). -/
inductive ByteOrder where
  | big
  | little
  deriving DecidableEq, Repr, Inhabited

/-- Which change of level is a line's active edge (R25). -/
inductive Polarity where
  | rising
  | falling
  deriving DecidableEq, Repr, Inhabited

/-- The glitch filter's width (R24). -/
inductive Filter where
  | off
  | ms1
  | ms4
  | ms16
  deriving DecidableEq, Repr, Inhabited

/-- The seven settings of a cell (R1). -/
structure CellConfig where
  mode      : Mode
  order     : ByteOrder
  recipe    : Fin 8
  grace     : Byte
  loadPol   : Polarity
  unloadPol : Polarity
  filter    : Filter
  deriving DecidableEq, Repr, Inhabited

/-- The flow state of a cell port, and the symbol that reports it (R12, R13). -/
inductive Flow where
  | go
  | hold
  deriving DecidableEq, Repr, Inhabited

/-- A wafer key: lot and wafer number. -/
structure Key where
  lot   : Word
  wafer : Byte
  deriving DecidableEq, Repr, Inhabited

/-- One site entry of a touchdown (R196). -/
structure SiteEntry where
  site    : Byte
  flags   : Byte
  x       : Half
  y       : Half
  softBin : Half
  deriving DecidableEq, Repr, Inhabited

/-- A normalized TOUCHDOWN payload; its site count is the number of its entries (R196). -/
structure Touchdown where
  key     : Key
  seq     : Half
  entries : List SiteEntry
  deriving DecidableEq, Repr, Inhabited

/-- A normalized MARKER payload (R196). -/
structure Marker where
  kind   : Byte
  key    : Key
  recipe : Byte
  deriving DecidableEq, Repr, Inhabited

/-- An entry of a cell's input FIFO (R11). -/
inductive FifoEntry where
  | touchdown (route : Byte) (td : Touchdown) (gap : Half)
  | marker (route : Byte) (mk : Marker)
  deriving DecidableEq, Repr

/-- A port's six error counts (R14). -/
structure PortCounts where
  crc       : Half
  framing   : Half
  overrun   : Half
  duplicate : Half
  gap       : Half
  late      : Half
  deriving DecidableEq, Repr, Inhabited

/-- A glitch-filter candidate: the new level, the milliseconds it has been held, and the width in force when it
began (R24). -/
structure Candidate where
  level : Level
  held  : Nat
  width : Nat
  deriving DecidableEq, Repr

/-- One prober input line: the raw level on the pin, the recognized level, and the candidate (R23, R24). -/
structure InputLine where
  pin        : Level
  recognized : Level
  candidate  : Option Candidate
  deriving DecidableEq, Repr

/-- A running timer: the milliseconds elapsed since it was started, and its length (R31, R162). -/
structure Timer where
  elapsed : Nat
  length  : Nat
  deriving DecidableEq, Repr

/-- Everything held for one cell: its port, its lines, its grace timer, and its run counters and suspect marks. -/
structure Cell where
  cfg         : CellConfig
  fifo        : List FifoEntry
  flow        : Flow
  tracker     : Option Half
  counts      : PortCounts
  rxOpen      : Bool
  loadLine    : InputLine
  unloadLine  : InputLine
  pendingLoad : Option Word
  lastUnload  : Option Word
  stopLatch   : Bool
  graceTimer  : Option Timer
  runs        : Vector Byte 16
  suspects    : Vector Bool 16
  deriving DecidableEq, Repr

/-! ## The bank store -/

/-- A recipe's retest policy (R108). -/
inductive Policy where
  | latest
  | passWins
  | recheckOnly
  deriving DecidableEq, Repr, Inhabited

/-- A recipe's yield denominator (R119). -/
inductive Denominator where
  | tested
  | gross
  deriving DecidableEq, Repr, Inhabited

/-- A recipe's export option (R166). -/
inductive ExportOption where
  | summary
  | summaryMap
  deriving DecidableEq, Repr, Inhabited

/-- The fourteen fields of a recipe (R37). -/
structure Recipe where
  inUse       : Bool
  width       : Half
  height      : Half
  gross       : Word
  siteCount   : Byte
  policy      : Policy
  denominator : Denominator
  yieldLimit  : Half
  interval    : Half
  minSample   : Half
  runLimit    : Byte
  unknownBin  : Fin 64
  exporting   : ExportOption
  period      : Byte
  deriving DecidableEq, Repr

/-- The class of a hall bin (R39). -/
inductive BinClass where
  | pass
  | fail
  | recheck
  | void
  deriving DecidableEq, Repr, Inhabited

/-- An entry of the hall bin table (R39). -/
structure BinEntry where
  cls   : BinClass
  limit : Half
  deriving DecidableEq, Repr

/-- An entry of the zone table (R40). -/
structure ZoneEntry where
  enabled  : Bool
  xCompare : Half
  xBits    : Byte
  yCompare : Half
  yBits    : Byte
  limit    : Half
  deriving DecidableEq, Repr

/-- The state of a bank (R41). -/
inductive BankState where
  | idle
  | loading
  | ready
  | live
  | retiring
  deriving DecidableEq, Repr, Inhabited

/-- One classification bank (R36). The translation table is a sparse store: recipe r's entry for soft bin s stands at
512 × r + s, and an address it does not list holds 0xFF, UNASSIGNED (R38). -/
structure Bank where
  state   : BankState
  owner   : Option (Fin 4)
  gen     : Word
  bound   : Nat
  recipes : Vector Recipe 8
  xlate   : List Host.Cell
  bins    : Vector BinEntry 64
  zones   : Vector ZoneEntry 8
  deriving DecidableEq, Repr

/-- The two banks' names. -/
inductive BankId where
  | a
  | b
  deriving DecidableEq, Repr, Inhabited

/-- The bank store: both banks and the generation counter (R36, R43). -/
structure BankStore where
  a        : Bank
  b        : Bank
  genCount : Word
  deriving DecidableEq, Repr

/-! ## The wafer directory -/

/-- The state of a record in a slot that is not FREE (R73). -/
inductive RecordState where
  | opened
  | closing
  | closed
  | exported
  deriving DecidableEq, Repr, Inhabited

/-- Why a record closed (R71). -/
inductive CloseReason where
  | nextWafer
  | markerEnd
  | lotEnd
  | unload
  | forced
  | resultLimit
  | host
  | restart
  deriving DecidableEq, Repr, Inhabited

/-- The outcome of a compare (R121). -/
inductive Comparison where
  | lt
  | eq
  | gt
  | un
  deriving DecidableEq, Repr, Inhabited

/-- A record's disposition (R129). -/
inductive Disposition where
  | low
  | passed
  | nodata
  deriving DecidableEq, Repr, Inhabited

/-- A record's nine counts (R72). -/
structure Counts where
  t       : Word
  p       : Word
  fp      : Word
  r       : Word
  u       : Word
  v       : Word
  o       : Word
  clash   : Word
  badSite : Word
  deriving DecidableEq, Repr

/-- A zone tally (R72). -/
structure ZoneTally where
  tested : Word
  passed : Word
  deriving DecidableEq, Repr

/-- A site tally (R72). -/
structure SiteTally where
  results : Word
  passes  : Word
  deriving DecidableEq, Repr

/-- A record's four flags (R72). -/
structure Flags where
  tallyOnly   : Bool
  mapAbsent   : Bool
  overGross   : Bool
  summaryOwed : Bool
  deriving DecidableEq, Repr

/-- A map frame, F0 to F15. -/
abbrev FrameId := Fin 16

/-- A wafer record in a slot that is not FREE (R71, R72). -/
structure Record where
  state       : RecordState
  key         : Key
  cell        : CellId
  recipe      : Fin 8
  bank        : BankId
  gen         : Word
  frame       : Option FrameId
  reason      : Option CloseReason
  loadTime    : Option Word
  openTime    : Word
  closeStart  : Option Word
  sealTime    : Option Word
  counts      : Counts
  gapSum      : Word
  bins        : Vector Word 64
  zones       : Vector ZoneTally 9
  sites       : Vector SiteTally 16
  checkpoint  : Word
  outcome     : Option Comparison
  finalYield  : Option Half
  disposition : Option Disposition
  flags       : Flags
  recipeCopy  : Option Recipe
  deriving DecidableEq, Repr

/-- The wafer directory: the 24 slots (none: FREE), the export order list, and the sealed records' slots in the order
they last sealed, newest last. R88 needs that order for LATE_RESULT; times cannot give it (R26). -/
structure Directory where
  slots       : Vector (Option Record) 24
  exportOrder : List SlotId
  sealOrder   : List SlotId
  deriving DecidableEq, Repr

/-! ## The map store -/

/-- A map frame: its die cells and its change serial (R97). Die (X, Y) stands at 512 × Y + X as its die byte (R199),
and an address not listed holds 0x00, UNTESTED. -/
structure MapFrame where
  dies   : List Host.Cell
  serial : Word
  deriving DecidableEq, Repr

/-- The map store: the 16 frames and the free-frame list (R97, R99). A frame's holder is the record that names it. -/
structure MapStore where
  frames : Vector MapFrame 16
  free   : List FrameId
  deriving DecidableEq, Repr

/-! ## The alert queue -/

/-- The fifteen alert kinds, in the order of their codes (R139, R198). -/
inductive AlertKind where
  | yieldLow
  | zoneYieldLow
  | binLimit
  | siteRun
  | noData
  | unexpectedRetest
  | seqGap
  | lateResult
  | keyConflict
  | noSlot
  | noFrame
  | noRecipe
  | dumpUnstable
  | linkError
  | fifoOverrun
  deriving DecidableEq, Repr, Inhabited

/-- An alert as a block raises it (R141). -/
structure Alert where
  kind  : AlertKind
  cell  : Option CellId := none
  slot  : Option SlotId := none
  key   : Option Key := none
  index : Option Nat := none
  value : Option Half := none
  deriving DecidableEq, Repr

/-- An entry of the alert queue (R141). -/
structure AlertEntry where
  alert     : Alert
  level     : Fin 8
  firstTime : Word
  lastTime  : Word
  occ       : Half
  deriving DecidableEq, Repr

/-- The alert queue block: the level table by kind code less 1, the stop threshold, and the entries, head first
(R139, R142). -/
structure AlertUnit where
  levels    : Vector (Fin 8) 15
  threshold : Fin 9
  queue     : List AlertEntry
  deriving DecidableEq, Repr

/-! ## The export engine -/

/-- The kind of a SUM queue entry (R161). -/
inductive SumKind where
  | final
  | progress
  deriving DecidableEq, Repr, Inhabited

/-- The origin of a map pending entry and of a dump (R168). -/
inductive Origin where
  | chain
  | request
  deriving DecidableEq, Repr, Inhabited

/-- The dump context (R169). `frame` is the frame being dumped, `begun` says its first MAP_ROW has been taken (R156),
`aborted` is the ending, and `gone` says the dumped record has been freed since the start (R172, R173). -/
structure Dump where
  slot     : SlotId
  frame    : FrameId
  origin   : Origin
  nextRow  : Nat
  rows     : Nat
  width    : Nat
  restarts : Nat
  live     : Bool
  dirty    : Bool
  unstable : Bool
  aborted  : Bool
  begun    : Bool
  gone     : Bool
  deriving DecidableEq, Repr

/-- The export engine: the SUM queue, the owed list, the progress timers, the map pending list and the dump
(R161 to R169). -/
structure ExportEngine where
  sumQ     : List (SlotId × SumKind)
  owed     : List SlotId
  progress : Vector (Option Timer) 24
  mapQ     : List (SlotId × Origin)
  dump     : Option Dump
  deriving DecidableEq, Repr

/-! ## The hall port -/

/-- The five transmit streams, in the arbiter's cyclic order (R155). -/
inductive Stream where
  | resp
  | alert
  | fwd
  | sum
  | map
  deriving DecidableEq, Repr, Inhabited

/-- A frame the part sends: class, route byte and payload (R194, R195). -/
structure OutFrame where
  cls     : Byte
  route   : Byte
  payload : List Byte
  deriving DecidableEq, Repr

/-- What a frame in transmission does at its completion (R154). -/
inductive TxAction where
  /-- Nothing further. -/
  | nothing
  /-- The FINAL summary of the record in the slot (R166). -/
  | final (slot : SlotId)
  /-- A MAP_ROW of the dump in progress (R171). -/
  | mapRow
  /-- The MAP_END of a chained dump of the record in the slot (R173). -/
  | mapEnd (slot : SlotId) (aborted : Bool)
  deriving DecidableEq, Repr

/-- A frame in transmission (R154). -/
structure Sending where
  stream : Stream
  frame  : OutFrame
  action : TxAction
  deriving DecidableEq, Repr

/-- A request in the receive FIFO: its name code and the rest of its frame (R177). -/
structure RxEntry where
  name : Byte
  rq   : Request
  deriving DecidableEq, Repr

/-- The hall port's receive side: the receive FIFO, whether a frame is open, and the three counts (R176, R177). -/
structure HallRx where
  fifo    : List RxEntry
  isOpen  : Bool
  crc     : Half
  framing : Half
  overrun : Half
  deriving DecidableEq, Repr

/-- The hall port (R153): the RESP and FWD queues, the priorities in the order RESP, ALERT, FWD, SUM, MAP, the burst
setting, the round-robin pointer of each level, the pause state, the transmitter (none: idle), the receive side. -/
structure HallPort where
  resp   : List OutFrame
  fwd    : List OutFrame
  prio   : Vector (Fin 4) 5
  burst  : Bool
  rr     : Vector Stream 4
  paused : Bool
  tx     : Option Sending
  rx     : HallRx
  deriving DecidableEq, Repr

/-- What has left the part on its links: the model's own record of its outputs. -/
inductive Sent where
  /-- A flow symbol on a cell link (R13). -/
  | flow (c : CellId) (symbol : Flow)
  /-- A frame on the hall link: header, payload and CRC (R194). -/
  | frame (wire : List Byte)
  /-- A frame on the hall link that a reset cut off before its CRC and end delimiter (R154). -/
  | cutOff (f : OutFrame)
  deriving DecidableEq, Repr

/-! ## The part -/

/-- The state of the part, block by block. `draws`, `sent` and `pending` are the model's own: the count of free values
drawn, what has left the part, and the commands that wait, first in first out. -/
structure State where
  cells   : Vector Cell 8
  engine  : CellId
  time    : Word
  banks   : BankStore
  dir     : Directory
  maps    : MapStore
  alerts  : AlertUnit
  xport   : ExportEngine
  hall    : HallPort
  tags    : Vector (Option SlotId) 4
  node    : BitVec 4
  straps  : BitVec 4
  draws   : Nat
  sent    : List Sent
  pending : List Instr
  deriving DecidableEq, Repr

/-! ## Reset values -/

/-- The configuration of a cell after reset (R1). -/
def CellConfig.reset : CellConfig :=
  { mode := .off, order := .big, recipe := 0, grace := 25, loadPol := .rising, unloadPol := .rising, filter := .ms4 }

/-- The six counts at 0 (R14). -/
def PortCounts.zero : PortCounts :=
  { crc := 0, framing := 0, overrun := 0, duplicate := 0, gap := 0, late := 0 }

/-- An input line as a reset leaves it: the recognized level is the level on the line, and no candidate is open
(R23, R34). -/
def InputLine.reset (pin : Level) : InputLine := { pin := pin, recognized := pin, candidate := none }

/-- A cell as a reset leaves it, with the levels then on its LOAD and UNLOAD lines (R22, R34, R96, R137). -/
def Cell.reset (load unload : Level) : Cell :=
  { cfg := .reset, fifo := [], flow := .go, tracker := none, counts := .zero, rxOpen := false,
    loadLine := .reset load, unloadLine := .reset unload, pendingLoad := none, lastUnload := none,
    stopLatch := false, graceTimer := none, runs := .replicate 16 0, suspects := .replicate 16 false }

/-- A recipe at its CLEAR values (R37, R44). -/
def Recipe.clear : Recipe :=
  { inUse := false, width := 512, height := 512, gross := 262144, siteCount := 16, policy := .latest,
    denominator := .tested, yieldLimit := 0, interval := 0, minSample := 0, runLimit := 0, unknownBin := 0,
    exporting := .summary, period := 0 }

/-- A hall bin at its CLEAR values (R44). -/
def BinEntry.clear : BinEntry := { cls := .fail, limit := 10000 }

/-- A zone entry at its CLEAR values (R40, R44). -/
def ZoneEntry.clear : ZoneEntry :=
  { enabled := false, xCompare := 0, xBits := 0, yCompare := 0, yBits := 0, limit := 0 }

/-- A bank after reset: IDLE with the CLEAR contents (R55). -/
def Bank.reset : Bank :=
  { state := .idle, owner := none, gen := 0, bound := 0, recipes := .replicate 8 .clear, xlate := [],
    bins := .replicate 64 .clear, zones := .replicate 8 .clear }

/-- The bank store after reset (R55). -/
def BankStore.reset : BankStore := { a := .reset, b := .reset, genCount := 0 }

/-- The wafer directory after reset (R96). -/
def Directory.reset : Directory := { slots := .replicate 24 none, exportOrder := [], sealOrder := [] }

/-- The map store after reset (R99, R102). -/
def MapStore.reset : MapStore :=
  { frames := .replicate 16 { dies := [], serial := 0 }, free := [0, 1, 2, 3, 4, 5, 6, 7, 8, 9, 10, 11, 12, 13, 14, 15] }

/-- The alert queue after reset: the reset levels of R139 in the order of the kind codes, threshold 8 (R152). -/
def AlertUnit.reset : AlertUnit :=
  { levels := #v[5, 4, 4, 6, 3, 2, 2, 2, 6, 6, 4, 6, 1, 2, 3], threshold := 8, queue := [] }

/-- The export engine after reset (R174). -/
def ExportEngine.reset : ExportEngine :=
  { sumQ := [], owed := [], progress := .replicate 24 none, mapQ := [], dump := none }

/-- The receive side after reset (R176, R177). -/
def HallRx.reset : HallRx := { fifo := [], isOpen := false, crc := 0, framing := 0, overrun := 0 }

/-- The hall port after reset (R153). -/
def HallPort.reset : HallPort :=
  { resp := [], fwd := [], prio := #v[3, 3, 2, 1, 0], burst := false, rr := .replicate 4 .map, paused := false,
    tx := none, rx := .reset }

/-- The part right after reset. The levels on the prober lines (low) and the straps (0) come from outside the part:
DESIGN CHOICE, notes/assumptions/1.md. -/
def State.reset : State :=
  { cells := .replicate 8 (.reset .low .low), engine := 7, time := 0, banks := .reset, dir := .reset, maps := .reset,
    alerts := .reset, xport := .reset, hall := .reset, tags := .replicate 4 none, node := 0, straps := 0, draws := 0,
    sent := [], pending := [] }

end Sys2Proof.Machine
end

