-- ==== Sys2Proof/Machine/Ops.lean ====
section
/-! DEFINITION. The named operations over the state: one whole-block update for each block, the lookups and updates
of cells, banks, slots, frames and tags, and the sparse byte stores of the map frames and the translation tables. -/

namespace Sys2Proof.Machine

/-! ## Whole-block updates (their lemmas stand in Sys2Proof/Laws/State.lean) -/

/-- The state with other cells. -/
def State.withCells (s : State) (v : Vector Cell 8) : State := { s with cells := v }
/-- The state with another round-robin intake pointer. -/
def State.withEngine (s : State) (v : CellId) : State := { s with engine := v }
/-- The state with another time count. -/
def State.withTime (s : State) (v : Word) : State := { s with time := v }
/-- The state with another bank store. -/
def State.withBanks (s : State) (v : BankStore) : State := { s with banks := v }
/-- The state with another wafer directory. -/
def State.withDir (s : State) (v : Directory) : State := { s with dir := v }
/-- The state with another map store. -/
def State.withMaps (s : State) (v : MapStore) : State := { s with maps := v }
/-- The state with another alert queue block. -/
def State.withAlerts (s : State) (v : AlertUnit) : State := { s with alerts := v }
/-- The state with another export engine. -/
def State.withXport (s : State) (v : ExportEngine) : State := { s with xport := v }
/-- The state with another hall port. -/
def State.withHall (s : State) (v : HallPort) : State := { s with hall := v }
/-- The state with other snapshot tags. -/
def State.withTags (s : State) (v : Vector (Option SlotId) 4) : State := { s with tags := v }
/-- The state with another node address. -/
def State.withNode (s : State) (v : BitVec 4) : State := { s with node := v }
/-- The state with other strap levels. -/
def State.withStraps (s : State) (v : BitVec 4) : State := { s with straps := v }
/-- The state with another count of free values drawn. -/
def State.withDraws (s : State) (v : Nat) : State := { s with draws := v }
/-- The state with another record of what has left the part. -/
def State.withSent (s : State) (v : List Sent) : State := { s with sent := v }
/-- The state with another queue of waiting commands. -/
def State.withPending (s : State) (v : List Instr) : State := { s with pending := v }

/-! ## Cells -/

/-- What is held for cell c. -/
def State.cell (s : State) (c : CellId) : Cell := s.cells[c.val]

/-- Replace what is held for cell c. -/
def State.setCell (s : State) (c : CellId) (v : Cell) : State := s.withCells (s.cells.set c.val v)

/-- Change what is held for cell c. -/
def State.modCell (s : State) (c : CellId) (f : Cell → Cell) : State := s.setCell c (f (s.cell c))

/-- The cells C0 to C7. -/
def allCells : List CellId := [0, 1, 2, 3, 4, 5, 6, 7]

/-! ## Banks -/

/-- The bank of a name. -/
def State.bank (s : State) : BankId → Bank
  | .a => s.banks.a
  | .b => s.banks.b

/-- Replace the bank of a name. -/
def State.setBank (s : State) (i : BankId) (v : Bank) : State :=
  match i with
  | .a => s.withBanks { s.banks with a := v }
  | .b => s.withBanks { s.banks with b := v }

/-- The other bank's name. -/
def BankId.other : BankId → BankId
  | .a => .b
  | .b => .a

/-- The LIVE bank's name, none before the first activation (R41). -/
def State.liveBank (s : State) : Option BankId :=
  if s.banks.a.state = .live then some .a
  else if s.banks.b.state = .live then some .b
  else none

/-! ## Slots -/

/-- The slots W0 to W23. -/
def allSlots : List SlotId :=
  [0, 1, 2, 3, 4, 5, 6, 7, 8, 9, 10, 11, 12, 13, 14, 15, 16, 17, 18, 19, 20, 21, 22, 23]

/-- The record in a slot; none when the slot is FREE (R71). -/
def State.record (s : State) (i : SlotId) : Option Record := s.dir.slots[i.val]

/-- Replace the content of a slot. -/
def State.setSlot (s : State) (i : SlotId) (v : Option Record) : State :=
  s.withDir { s.dir with slots := s.dir.slots.set i.val v }

/-- Change the record in a slot; nothing when the slot is FREE. -/
def State.modRecord (s : State) (i : SlotId) (f : Record → Record) : State :=
  match s.record i with
  | none => s
  | some r => s.setSlot i (some (f r))

/-- The lowest slot whose record satisfies p. -/
def State.findSlot (s : State) (p : Record → Bool) : Option SlotId :=
  allSlots.find? fun i => match s.record i with
    | none => false
    | some r => p r

/-- The lowest FREE slot (R85). -/
def State.freeSlot? (s : State) : Option SlotId := allSlots.find? fun i => (s.record i).isNone

/-- A record is OPEN or CLOSING: bound to its cell and counted in its bank's bound count (R73). -/
def Record.isActive (r : Record) : Bool := r.state == .opened || r.state == .closing

/-- A record is CLOSED or EXPORTED: sealed (R73). -/
def Record.isSealed (r : Record) : Bool := r.state == .closed || r.state == .exported

/-- The slot of cell c's OPEN record (R73). -/
def State.openOn (s : State) (c : CellId) : Option SlotId :=
  s.findSlot fun r => r.state == .opened && r.cell == c

/-- The slot of cell c's CLOSING record (R73). -/
def State.closingOn (s : State) (c : CellId) : Option SlotId :=
  s.findSlot fun r => r.state == .closing && r.cell == c

/-- The slot of the OPEN or CLOSING record with a key (R73). -/
def State.activeWith (s : State) (k : Key) : Option SlotId :=
  s.findSlot fun r => r.isActive && r.key == k

/-- The recipe a record is served under: its recipe copy once it has sealed, its bank's recipe before (R37). -/
def State.recipeOf (s : State) (r : Record) : Recipe :=
  match r.recipeCopy with
  | some rc => rc
  | none => (s.bank r.bank).recipes[r.recipe.val]

/-! ## Map frames -/

/-- A map frame. -/
def State.frame (s : State) (f : FrameId) : MapFrame := s.maps.frames[f.val]

/-- Replace a map frame. -/
def State.setFrame (s : State) (f : FrameId) (v : MapFrame) : State :=
  s.withMaps { s.maps with frames := s.maps.frames.set f.val v }

/-- The holder of a frame: the record that names it (R97). -/
def State.holder (s : State) (f : FrameId) : Option SlotId := s.findSlot fun r => r.frame == some f

/-! ## Snapshot tags -/

/-- The requesters Q0 to Q3. -/
def allRequesters : List (Fin 4) := [0, 1, 2, 3]

/-- The snapshot tag of a requester: the slot it is on (R186). -/
def State.tag (s : State) (q : Fin 4) : Option SlotId := s.tags[q.val]

/-- Set or clear a requester's snapshot tag. -/
def State.setTag (s : State) (q : Fin 4) (v : Option SlotId) : State := s.withTags (s.tags.set q.val v)

/-- Clear every snapshot tag that is on a slot's record (R89, R91, R93). -/
def State.clearTagsOn (s : State) (i : SlotId) : State :=
  s.withTags (s.tags.map fun t => if t = some i then none else t)

/-! ## Sparse byte stores

A store lists the addresses that hold something else than its default byte d. Its canonical form has the addresses
strictly rising and no entry equal to d, so equal contents are equal lists. -/

/-- The byte a store holds at an address. -/
def storeRead (d : Byte) : List Host.Cell → Nat → Byte
  | [], _ => d
  | (k, v) :: m, a => if k = a then v else storeRead d m a

/-- Write a byte at an address, keeping the canonical form. -/
def storeWrite (d : Byte) : List Host.Cell → Nat → Byte → List Host.Cell
  | [], a, v => if v = d then [] else [(a, v)]
  | (k, x) :: m, a, v =>
    if a < k then (if v = d then (k, x) :: m else (a, v) :: (k, x) :: m)
    else if k = a then (if v = d then m else (a, v) :: m)
    else (k, x) :: storeWrite d m a v

/-- The canonical form of a store with default byte d. -/
abbrev storeWf (d : Byte) (m : List Host.Cell) : Prop :=
  m.Pairwise (fun x y => x.1 < y.1) ∧ ∀ x ∈ m, x.2 ≠ d

/-- The byte an unlisted die cell reads as: UNTESTED, test count 0 and bin 0 (R199). -/
def untestedDie : Byte := 0

/-- The byte an unlisted translation entry reads as: UNASSIGNED, written 0xFF (R200). -/
def unassigned : Byte := 0xFF

/-! ## Outputs -/

/-- Put one output on the record of what has left the part. -/
def State.emit (s : State) (o : Sent) : State := s.withSent (s.sent ++ [o])

end Sys2Proof.Machine
end

