-- ==== Sys2Proof/Machine/Operands.lean ====
section
/-! DEFINITION. Reading and writing the bytes of frames: big-endian and little-endian fields, the frame check with
its CRC, tester payloads, request arguments and the codes of settings. -/

namespace Sys2Proof.Machine

/-! ## Bytes and fields -/

/-- The byte at an offset (0 past the end; callers check lengths first). -/
def byteAt (bs : List Byte) (i : Nat) : Byte := bs.getD i 0

/-- The big-endian 16-bit field at an offset. -/
def halfAt (bs : List Byte) (i : Nat) : Half := byteAt bs i ++ byteAt bs (i + 1)

/-- The big-endian 32-bit field at an offset. -/
def wordAt (bs : List Byte) (i : Nat) : Word := halfAt bs i ++ halfAt bs (i + 2)

/-- A 16-bit field as two bytes, most significant first. -/
def halfBytes (h : Half) : List Byte := [h.extractLsb' 8 8, h.extractLsb' 0 8]

/-- A 32-bit field as four bytes, most significant first. -/
def wordBytes (w : Word) : List Byte :=
  [w.extractLsb' 24 8, w.extractLsb' 16 8, w.extractLsb' 8 8, w.extractLsb' 0 8]

/-- A number as one byte. -/
def natByte (n : Nat) : Byte := BitVec.ofNat 8 n

/-- A number as two bytes. -/
def natHalf (n : Nat) : List Byte := halfBytes (BitVec.ofNat 16 n)

/-- A yes/no field as a byte. -/
def boolByte (b : Bool) : Byte := if b then 1 else 0

/-- A byte whose bits 0, 1, 2 … are the list's items. -/
def bitsByte (bs : List Bool) : Byte := natByte (bs.foldr (fun b n => 2 * n + b.toNat) 0)

/-- Bit k of a mask byte (R200). -/
def maskBit (m : Byte) (k : Nat) : Bool := m.getLsbD k

/-- The bytes of a multi-byte tester field in the port's byte order, most significant first (R6). -/
def inOrder : ByteOrder → List Byte → List Byte
  | .big, bs => bs
  | .little, bs => bs.reverse

/-! ## The frame and its CRC (R194) -/

/-- One bit of the CRC with generator x^16 + x^12 + x^5 + 1. -/
def crcBit (c : Half) : Half := if c.msb then (c <<< 1) ^^^ 0x1021 else c <<< 1

/-- One byte of the CRC, most significant bit first. -/
def crcByte (c : Half) (b : Byte) : Half :=
  crcBit (crcBit (crcBit (crcBit (crcBit (crcBit (crcBit (crcBit (c ^^^ (b ++ (0 : Byte))))))))))

/-- The CRC of a run of bytes, from the starting value 0xFFFF. -/
def crcOf (bs : List Byte) : Half := bs.foldl crcByte 0xFFFF

/-- The header and payload bytes of a frame the part sends (11.1). -/
def OutFrame.body (f : OutFrame) : List Byte := [f.cls, f.route] ++ natHalf f.payload.length ++ f.payload

/-- A frame the part sends, between its delimiters: header, payload and CRC, high byte first (R194). -/
def OutFrame.wire (f : OutFrame) : List Byte := f.body ++ halfBytes (crcOf f.body)

/-- What the delimiter, length and CRC checks find in a received frame (R3, R4, R176). -/
inductive FrameCheck where
  | framing
  | crc
  | good (cls route : Byte) (payload : List Byte)
  deriving DecidableEq, Repr

/-- The delimiter, length and CRC checks on the bytes between a start and an end delimiter, in their order: a
header and CRC that are not complete, a length above 1024, and an end delimiter not directly after the CRC are
framing faults (R3); then the CRC is compared over the header and payload as received (R4). -/
def checkFrame (bs : List Byte) : FrameCheck :=
  let n := (halfAt bs 2).toNat
  if bs.length < 6 then .framing
  else if Config.maxPayload < n then .framing
  else if bs.length ≠ n + 6 then .framing
  else if crcOf (bs.take (n + 4)) ≠ halfAt bs (n + 4) then .crc
  else .good (byteAt bs 0) (byteAt bs 1) ((bs.drop 4).take n)

/-! ## Tester payloads (R5, R6, R196) -/

/-- A tester frame's payload, normalized. -/
inductive TesterFrame where
  | touchdown (td : Touchdown)
  | marker (mk : Marker)
  deriving DecidableEq, Repr

/-- The site entries of a touchdown, eight bytes each, read in the port's byte order; none when the bytes do not
divide into entries. -/
def parseEntries (o : ByteOrder) : List Byte → Option (List SiteEntry)
  | [] => some []
  | site :: flags :: x0 :: x1 :: y0 :: y1 :: b0 :: b1 :: rest =>
    match parseEntries o rest with
    | none => none
    | some es => some (
        { site := site, flags := flags, x := halfAt (inOrder o [x0, x1]) 0, y := halfAt (inOrder o [y0, y1]) 0,
          softBin := halfAt (inOrder o [b0, b1]) 0 } :: es)
  | _ => none

/-- A TOUCHDOWN payload, normalized; none when its length is below 8, its site count is above 16, or its length is
not 8 + 8n (R5). -/
def parseTouchdown (o : ByteOrder) (p : List Byte) : Option Touchdown :=
  if p.length < 8 then none
  else if 16 < (byteAt p 7).toNat then none
  else if p.length ≠ 8 + 8 * (byteAt p 7).toNat then none
  else match parseEntries o (p.drop 8) with
    | none => none
    | some es => some (
        { key := { lot := wordAt (inOrder o (p.take 4)) 0, wafer := byteAt p 4 },
          seq := halfAt (inOrder o ((p.drop 5).take 2)) 0, entries := es })

/-- A MARKER payload, normalized; none when its length is not 7 (R5). -/
def parseMarker (o : ByteOrder) (p : List Byte) : Option Marker :=
  if p.length ≠ 7 then none
  else some (
    { kind := byteAt p 0, key := { lot := wordAt (inOrder o ((p.drop 1).take 4)) 0, wafer := byteAt p 5 },
      recipe := byteAt p 6 })

/-- The content checks and the normalization of a tester frame with a good CRC; none is a framing fault: a class
other than TOUCHDOWN and MARKER, or a payload that does not fit its class (R5, R6). -/
def parseTester (o : ByteOrder) (cls : Byte) (p : List Byte) : Option TesterFrame :=
  if cls = 0x01 then (parseTouchdown o p).map .touchdown
  else if cls = 0x02 then (parseMarker o p).map .marker
  else none

/-- A site entry's bytes, big-endian (R196). -/
def SiteEntry.bytes (e : SiteEntry) : List Byte :=
  [e.site, e.flags] ++ halfBytes e.x ++ halfBytes e.y ++ halfBytes e.softBin

/-- A normalized TOUCHDOWN payload's bytes (R196). -/
def Touchdown.bytes (t : Touchdown) : List Byte :=
  wordBytes t.key.lot ++ [t.key.wafer] ++ halfBytes t.seq ++ [natByte t.entries.length]
    ++ t.entries.flatMap SiteEntry.bytes

/-- A normalized MARKER payload's bytes (R196). -/
def Marker.bytes (m : Marker) : List Byte :=
  [m.kind] ++ wordBytes m.key.lot ++ [m.key.wafer, m.recipe]

/-! ## Requests (R175, R195, R200) -/

/-- The node address in a route byte: its upper four bits. -/
def routeNode (route : Byte) : BitVec 4 := route.extractLsb' 4 4

/-- The requester a request names: the two lowest bits of its route byte; bits 3 and 2 are ignored (R195). -/
def requesterOf (rq : Request) : Fin 4 := ⟨(rq.route.extractLsb' 0 2).toNat, (rq.route.extractLsb' 0 2).isLt⟩

/-- A request with node address 15 is a broadcast (R175). -/
def isBroadcast (rq : Request) : Bool := routeNode rq.route == Config.broadcastNode

/-- A request is addressed to the part: its node address is the part's own, or 15 (R175). -/
def State.addressed (s : State) (route : Byte) : Bool :=
  routeNode route == s.node || routeNode route == Config.broadcastNode

/-! ## Codes (R195, R198, R200) -/

/-- The least of n and the greatest value m of a range 0 to m. -/
def clampFin (m n : Nat) : Fin (m + 1) := ⟨min n m, by omega⟩

/-- A field replaced by the nearest value of a range lo to hi. -/
def clampBits {w : Nat} (lo hi : Nat) (v : BitVec w) : BitVec w :=
  if v.toNat < lo then BitVec.ofNat w lo else if hi < v.toNat then BitVec.ofNat w hi else v

/-- A cell selector; none above 7. -/
def cellOfByte (b : Byte) : Option CellId := if h : b.toNat < 8 then some ⟨b.toNat, h⟩ else none

/-- A slot selector; none above 23. -/
def slotOfByte (b : Byte) : Option SlotId := if h : b.toNat < 24 then some ⟨b.toNat, h⟩ else none

/-- A recipe index; none above 7. -/
def recipeOfByte (b : Byte) : Option (Fin 8) := if h : b.toNat < 8 then some ⟨b.toNat, h⟩ else none

/-- A zone 1 to 8, as the index 0 to 7 of its entry; none otherwise (R45). -/
def zoneOfByte (b : Byte) : Option (Fin 8) :=
  if h : 1 ≤ b.toNat ∧ b.toNat ≤ 8 then some ⟨b.toNat - 1, by omega⟩ else none

/-- A bank selector; none when it names neither A nor B. -/
def bankOfByte (b : Byte) : Option BankId := if b = 0x0A then some .a else if b = 0x0B then some .b else none

/-- A yes/no, on/off or clear option; none when the code names nothing. -/
def boolOfByte (b : Byte) : Option Bool := if b = 0 then some false else if b = 1 then some true else none

/-- A mode code. -/
def modeOfByte (b : Byte) : Option Mode :=
  if b = 0 then some .off else if b = 1 then some .forward else if b = 2 then some .collate
  else if b = 3 then some .silent else none

/-- A byte-order code. -/
def orderOfByte (b : Byte) : Option ByteOrder :=
  if b = 0 then some .big else if b = 1 then some .little else none

/-- A polarity code. -/
def polarityOfByte (b : Byte) : Option Polarity :=
  if b = 0 then some .rising else if b = 1 then some .falling else none

/-- A glitch-filter selector; one beyond the last choice is 16 ms (R1). -/
def filterOfByte (b : Byte) : Filter :=
  if b = 0 then .off else if b = 1 then .ms1 else if b = 2 then .ms4 else .ms16

/-- A class code. -/
def classOfByte (b : Byte) : Option BinClass :=
  if b = 0 then some .pass else if b = 1 then some .fail else if b = 2 then some .recheck
  else if b = 3 then some .void else none

/-- A retest policy code. -/
def policyOfByte (b : Byte) : Option Policy :=
  if b = 0 then some .latest else if b = 1 then some .passWins else if b = 2 then some .recheckOnly else none

/-- A yield denominator code. -/
def denominatorOfByte (b : Byte) : Option Denominator :=
  if b = 0 then some .tested else if b = 1 then some .gross else none

/-- An export option code. -/
def exportOfByte (b : Byte) : Option ExportOption :=
  if b = 0 then some .summary else if b = 1 then some .summaryMap else none

/-- An alert kind code, 1 to 15. -/
def kindOfByte (b : Byte) : Option AlertKind :=
  if b = 1 then some .yieldLow else if b = 2 then some .zoneYieldLow else if b = 3 then some .binLimit
  else if b = 4 then some .siteRun else if b = 5 then some .noData else if b = 6 then some .unexpectedRetest
  else if b = 7 then some .seqGap else if b = 8 then some .lateResult else if b = 9 then some .keyConflict
  else if b = 10 then some .noSlot else if b = 11 then some .noFrame else if b = 12 then some .noRecipe
  else if b = 13 then some .dumpUnstable else if b = 14 then some .linkError
  else if b = 15 then some .fifoOverrun else none

/-- A mode's code. -/
def Mode.code : Mode → Byte
  | .off => 0 | .forward => 1 | .collate => 2 | .silent => 3

/-- A byte order's code. -/
def ByteOrder.code : ByteOrder → Byte
  | .big => 0 | .little => 1

/-- A polarity's code. -/
def Polarity.code : Polarity → Byte
  | .rising => 0 | .falling => 1

/-- A glitch filter's code. -/
def Filter.code : Filter → Byte
  | .off => 0 | .ms1 => 1 | .ms4 => 2 | .ms16 => 3

/-- A class's code. -/
def BinClass.code : BinClass → Byte
  | .pass => 0 | .fail => 1 | .recheck => 2 | .void => 3

/-- A policy's code. -/
def Policy.code : Policy → Byte
  | .latest => 0 | .passWins => 1 | .recheckOnly => 2

/-- A denominator's code. -/
def Denominator.code : Denominator → Byte
  | .tested => 0 | .gross => 1

/-- An export option's code. -/
def ExportOption.code : ExportOption → Byte
  | .summary => 0 | .summaryMap => 1

/-- A bank's letter code. -/
def BankId.code : BankId → Byte
  | .a => 0x0A | .b => 0x0B

/-- A bank state's code. -/
def BankState.code : BankState → Byte
  | .idle => 0 | .loading => 1 | .ready => 2 | .live => 3 | .retiring => 4

/-- A record state's code; a FREE slot's is 0. -/
def RecordState.code : RecordState → Byte
  | .opened => 1 | .closing => 2 | .closed => 3 | .exported => 4

/-- A close reason's code, 0 when absent. -/
def reasonCode : Option CloseReason → Byte
  | none => 0
  | some .nextWafer => 1
  | some .markerEnd => 2
  | some .lotEnd => 3
  | some .unload => 4
  | some .forced => 5
  | some .resultLimit => 6
  | some .host => 7
  | some .restart => 8

/-- A final outcome's code, 0 when absent. -/
def outcomeCode : Option Comparison → Byte
  | none => 0
  | some .lt => 1
  | some .eq => 2
  | some .gt => 3
  | some .un => 4

/-- A disposition's code, 0 when absent. -/
def dispositionCode : Option Disposition → Byte
  | none => 0
  | some .low => 1
  | some .passed => 2
  | some .nodata => 3

/-- An alert kind's place in the level table: its code less 1. -/
def AlertKind.index : AlertKind → Fin 15
  | .yieldLow => 0 | .zoneYieldLow => 1 | .binLimit => 2 | .siteRun => 3 | .noData => 4
  | .unexpectedRetest => 5 | .seqGap => 6 | .lateResult => 7 | .keyConflict => 8 | .noSlot => 9
  | .noFrame => 10 | .noRecipe => 11 | .dumpUnstable => 12 | .linkError => 13 | .fifoOverrun => 14

/-- An alert kind's code. -/
def AlertKind.code (k : AlertKind) : Byte := natByte (k.index.val + 1)

/-- An origin's code. -/
def Origin.code : Origin → Byte
  | .chain => 0 | .request => 1

/-- A small index as a byte, 0xFF when absent (R198). -/
def indexByte {n : Nat} : Option (Fin n) → Byte
  | none => 0xFF
  | some i => natByte i.val

/-- A yield, share or limit as two bytes, 0xFFFF when absent (R198). -/
def yieldBytes : Option Nat → List Byte
  | none => [0xFF, 0xFF]
  | some n => natHalf n

/-- A time, serial or lot as four bytes, 0 when absent (R198). -/
def timeBytes : Option Word → List Byte
  | none => [0, 0, 0, 0]
  | some t => wordBytes t

end Sys2Proof.Machine
end

