-- ==== Sys2Proof/Machine/Flags.lean ====
section
/-! DEFINITION. The arithmetic of the counts and yields: saturating counters, the ratio, the compare, a record's
yields, and OVER_GROSS (R14, R118 to R122). -/

namespace Sys2Proof.Machine

/-- A counter of w bits that saturates at its largest value, increased by n. -/
def satAdd {w : Nat} (a : BitVec w) (n : Nat) : BitVec w := BitVec.ofNat w (min (a.toNat + n) (2 ^ w - 1))

/-- The ratio Q(n, d) in basis points: absent when d is 0, else floor(n × 10000 / d) capped at 10000 (R118). -/
def ratio (n d : Nat) : Option Nat := if d = 0 then none else some (min (n * 10000 / d) 10000)

/-- A compare of a value against a limit (R121). -/
def compareLimit (v : Option Nat) (limit : Nat) : Comparison :=
  match v with
  | none => .un
  | some n => if n < limit then .lt else if n = limit then .eq else .gt

/-- The wafer yield Y: P over T, or over the recipe's G, by the recipe's denominator (R119). -/
def Record.waferYield (r : Record) (rc : Recipe) : Option Nat :=
  match rc.denominator with
  | .tested => ratio r.counts.p.toNat r.counts.t.toNat
  | .gross => ratio r.counts.p.toNat rc.gross.toNat

/-- The first-pass yield (R119). -/
def Record.firstPassYield (r : Record) : Option Nat := ratio r.counts.fp.toNat r.counts.t.toNat

/-- The bin share of a bin (R119). -/
def Record.binShare (r : Record) (b : Fin 64) : Option Nat := ratio r.bins[b.val].toNat r.counts.t.toNat

/-- The zone yield of a zone (R119). -/
def Record.zoneYield (r : Record) (z : Fin 9) : Option Nat :=
  ratio r.zones[z.val].passed.toNat r.zones[z.val].tested.toNat

/-- The site yield of a site (R119). -/
def Record.siteYield (r : Record) (i : Fin 16) : Option Nat :=
  ratio r.sites[i.val].passes.toNat r.sites[i.val].results.toNat

/-- T + R, the count the result cap bounds (R61). -/
def Record.results (r : Record) : Nat := r.counts.t.toNat + r.counts.r.toNat

/-- The record stands at the result cap (R61, R65). -/
def Record.atCap (r : Record) : Bool := decide (Config.resultCap ≤ r.results)

/-- OVER_GROSS is set when the denominator is GROSS and P is greater than G, and stays set (R120). -/
def Record.updateOverGross (r : Record) (rc : Recipe) : Record :=
  if rc.denominator = .gross ∧ rc.gross.toNat < r.counts.p.toNat then
    { r with flags := { r.flags with overGross := true } }
  else r

/-- The outcome's disposition (R129). -/
def dispositionOf : Comparison → Disposition
  | .un => .nodata
  | .lt => .low
  | .eq => .passed
  | .gt => .passed

end Sys2Proof.Machine
end

