-- ==== Sys2Proof/Machine/Alerts.lean ====
section
/-! DEFINITION. Raising an alert: suppression, the STOP test, merge, insertion and eviction (R139 to R149). -/

namespace Sys2Proof.Machine

/-- The level a kind holds in the table (R139). -/
def AlertUnit.level (u : AlertUnit) (k : AlertKind) : Fin 8 := u.levels[k.index.val]

/-- Two alerts have the same coalescing key: kind, cell, slot and index, an absent field matching only an absent one
(R142). -/
def Alert.sameKey (a b : Alert) : Bool :=
  a.kind == b.kind && a.cell == b.cell && a.slot == b.slot && a.index == b.index

/-- An entry after a repeat is merged into it at time `now`: one more occurrence, the new last time and value, and
the new wafer key when the alert carries one (R144). -/
def AlertEntry.merge (e : AlertEntry) (a : Alert) (now : Word) : AlertEntry :=
  { e with
    alert := { e.alert with value := a.value, key := match a.key with | some k => some k | none => e.alert.key }
    occ := satAdd e.occ 1
    lastTime := now }

/-- A new entry for an alert (R141). -/
def newEntry (a : Alert) (level : Fin 8) (now : Word) : AlertEntry :=
  { alert := a, level := level, firstTime := now, lastTime := now, occ := 1 }

/-- Insert an entry behind every entry of its level or higher and ahead of every lower one (R145). -/
def insertEntry (q : List AlertEntry) (e : AlertEntry) : List AlertEntry :=
  q.takeWhile (fun x => decide (e.level ≤ x.level)) ++ e :: q.dropWhile (fun x => decide (e.level ≤ x.level))

/-- The lowest stored level among the entries, λ in R146. -/
def lowestLevel (q : List AlertEntry) : Fin 8 := q.foldr (fun e m => min e.level m) 7

/-- Discard the entry of a level that was inserted most recently: the last of that level (R145, R146). -/
def discardNewest (q : List AlertEntry) (level : Fin 8) : List AlertEntry :=
  (q.reverse.eraseP fun e => e.level == level).reverse

/-- The queue after a raise that is not suppressed (R144 to R146). -/
def queueRaise (q : List AlertEntry) (a : Alert) (level : Fin 8) (now : Word) : List AlertEntry :=
  if q.any fun e => e.alert.sameKey a then
    q.map fun e => if e.alert.sameKey a then e.merge a now else e
  else if q.length < Config.alertCap then insertEntry q (newEntry a level now)
  else if lowestLevel q < level then insertEntry (discardNewest q (lowestLevel q)) (newEntry a level now)
  else q

/-- Set a cell's STOP latch (R32). -/
def State.setStop (s : State) (c : CellId) : State := s.modCell c fun k => { k with stopLatch := true }

/-- The level of cell c's STOP line, true when it is asserted: it follows the STOP latch, and is deasserted while RESET_N
is held (R32). RESET_N is asserted and released within one POWER_ON_RESET, so the line while it is held is this
function at `resetHeld`, of any state (notes/assumptions/28.md). -/
def State.stopLine (s : State) (resetHeld : Bool) (c : CellId) : Bool := !resetHeld && (s.cell c).stopLatch

/-- The STOP test of a raise at a level: an alert that carries a cell, at or above the threshold, sets the cell's
latch (R148). -/
def State.stopTest (s : State) (a : Alert) (level : Fin 8) : State :=
  match a.cell with
  | none => s
  | some c => if s.alerts.threshold.val ≤ level.val then s.setStop c else s

/-- Raise an alert: suppressed at level 0 (R143), else the STOP test and then the queue. -/
def State.raise (s : State) (a : Alert) : State :=
  if s.alerts.level a.kind = 0 then s
  else (s.stopTest a (s.alerts.level a.kind)).withAlerts
    { s.alerts with queue := queueRaise s.alerts.queue a (s.alerts.level a.kind) s.time }

/-- Raise several alerts in order. -/
def State.raiseAll (s : State) (as : List Alert) : State := as.foldl State.raise s

end Sys2Proof.Machine
end

