-- ==== Sys2Proof/Machine/Tally.lean ====
section
/-! DEFINITION. The tally unit: limit checks at checkpoints and at seal, and the site runs (chapter 7, R64). -/

namespace Sys2Proof.Machine

/-- An alert of a limit check, with the record's cell, slot and key (R125). -/
def Record.limitAlert (r : Record) (slot : SlotId) (kind : AlertKind) (index : Option Nat) (value : Option Nat) :
    Alert :=
  { kind := kind, cell := some r.cell, slot := some slot, key := some r.key, index := index,
    value := value.map (BitVec.ofNat 16) }

/-- The entries of the zone table, Z1 to Z8, by index 0 to 7. -/
def allZoneEntries : List (Fin 8) := [0, 1, 2, 3, 4, 5, 6, 7]

/-- The hall bins B0 to B63. -/
def allBins : List (Fin 64) := List.finRange 64

/-- The zone a zone entry gives. -/
def zoneOfEntry (i : Fin 8) : Fin 9 := i.succ

/-- ZONE_YIELD_LOW for one zone, when its tested count is at least `minTested` and its yield is below its limit
(group 2 of R124, group 1 of R130). -/
def Record.zoneAlert (r : Record) (slot : SlotId) (k : Bank) (minTested : Nat) (i : Fin 8) : List Alert :=
  if minTested ≤ r.zones[(zoneOfEntry i).val].tested.toNat ∧
      compareLimit (r.zoneYield (zoneOfEntry i)) k.zones[i.val].limit.toNat = .lt then
    [r.limitAlert slot .zoneYieldLow (some (i.val + 1)) (r.zoneYield (zoneOfEntry i))]
  else []

/-- BIN_LIMIT for one bin, when its limit is below 10000 and its share is above it (group 3 of R124, group 2 of
R130). -/
def Record.binAlert (r : Record) (slot : SlotId) (k : Bank) (b : Fin 64) : List Alert :=
  if k.bins[b.val].limit.toNat < 10000 ∧ compareLimit (r.binShare b) k.bins[b.val].limit.toNat = .gt then
    [r.limitAlert slot .binLimit (some b.val) (r.binShare b)]
  else []

/-- The zone alerts and then the bin alerts of a limit check, each in ascending order. -/
def Record.limitAlerts (r : Record) (slot : SlotId) (k : Bank) (minTested : Nat) : List Alert :=
  allZoneEntries.flatMap (r.zoneAlert slot k minTested) ++ allBins.flatMap (r.binAlert slot k)

/-- The alerts of a checkpoint evaluation (R124). -/
def Record.checkpointAlerts (r : Record) (slot : SlotId) (rc : Recipe) (k : Bank) : List Alert :=
  (if compareLimit (r.waferYield rc) rc.yieldLimit.toNat = .lt then
    [r.limitAlert slot .yieldLow none (r.waferYield rc)] else [])
    ++ r.limitAlerts slot k rc.minSample.toNat

/-- The checkpoint test of a record, once for each touchdown bound to it (R123). -/
def State.checkpointTest (s : State) (slot : SlotId) : State :=
  match s.record slot with
  | none => s
  | some r0 =>
    let rc := s.recipeOf r0
    let r := r0.updateOverGross rc
    let crossing := r.counts.t.toNat / rc.interval.toNat
    if rc.interval = 0 then s.setSlot slot (some r)
    else if crossing ≤ r.checkpoint.toNat then s.setSlot slot (some r)
    else
      let s1 := s.setSlot slot (some { r with checkpoint := BitVec.ofNat 32 crossing })
      if rc.minSample.toNat ≤ r.counts.t.toNat then s1.raiseAll (r.checkpointAlerts slot rc (s.bank r.bank)) else s1

/-- The wafer-yield alert of the final evaluation (R129). -/
def Record.finalYieldAlert (r : Record) (slot : SlotId) (rc : Recipe) : List Alert :=
  match compareLimit (r.waferYield rc) rc.yieldLimit.toNat with
  | .un => [r.limitAlert slot .noData none none]
  | .lt => [r.limitAlert slot .yieldLow none (r.waferYield rc)]
  | .eq => []
  | .gt => []

/-- The record with the results of its final evaluation stored (R129). -/
def Record.withFinal (r0 : Record) (rc : Recipe) : Record :=
  let r := r0.updateOverGross rc
  let out := compareLimit (r.waferYield rc) rc.yieldLimit.toNat
  { r with
    outcome := some out
    finalYield := (r.waferYield rc).map (BitVec.ofNat 16)
    disposition := some (dispositionOf out) }

/-- The alerts of the final evaluation, in order: wafer yield, zones with a tested count above 0, bins (R129,
R130). -/
def Record.finalAlerts (r : Record) (slot : SlotId) (rc : Recipe) (k : Bank) : List Alert :=
  r.finalYieldAlert slot rc ++ r.limitAlerts slot k 1

/-- The final evaluation of a record being sealed: the stored results and the alerts (R128 to R130). -/
def State.finalEvaluation (s : State) (slot : SlotId) : State :=
  match s.record slot with
  | none => s
  | some r =>
    let rc := s.recipeOf r
    (s.setSlot slot (some (r.withFinal rc))).raiseAll (r.finalAlerts slot rc (s.bank r.bank))

/-- The site-run update and check of one result (R64, R134). `limit` is the site-run limit of the recipe of the
record being collated. -/
def State.siteRun (s : State) (c : CellId) (i : Fin 16) (cls : BinClass) (limit : Nat) : State :=
  match cls with
  | .void => s
  | .pass => s.modCell c fun k => { k with runs := k.runs.set i.val 0, suspects := k.suspects.set i.val false }
  | .fail | .recheck =>
    let n := satAdd (s.cell c).runs[i.val] 1
    let s1 := s.modCell c fun k => { k with runs := k.runs.set i.val n }
    if 0 < limit ∧ limit ≤ n.toNat ∧ (s.cell c).suspects[i.val] = false then
      (s1.modCell c fun k => { k with suspects := k.suspects.set i.val true }).raise
        { kind := .siteRun, cell := some c, index := some i.val, value := some (n.setWidth 16) }
    else s1

end Sys2Proof.Machine
end

