-- ==== Sys2Proof/Machine/Export.lean ====
section
/-! DEFINITION. The export engine's shared operations: the SUM queue and the owed list, the progress timers, the map
pending list, and the dump (R161 to R173). -/

namespace Sys2Proof.Machine

/-! ## The SUM queue and the owed list -/

/-- Set or clear SUMMARY_OWED on the record in a slot. -/
def State.setOwedFlag (s : State) (i : SlotId) (b : Bool) : State :=
  s.modRecord i fun r => { r with flags := { r.flags with summaryOwed := b } }

/-- Take a slot off the owed list and clear its record's SUMMARY_OWED, without queuing anything (R164). -/
def State.dropOwed (s : State) (i : SlotId) : State :=
  if i ∈ s.xport.owed then
    (s.setOwedFlag i false).withXport { s.xport with owed := s.xport.owed.erase i }
  else s

/-- A departure has left a place: the first record on the owed list, if there is one, is queued as FINAL at the tail
(R161, R164). -/
def State.fillPlace (s : State) : State :=
  match s.xport.owed with
  | [] => s
  | i :: rest =>
    (s.setOwedFlag i false).withXport { s.xport with owed := rest, sumQ := s.xport.sumQ ++ [(i, .final)] }

/-- Remove an entry from the SUM queue, if it is queued, and fill the place it leaves (R161). -/
def State.removeSum (s : State) (e : SlotId × SumKind) : State :=
  if e ∈ s.xport.sumQ then (s.withXport { s.xport with sumQ := s.xport.sumQ.erase e }).fillPlace else s

/-- How queuing a FINAL came out (R163, R189). -/
inductive SendOutcome where
  | queued
  | present
  | owed
  deriving DecidableEq, Repr

/-- How queuing a FINAL for a slot comes out, by steps 1 to 4 of R163: already queued, room, a PROGRESS entry to
replace, or owed. -/
def ExportEngine.finalOutcome (x : ExportEngine) (i : SlotId) : SendOutcome :=
  if (i, SumKind.final) ∈ x.sumQ then .present
  else if x.sumQ.length < Config.sumCap ∨ x.sumQ.any (fun e => e.2 == .progress) then .queued
  else .owed

/-- Queue a FINAL for a slot, by steps 1 to 4 of R163. -/
def State.queueFinal (s : State) (i : SlotId) : State :=
  if (i, SumKind.final) ∈ s.xport.sumQ then s
  else if s.xport.sumQ.length < Config.sumCap then
    s.withXport { s.xport with sumQ := s.xport.sumQ ++ [(i, .final)] }
  else if s.xport.sumQ.any fun e => e.2 == .progress then
    s.withXport { s.xport with sumQ := (s.xport.sumQ.eraseP fun e => e.2 == .progress) ++ [(i, .final)] }
  else (s.setOwedFlag i true).withXport { s.xport with owed := s.xport.owed ++ [i] }

/-- Step 5 of a seal: the record's PROGRESS entry leaves the queue, and its FINAL is queued or owed (R163). -/
def State.handToExport (s : State) (i : SlotId) : State := (s.removeSum (i, .progress)).queueFinal i

/-- A PROGRESS request for a slot (R162). -/
def State.requestProgress (s : State) (i : SlotId) : State :=
  if (i, SumKind.progress) ∈ s.xport.sumQ then s
  else if s.xport.sumQ.length < Config.sumCap then
    s.withXport { s.xport with sumQ := s.xport.sumQ ++ [(i, .progress)] }
  else s

/-! ## Progress timers -/

/-- A slot's progress timer; none when stopped (R162). -/
def State.progressTimer (s : State) (i : SlotId) : Option Timer := s.xport.progress[i.val]

/-- Start, restart or stop a slot's progress timer. -/
def State.setProgress (s : State) (i : SlotId) (t : Option Timer) : State :=
  s.withXport { s.xport with progress := s.xport.progress.set i.val t }

/-- The progress timer a recipe starts: its period in milliseconds, none when the period is 0 (R162). -/
def Recipe.progressTimer (rc : Recipe) : Option Timer :=
  if rc.period = 0 then none else some { elapsed := 0, length := 1000 * rc.period.toNat }

/-- Start the progress timer of a slot whose record has become OPEN (R162). -/
def State.startProgress (s : State) (i : SlotId) : State :=
  match s.record i with
  | none => s
  | some r => s.setProgress i (s.recipeOf r).progressTimer

/-! ## The map pending list and the dump -/

/-- Change the dump in progress; nothing when there is none. -/
def State.modDump (s : State) (f : Dump → Dump) : State :=
  s.withXport { s.xport with dump := s.xport.dump.map f }

/-- The dump context at the start of a dump of a record that holds a frame (R169). -/
def newDump (slot : SlotId) (origin : Origin) (r : Record) (f : FrameId) (rc : Recipe) : Dump :=
  { slot := slot, frame := f, origin := origin, nextRow := 0, rows := rc.height.toNat, width := rc.width.toNat,
    restarts := 0, live := r.isActive, dirty := false, unstable := false, aborted := false, begun := false,
    gone := false }

/-- The dump the head entry of the map pending list would start; none when its record holds no frame, which the
list's law excludes (R168). -/
def State.dumpFor (s : State) (e : SlotId × Origin) : Option Dump :=
  match s.record e.1 with
  | none => none
  | some r => r.frame.map fun f => newDump e.1 e.2 r f (s.recipeOf r)

/-- Start a dump when none is in progress and the map pending list is not empty (R169). -/
def State.startDump (s : State) : State :=
  match s.xport.dump, s.xport.mapQ with
  | none, e :: rest => s.withXport { s.xport with mapQ := rest, dump := s.dumpFor e }
  | _, _ => s

/-- A slot joins the map pending list by the FINAL chain, and a dump starts if none runs (R168, R169). -/
def State.chainMap (s : State) (i : SlotId) : State :=
  if s.xport.mapQ.any fun e => e.1 == i then
    s.withXport { s.xport with mapQ := s.xport.mapQ.map fun e => if e.1 = i then (i, .chain) else e }
  else (s.withXport { s.xport with mapQ := s.xport.mapQ ++ [(i, .chain)] }).startDump

/-- A slot joins the map pending list by MAP_SEND, unless it is on it, and a dump starts if none runs (R168, R169). -/
def State.requestMap (s : State) (i : SlotId) : State :=
  if s.xport.mapQ.any fun e => e.1 == i then s
  else (s.withXport { s.xport with mapQ := s.xport.mapQ ++ [(i, .request)] }).startDump

/-- A slot's entry leaves the map pending list (R168). -/
def State.removePending (s : State) (i : SlotId) : State :=
  s.withXport { s.xport with mapQ := s.xport.mapQ.filter fun e => e.1 != i }

/-- The reclaim of a record's frame ends its dump with ABORTED (R172). -/
def State.abortDumpOf (s : State) (i : SlotId) : State :=
  s.modDump fun d => if d.slot = i ∧ d.gone = false then { d with aborted := true } else d

/-- The free of a record ends its dump with ABORTED; the dump's end then acts on no record (R172, R173). -/
def State.loseDumpOf (s : State) (i : SlotId) : State :=
  s.modDump fun d => if d.slot = i ∧ d.gone = false then { d with aborted := true, gone := true } else d

/-- The resume of a record turns its dump's origin to REQUEST (R172). -/
def State.unchainDumpOf (s : State) (i : SlotId) : State :=
  s.modDump fun d => if d.slot = i ∧ d.gone = false then { d with origin := .request } else d

/-- A change notice for a row of a slot's frame: a row already read sets dirty-behind (R113, R171). -/
def State.changeNotice (s : State) (i : SlotId) (f : FrameId) (row : Nat) : State :=
  s.modDump fun d =>
    if d.slot = i ∧ d.frame = f ∧ d.gone = false ∧ row < d.nextRow then { d with dirty := true } else d

/-- A frame in transmission no longer acts on a slot's record: it has been freed or resumed since the take (R166,
R173). -/
def TxAction.cancelFor (a : TxAction) (i : SlotId) : TxAction :=
  match a with
  | .final j => if j = i then .nothing else .final j
  | .mapEnd j b => if j = i then .nothing else .mapEnd j b
  | .mapRow => .mapRow
  | .nothing => .nothing

/-- Cancel what a frame in transmission would do to a slot's record (R166, R173). -/
def State.cancelTx (s : State) (i : SlotId) : State :=
  s.withHall { s.hall with tx := s.hall.tx.map fun t => { t with action := t.action.cancelFor i } }

end Sys2Proof.Machine
end

