-- ==== Sys2Proof/Machine/Directory.lean ====
section
/-! DEFINITION. The wafer directory: seals, frees, entries to CLOSING, openings, resumes, boundaries and the
resolution of a touchdown's key (chapter 5). -/

namespace Sys2Proof.Machine

/-! ## The bound counts (R42, R53) -/

/-- One record more is bound to a bank (R42). -/
def State.bindBank (s : State) (i : BankId) : State :=
  s.setBank i { s.bank i with bound := (s.bank i).bound + 1 }

/-- A bank after one record less is bound to it; a RETIRING bank whose count falls to 0 becomes IDLE (R42, R53). -/
def Bank.unbind (k : Bank) : Bank :=
  { k with bound := k.bound - 1, state := if k.state = .retiring ∧ k.bound - 1 = 0 then .idle else k.state }

/-- One record less is bound to a bank (R42, R53). -/
def State.unbindBank (s : State) (i : BankId) : State := s.setBank i (s.bank i).unbind

/-! ## Sealing (R90, R91) -/

/-- Stop a cell's grace timer (R76). -/
def State.stopGrace (s : State) (c : CellId) : State := s.modCell c fun k => { k with graceTimer := none }

/-- The record after step 1 of a seal: CLOSED, stamped, with the reason of the seal (`none` keeps the reason of the
entry to CLOSING); a record sealed straight from OPEN takes its close-start time from the seal (R71, R91). -/
def Record.sealed (r : Record) (reason : Option CloseReason) (now : Word) (rc : Recipe) : Record :=
  { r with
    state := .closed
    sealTime := some now
    reason := match reason with | some w => some w | none => r.reason
    closeStart := if r.state = .closing then r.closeStart else some now
    recipeCopy := some rc }

/-- Steps 1 and 2 of a seal: the record's state, stamps, reason and recipe copy, and its stopped timers (R91). -/
def State.sealRecord (s : State) (i : SlotId) (r : Record) (reason : Option CloseReason) : State :=
  let s1 := s.setSlot i (some (r.sealed reason s.time (s.recipeOf r)))
  let s2 := s1.withDir { s1.dir with sealOrder := s1.dir.sealOrder.erase i ++ [i] }
  let s3 := s2.setProgress i none
  if r.state = .closing then s3.stopGrace r.cell else s3

/-- Seal the record in a slot, as one event, in the order of R91; nothing for a record that is not OPEN or
CLOSING. -/
def State.sealSlot (s : State) (i : SlotId) (reason : Option CloseReason) : State :=
  match s.record i with
  | none => s
  | some r =>
    if r.isActive then
      ((((s.sealRecord i r reason).finalEvaluation i).clearTagsOn i).handToExport i).unbindBank r.bank
    else s

/-- Seal a record if there is one. -/
def State.sealIf (s : State) (i : Option SlotId) (reason : CloseReason) : State :=
  match i with
  | none => s
  | some i => s.sealSlot i (some reason)

/-! ## Freeing (R93) -/

/-- A freed record's frame returns to the tail of the free-frame list (R99). -/
def State.returnFrame (s : State) (f : Option FrameId) : State :=
  match f with
  | none => s
  | some f => s.withMaps { s.maps with free := s.maps.free ++ [f] }

/-- The slot becomes FREE and leaves the export order list. -/
def State.emptySlot (s : State) (i : SlotId) : State :=
  s.withDir
    { slots := s.dir.slots.set i.val none, exportOrder := s.dir.exportOrder.erase i,
      sealOrder := s.dir.sealOrder.erase i }

/-- Free the record in a slot (R93); nothing when the slot is FREE. -/
def State.freeRecord (s : State) (i : SlotId) : State :=
  match s.record i with
  | none => s
  | some r =>
    let s1 := if r.state = .closing then s.stopGrace r.cell else s
    let s2 := if r.isActive then s1.unbindBank r.bank else s1
    let s3 := (((s2.dropOwed i).emptySlot i).setProgress i none).returnFrame r.frame
    let s4 := (s3.removeSum (i, .final)).removeSum (i, .progress)
    ((((s4.removePending i).loseDumpOf i).cancelTx i)).clearTagsOn i

/-! ## Closing (R75) -/

/-- A record as it enters CLOSING (step 2 of R75). -/
def Record.enterClosing (r : Record) (reason : CloseReason) (stamp : Word) : Record :=
  { r with state := .closing, reason := some reason, closeStart := some stamp }

/-- Step 3 of R75: start the cell's grace timer, or seal at once when the grace setting is 0. -/
def State.startGrace (s : State) (i : SlotId) (c : CellId) : State :=
  if (s.cell c).cfg.grace = 0 then s.sealSlot i none
  else s.modCell c fun k => { k with graceTimer := some { elapsed := 0, length := 20 * k.cfg.grace.toNat } }

/-- Move an OPEN record to CLOSING, in the order of R75. `stamp` is the event's stamp. -/
def State.moveToClosing (s : State) (i : SlotId) (reason : CloseReason) (stamp : Word) : State :=
  match s.record i with
  | none => s
  | some r =>
    let s1 := s.sealIf (s.closingOn r.cell) .forced
    let s2 := (s1.modRecord i fun r => r.enterClosing reason stamp).setProgress i none
    s2.startGrace i r.cell

/-- Move a cell's OPEN record to CLOSING if it has one (step 2 of R82). -/
def State.closeOpen (s : State) (c : CellId) (reason : CloseReason) (stamp : Word) : State :=
  match s.openOn c with
  | none => s
  | some i => s.moveToClosing i reason stamp

/-! ## Resuming (R83) -/

/-- A record that an opening of key k may resume (R83). -/
def State.resumable (s : State) (k : Key) (r : Record) : Bool :=
  r.isSealed && r.key == k && s.liveBank == some r.bank && r.gen == (s.bank r.bank).gen && r.frame.isSome
    && !r.flags.tallyOnly && !r.flags.mapAbsent && decide (r.results < Config.resultCap)

/-- A record as a resume leaves it: OPEN on cell c, its results and closing fields absent (R83). -/
def Record.resumed (r : Record) (c : CellId) : Record :=
  { r with
    state := .opened, cell := c, reason := none, closeStart := none, sealTime := none, outcome := none,
    finalYield := none, disposition := none, recipeCopy := none,
    flags := { r.flags with summaryOwed := false } }

/-- Resume the record in a slot on cell c (R83). -/
def State.resumeSlot (s : State) (i : SlotId) (c : CellId) : State :=
  match s.record i with
  | none => s
  | some r =>
    let s1 := (s.dropOwed i).removeSum (i, .final)
    let s2 := ((s1.removePending i).unchainDumpOf i).cancelTx i
    let s3 := s2.withDir
      { s2.dir with exportOrder := s2.dir.exportOrder.erase i, sealOrder := s2.dir.sealOrder.erase i }
    let s4 := s3.modRecord i fun r => r.resumed c
    (s4.bindBank r.bank).startProgress i

/-! ## A fresh opening (R84 to R87) -/

/-- How a key resolves, or how a boundary's opening ends (R57). -/
inductive Resolution where
  | record (slot : SlotId)
  | late
  | conflict
  | noSlot
  | noRecipe
  deriving DecidableEq, Repr

/-- The slot of a resolution, none when it gave no record. -/
def Resolution.slot : Resolution → Option SlotId
  | .record i => some i
  | .late => none
  | .conflict => none
  | .noSlot => none
  | .noRecipe => none

/-- Free every EXPORTED record with key k, in ascending order of slot (R84, R99). -/
def State.freeExportedWith (s : State) (k : Key) : State :=
  allSlots.foldl (fun s i => match s.record i with
    | none => s
    | some r => if r.state = .exported ∧ r.key = k then s.freeRecord i else s) s

/-- The recipe a fresh opening on cell c chooses in bank lb: the BEGIN's, if it is in use there, else the cell's
default, if it is in use there (R84). -/
def State.chooseRecipe (s : State) (c : CellId) (lb : BankId) (wanted : Option (Fin 8)) : Option (Fin 8) :=
  let inUse (r : Fin 8) : Bool := (s.bank lb).recipes[r.val].inUse
  let dflt := if inUse (s.cell c).cfg.recipe then some (s.cell c).cfg.recipe else none
  match wanted with
  | none => dflt
  | some r => if inUse r then some r else dflt

/-- Take a slot for a fresh opening: the lowest FREE slot, else the head of the export order list, whose record is
freed; none when there is neither (R85). -/
def State.takeSlot (s : State) : State × Option SlotId :=
  match s.freeSlot? with
  | some i => (s, some i)
  | none => match s.dir.exportOrder with
    | [] => (s, none)
    | i :: _ => (s.freeRecord i, some i)

/-- The oldest record on the export order list that holds a frame, with its frame (R86). -/
def State.oldestWithFrame (s : State) : Option (SlotId × FrameId) :=
  s.dir.exportOrder.findSome? fun i => match s.record i with
    | none => none
    | some r => r.frame.map fun f => (i, f)

/-- A record that has given up its frame to a reclaim (R86). -/
def Record.loseFrame (r : Record) : Record :=
  { r with frame := none, flags := { r.flags with mapAbsent := true } }

/-- Take a frame for a fresh opening: the head of the free-frame list, else the frame of the oldest exported record
that holds one; none when there is neither (R86, R100). -/
def State.takeFrame (s : State) : State × Option FrameId :=
  match s.maps.free with
  | f :: rest => (s.withMaps { s.maps with free := rest }, some f)
  | [] => match s.oldestWithFrame with
    | none => (s, none)
    | some (j, f) => (((s.modRecord j Record.loseFrame).abortDumpOf j).removePending j, some f)

/-- Clear a frame as it is bound: every die cell UNTESTED, the change serial 0 (R101). -/
def State.clearFrame (s : State) (f : Option FrameId) : State :=
  match f with
  | none => s
  | some f => s.setFrame f { dies := [], serial := 0 }

/-- The record a fresh opening completes (R72, R87). -/
def freshRecord (k : Key) (c : CellId) (recipe : Fin 8) (lb : BankId) (gen : Word) (f : Option FrameId)
    (load : Option Word) (now : Word) : Record :=
  { state := .opened, key := k, cell := c, recipe := recipe, bank := lb, gen := gen, frame := f, reason := none,
    loadTime := load, openTime := now, closeStart := none, sealTime := none,
    counts := { t := 0, p := 0, fp := 0, r := 0, u := 0, v := 0, o := 0, clash := 0, badSite := 0 },
    gapSum := 0, bins := .replicate 64 0, zones := .replicate 9 { tested := 0, passed := 0 },
    sites := .replicate 16 { results := 0, passes := 0 }, checkpoint := 0, outcome := none, finalYield := none,
    disposition := none,
    flags := { tallyOnly := f.isNone, mapAbsent := false, overGross := false, summaryOwed := false },
    recipeCopy := none }

/-- Complete a fresh record in a slot with the frame taken, or TALLY_ONLY with NO_FRAME when there is none (R86,
R87). -/
def State.openIn (s : State) (i : SlotId) (f : Option FrameId) (c : CellId) (k : Key) (recipe : Fin 8) (lb : BankId) :
    State :=
  let s0 := if f.isNone then
      s.raise { kind := .noFrame, cell := some c, slot := some i, key := some k } else s
  let r := freshRecord k c recipe lb (s.bank lb).gen f (s.cell c).pendingLoad s.time
  let s1 := (s0.clearFrame f).setSlot i (some r)
  let s2 := s1.modCell c fun x => { x with pendingLoad := none }
  (s2.bindBank lb).startProgress i

/-- A fresh opening of key k on cell c in LIVE bank lb (R84 to R87). -/
def State.openFresh (s : State) (c : CellId) (k : Key) (wanted : Option (Fin 8)) (lb : BankId) : State × Resolution :=
  let s1 := s.freeExportedWith k
  match s1.chooseRecipe c lb wanted with
  | none => (s1.raise { kind := .noRecipe, cell := some c, key := some k }, .noRecipe)
  | some recipe =>
    match s1.takeSlot with
    | (s2, none) => (s2.raise { kind := .noSlot, cell := some c, key := some k }, .noSlot)
    | (s2, some i) => (s2.takeFrame.1.openIn i s2.takeFrame.2 c k recipe lb, .record i)

/-- An opening of key k on cell c, in the order of R82. -/
def State.openWafer (s : State) (c : CellId) (k : Key) (wanted : Option (Fin 8)) (lb : BankId) : State × Resolution :=
  let s1 := s.sealIf (s.closingOn c) .forced
  let s2 := s1.closeOpen c .nextWafer s1.time
  match s2.findSlot (s2.resumable k) with
  | some i => (s2.resumeSlot i c, .record i)
  | none => s2.openFresh c k wanted lb

/-! ## Boundaries (R78 to R81) -/

/-- END(k) from cell c: the slot moved to CLOSING, or none (R78). -/
def State.endMarker (s : State) (c : CellId) (k : Key) : State × Option SlotId :=
  match s.findSlot fun r => r.state == .opened && r.cell == c && r.key == k with
  | none => (s, none)
  | some i => (s.moveToClosing i .markerEnd s.time, some i)

/-- LOT_END(lot) from cell c: the slot moved to CLOSING, or none (R79). -/
def State.lotEndMarker (s : State) (c : CellId) (lot : Word) : State × Option SlotId :=
  match s.findSlot fun r => r.state == .opened && r.cell == c && r.key.lot == lot with
  | none => (s, none)
  | some i => (s.moveToClosing i .lotEnd s.time, some i)

/-- An UNLOAD event for cell c with its edge's stamp (R80). -/
def State.unloadEvent (s : State) (c : CellId) (stamp : Word) : State := s.closeOpen c .unload stamp

/-- A CLOSING record as it returns to OPEN (R81). -/
def Record.reopened (r : Record) : Record := { r with state := .opened, reason := none, closeStart := none }

/-- The return of c's CLOSING record in slot i to OPEN, in the order of R81: it leaves CLOSING, then c's OPEN record
moves to CLOSING with NEXT_WAFER, then it is OPEN and its progress timer starts. -/
def State.returnToOpen (s : State) (c : CellId) (i : SlotId) : State :=
  let other := s.openOn c
  let s1 := (s.stopGrace c).modRecord i Record.reopened
  let s2 := match other with
    | none => s1
    | some j => s1.moveToClosing j .nextWafer s1.time
  s2.startProgress i

/-- The alert of a conflicting key: the cell whose frame conflicted, the key, and the slot of the record that holds
the key on the other cell (R81, R88). -/
def conflictAlert (c : CellId) (k : Key) (i : SlotId) : Alert :=
  { kind := .keyConflict, cell := some c, slot := some i, key := some k }

/-- BEGIN(k, recipe) from cell c with LIVE bank lb (R81). -/
def State.beginMarker (s : State) (c : CellId) (k : Key) (wanted : Option (Fin 8)) (lb : BankId) :
    State × Option SlotId :=
  match s.activeWith k with
  | some i => match s.record i with
    | none => (s, none)
    | some r =>
      if r.cell ≠ c then (s.raise (conflictAlert c k i), none)
      else if r.state = .opened then (s, some i)
      else (s.returnToOpen c i, some i)
  | none => ((s.openWafer c k wanted lb).1, (s.openWafer c k wanted lb).2.slot)

/-! ## Resolving a touchdown's key (R88) -/

/-- The slot of the record with key k that sealed most recently. -/
def State.lastSealedWith (s : State) (k : Key) : Option SlotId :=
  s.dir.sealOrder.reverse.find? fun i => match s.record i with
    | none => false
    | some r => r.key == k && r.isSealed

/-- Add 1 to cell c's late count (R14, R88). -/
def State.countLate (s : State) (c : CellId) : State :=
  s.modCell c fun k => { k with counts := { k.counts with late := satAdd k.counts.late 1 } }

/-- Resolve key k of a touchdown from cell c with LIVE bank lb (R88). -/
def State.resolveKey (s : State) (c : CellId) (k : Key) (lb : BankId) : State × Resolution :=
  match s.activeWith k with
  | some i => match s.record i with
    | none => (s, .conflict)
    | some r => if r.cell = c then (s, .record i) else (s.raise (conflictAlert c k i), .conflict)
  | none =>
    match s.findSlot fun r => r.key == k with
    | some _ =>
      ((s.countLate c).raise
        { kind := .lateResult, cell := some c, slot := s.lastSealedWith k, key := some k }, .late)
    | none => s.openWafer c k none lb

end Sys2Proof.Machine
end

