-- ==== Sys2Proof/Machine/MapResolve.lean ====
section
/-! DEFINITION. The map store: die cells, the resolution of one result, and the counts it moves (chapter 6). -/

namespace Sys2Proof.Machine

/-- The place of die (X, Y) in a map frame (R97). -/
def dieAddr (x y : Nat) : Nat := Config.dieSide * y + x

/-- A die cell (R98). -/
inductive DieCell where
  | untested
  | tested (bin : Fin 64) (count : Nat)
  deriving DecidableEq, Repr

/-- The die cell a die byte stands for: the test count in its upper two bits, the bin in its lower six; count 0 is
UNTESTED (R98, R199). -/
def dieOfByte (b : Byte) : DieCell :=
  if b.toNat / 64 = 0 then .untested else .tested ⟨b.toNat % 64, Nat.mod_lt _ (by decide)⟩ (b.toNat / 64)

/-- A die cell's byte (R199). -/
def DieCell.byte : DieCell → Byte
  | .untested => untestedDie
  | .tested bin count => natByte (64 * count + bin.val)

/-- A die cell's test count, 0 when UNTESTED (R98). -/
def DieCell.count : DieCell → Nat
  | .untested => 0
  | .tested _ n => n

/-- The die cell at (X, Y) of a frame. -/
def State.die (s : State) (f : FrameId) (x y : Nat) : DieCell :=
  dieOfByte (storeRead untestedDie (s.frame f).dies (dieAddr x y))

/-- Write the die cell at (X, Y) of a frame. -/
def State.setDie (s : State) (f : FrameId) (x y : Nat) (d : DieCell) : State :=
  s.setFrame f { s.frame f with dies := storeWrite untestedDie (s.frame f).dies (dieAddr x y) d.byte }

/-- The change serial increases by 1, and a dump of the frame in progress gets a change notice for the row (R113). -/
def State.countChange (s : State) (i : SlotId) (f : FrameId) (y : Nat) : State :=
  (s.setFrame f { s.frame f with serial := (s.frame f).serial + 1 }).changeNotice i f y

/-- A verdict (R197). -/
inductive Verdict where
  | unclassified
  | new
  | replaced
  | kept
  | void
  | counted
  | badSite
  | offGrid
  | clash
  | late
  | conflict
  | noSlot
  | noRecipe
  deriving DecidableEq, Repr

/-- A result handed to the map store, less its record (R103). -/
structure SiteResult where
  x    : Nat
  y    : Nat
  bin  : Fin 64
  cls  : BinClass
  zone : Fin 9
  site : Fin 16
  deriving DecidableEq, Repr

/-- 1 for a PASS, 0 for any other class. -/
def BinClass.passes (c : BinClass) : Word := if c = .pass then 1 else 0

/-- The record with its site tally moved by a non-void result (R112). -/
def Record.tallySite (r : Record) (q : SiteResult) : Record :=
  let old := r.sites[q.site.val]
  { r with sites := r.sites.set q.site.val ⟨old.results + 1, old.passes + q.cls.passes⟩ }

/-- The record after a NEW or COUNTED result (R106, R107, R112). -/
def Record.countFirst (r : Record) (q : SiteResult) : Record :=
  let z := r.zones[q.zone.val]
  { r.tallySite q with
    counts := { r.counts with
      t := r.counts.t + 1, p := r.counts.p + q.cls.passes, fp := r.counts.fp + q.cls.passes }
    bins := r.bins.set q.bin.val (r.bins[q.bin.val] + 1)
    zones := r.zones.set q.zone.val ⟨z.tested + 1, z.passed + q.cls.passes⟩ }

/-- One die moves from one bin's count to another's (R109). -/
def moveBin (v : Vector Word 64) (old new : Fin 64) : Vector Word 64 :=
  let w := v.set old.val (v[old.val] - 1)
  w.set new.val (w[new.val] + 1)

/-- The record after a retest that replaces an old result of bin b0 and class c0 (R108, R109, R112). -/
def Record.countReplace (r : Record) (q : SiteResult) (b0 : Fin 64) (c0 : BinClass) : Record :=
  let z := r.zones[q.zone.val]
  { r.tallySite q with
    counts := { r.counts with
      r := r.counts.r + 1, u := r.counts.u + 1, p := r.counts.p - c0.passes + q.cls.passes }
    bins := moveBin r.bins b0 q.bin
    zones := r.zones.set q.zone.val ⟨z.tested, z.passed - c0.passes + q.cls.passes⟩ }

/-- The record after a retest that keeps the old result (R108, R110, R112). -/
def Record.countKeep (r : Record) (q : SiteResult) : Record :=
  { r.tallySite q with counts := { r.counts with r := r.counts.r + 1 } }

/-- The record after a VOID result (R105). -/
def Record.countVoid (r : Record) : Record := { r with counts := { r.counts with v := r.counts.v + 1 } }

/-- Whether a policy replaces an old result of class c0 (R108). -/
def Policy.replaces : Policy → BinClass → Bool
  | .latest, _ => true
  | .passWins, c0 => c0 != .pass
  | .recheckOnly, c0 => c0 == .recheck

/-- A retest of a TESTED die cell of frame f (R108 to R111). -/
def State.resolveRetest (s : State) (i : SlotId) (r : Record) (f : FrameId) (q : SiteResult) (b0 : Fin 64) (n : Nat) :
    State × Verdict × Nat :=
  let rc := s.recipeOf r
  let c0 := (s.bank r.bank).bins[b0.val].cls
  let n' := min (n + 1) 3
  if rc.policy.replaces c0 then
    (((s.setSlot i (some (r.countReplace q b0 c0))).setDie f q.x q.y (.tested q.bin n')).countChange i f q.y,
      .replaced, n')
  else
    let s1 := (s.setSlot i (some (r.countKeep q))).setDie f q.x q.y (.tested b0 n')
    let s2 := if rc.policy = .recheckOnly then
        s1.raise { kind := .unexpectedRetest, cell := some r.cell, slot := some i, key := some r.key,
                   index := some q.site.val }
      else s1
    (s2, .kept, n')

/-- The frame whose die cells a record's results are resolved against: none for a TALLY_ONLY record (R103). -/
def Record.mapFrame (r : Record) : Option FrameId := if r.flags.tallyOnly then none else r.frame

/-- Resolve one result for the record r in slot i: the new state, the verdict and the test count returned (R103 to
R111). A non-void result clears the record's snapshot tags (R89). -/
def State.resolveResult (s : State) (i : SlotId) (r : Record) (q : SiteResult) : State × Verdict × Nat :=
  if q.cls = .void then
    (s.setSlot i (some r.countVoid), .void,
      match r.mapFrame with
      | none => 0
      | some f => (s.die f q.x q.y).count)
  else
    let s0 := s.clearTagsOn i
    match r.mapFrame with
    | none => (s0.setSlot i (some (r.countFirst q)), .counted, 0)
    | some f =>
      match s0.die f q.x q.y with
      | .untested =>
        (((s0.setSlot i (some (r.countFirst q))).setDie f q.x q.y (.tested q.bin 1)).countChange i f q.y, .new, 1)
      | .tested b0 n => s0.resolveRetest i r f q b0 n

end Sys2Proof.Machine
end

