-- ==== Sys2Proof/Machine/Formats.lean ====
section
/-! DEFINITION. The frames the part builds from its state: forwarded copies, alerts, summaries, map rows, MAP_END and
replies (chapter 11). -/

namespace Sys2Proof.Machine

/-- The route byte of a frame the part sends: its node address above the sub-address (R195). -/
def State.routeByte (s : State) (sub : BitVec 4) : Byte := s.node ++ sub

/-! ## Forwarded frames (R67, R69, R197) -/

/-- A verdict's code (R197). -/
def Verdict.code : Verdict → Byte
  | .unclassified => 0
  | .new => 1
  | .replaced => 2
  | .kept => 3
  | .void => 4
  | .counted => 5
  | .badSite => 6
  | .offGrid => 7
  | .clash => 8
  | .late => 9
  | .conflict => 10
  | .noSlot => 11
  | .noRecipe => 12

/-- A site annotation: the hall bin, zone, verdict and test count (R67). -/
structure SiteNote where
  bin     : Option (Fin 64)
  zone    : Option (Fin 9)
  verdict : Verdict
  count   : Nat
  deriving DecidableEq, Repr

/-- The note of an entry that did not reach the map store (R67). -/
def plainNote (v : Verdict) : SiteNote := { bin := none, zone := none, verdict := v, count := 0 }

/-- A site annotation's four bytes (R197). -/
def SiteNote.bytes (n : SiteNote) : List Byte :=
  [indexByte n.bin, indexByte n.zone, n.verdict.code, natByte n.count]

/-- The fixed part of an annotation: slot, bank and generation of the record the frame was bound to, or none, and the
tester's route byte (R197). -/
def annotation (s : State) (slot : Option SlotId) (route : Byte) : List Byte :=
  match slot.bind fun i => (s.record i).map fun r => (i, r) with
  | none => [0xFF, 0xFF, 0, 0, 0, 0, route]
  | some (i, r) => [natByte i.val, r.bank.code] ++ wordBytes r.gen ++ [route]

/-- The forwarded copy of a touchdown (R67, R197). -/
def fwdTouchdown (s : State) (c : CellId) (route : Byte) (td : Touchdown) (slot : Option SlotId)
    (notes : List SiteNote) : OutFrame :=
  { cls := 0x11, route := s.routeByte (BitVec.ofNat 4 c.val),
    payload := td.bytes ++ annotation s slot route ++ notes.flatMap SiteNote.bytes }

/-- The forwarded copy of a marker (R69, R197). -/
def fwdMarker (s : State) (c : CellId) (route : Byte) (mk : Marker) (slot : Option SlotId) : OutFrame :=
  { cls := 0x12, route := s.routeByte (BitVec.ofNat 4 c.val), payload := mk.bytes ++ annotation s slot route }

/-! ## ALERT (R150, R198) -/

/-- A key's lot and wafer number, 0 when absent (R198). -/
def keyBytes : Option Key → List Byte
  | none => [0, 0, 0, 0, 0]
  | some k => wordBytes k.lot ++ [k.wafer]

/-- The payload of an ALERT frame (R198). -/
def AlertEntry.bytes (e : AlertEntry) : List Byte :=
  [e.alert.kind.code, natByte e.level.val, indexByte e.alert.cell, indexByte e.alert.slot,
    (match e.alert.index with | none => 0xFF | some n => natByte n),
    bitsByte [e.alert.key.isSome, e.alert.value.isSome]]
  ++ keyBytes e.alert.key ++ wordBytes e.firstTime ++ wordBytes e.lastTime ++ halfBytes e.occ
  ++ (match e.alert.value with | none => [0, 0] | some v => halfBytes v)

/-! ## SUMMARY (R165, R198) -/

/-- The four flags as bits 0 to 3 (R198). -/
def Flags.byte (f : Flags) : Byte := bitsByte [f.tallyOnly, f.mapAbsent, f.overGross, f.summaryOwed]

/-- The bins with a count above 0, each with its count and share. -/
def Record.binList (r : Record) : List (List Byte) :=
  allBins.filterMap fun b => if r.bins[b.val] = (0 : Word) then none
    else some ([natByte b.val] ++ wordBytes r.bins[b.val] ++ yieldBytes (r.binShare b))

/-- The zones Z0 to Z8. -/
def allZones : List (Fin 9) := [0, 1, 2, 3, 4, 5, 6, 7, 8]

/-- The zones with a tested count above 0, each with its counts and yield. -/
def Record.zoneList (r : Record) : List (List Byte) :=
  allZones.filterMap fun z => if r.zones[z.val].tested = (0 : Word) then none
    else some ([natByte z.val] ++ wordBytes r.zones[z.val].tested ++ wordBytes r.zones[z.val].passed
      ++ yieldBytes (r.zoneYield z))

/-- The sites S0 to S15. -/
def allSites : List (Fin 16) := [0, 1, 2, 3, 4, 5, 6, 7, 8, 9, 10, 11, 12, 13, 14, 15]

/-- The sites with a results count above 0, each with its counts and yield. -/
def Record.siteList (r : Record) : List (List Byte) :=
  allSites.filterMap fun i => if r.sites[i.val].results = (0 : Word) then none
    else some ([natByte i.val] ++ wordBytes r.sites[i.val].results ++ wordBytes r.sites[i.val].passes
      ++ yieldBytes (r.siteYield i))

/-- The nine counts and the gap sum, four bytes each (R198). -/
def Record.countBytes (r : Record) : List Byte :=
  wordBytes r.counts.t ++ wordBytes r.counts.p ++ wordBytes r.counts.fp ++ wordBytes r.counts.r
    ++ wordBytes r.counts.u ++ wordBytes r.counts.v ++ wordBytes r.counts.o ++ wordBytes r.counts.clash
    ++ wordBytes r.counts.badSite ++ wordBytes r.gapSum

/-- The change serial of a record's frame, absent when it holds none (R165). -/
def State.serialOf (s : State) (r : Record) : Option Word := r.frame.map fun f => (s.frame f).serial

/-- A record's summary payload, with a kind byte: 1 FINAL, 2 PROGRESS, 0 in a reply (R165, R198). -/
def State.recordSummary (s : State) (kind : Byte) (i : SlotId) (r : Record) : List Byte :=
  let rc := s.recipeOf r
  let serial := s.serialOf r
  [kind, natByte i.val, r.state.code, natByte r.cell.val]
  ++ wordBytes r.key.lot ++ [r.key.wafer, natByte r.recipe.val, r.bank.code, reasonCode r.reason]
  ++ wordBytes r.gen
  ++ [bitsByte [r.loadTime.isSome, r.closeStart.isSome, r.sealTime.isSome, serial.isSome], r.flags.byte,
      rc.denominator.code, outcomeCode r.outcome, dispositionCode r.disposition, indexByte r.frame]
  ++ yieldBytes (r.waferYield rc) ++ yieldBytes r.firstPassYield ++ yieldBytes (r.finalYield.map BitVec.toNat)
  ++ timeBytes r.loadTime ++ wordBytes r.openTime ++ timeBytes r.closeStart ++ timeBytes r.sealTime
  ++ timeBytes serial ++ wordBytes r.checkpoint ++ r.countBytes
  ++ [natByte r.binList.length, natByte r.zoneList.length, natByte r.siteList.length]
  ++ r.binList.flatten ++ r.zoneList.flatten ++ r.siteList.flatten

/-- The summary payload of a slot; a FREE slot gives its first three bytes alone (R198). -/
def State.summary (s : State) (kind : Byte) (i : SlotId) : List Byte :=
  match s.record i with
  | none => [kind, natByte i.val, 0]
  | some r => s.recordSummary kind i r

/-- A SUM entry's kind byte (R198). -/
def SumKind.code : SumKind → Byte
  | .final => 1
  | .progress => 2

/-! ## MAP_ROW and MAP_END (R199) -/

/-- The payload of the MAP_ROW of a dump's next row (R170, R199). -/
def State.mapRow (s : State) (d : Dump) : List Byte :=
  [natByte d.slot.val] ++ natHalf d.nextRow ++ [natByte d.restarts] ++ natHalf d.width
    ++ (List.range d.width).map fun x => (s.die d.frame x d.nextRow).byte

/-- A dump's final status code: 1 COMPLETE, 2 UNSTABLE, 3 ABORTED (R171, R172). -/
def Dump.status (d : Dump) : Byte := if d.aborted then 3 else if d.unstable then 2 else 1

/-- The change serial a MAP_END reports: present when the dumped record still holds the frame (R170). -/
def State.dumpSerial (s : State) (d : Dump) : Option Word :=
  match s.record d.slot with
  | none => none
  | some r => if d.gone = false ∧ r.frame = some d.frame then some (s.frame d.frame).serial else none

/-- The payload of a dump's MAP_END (R170, R199). -/
def State.mapEnd (s : State) (d : Dump) : List Byte :=
  let key := (s.record d.slot).map fun r => r.key
  [natByte d.slot.val, d.status, natByte d.restarts,
    bitsByte [d.live, key.isSome, (s.dumpSerial d).isSome]]
  ++ keyBytes key ++ natHalf d.rows ++ timeBytes (s.dumpSerial d)

/-! ## Replies (R178, R200) -/

/-- The status of a reply (R179). -/
inductive Status where
  | ok
  | refusedState
  | badArgument
  | noWafer
  | changed
  | loadInvalid
  | unknown
  deriving DecidableEq, Repr

/-- A status code (R200). -/
def Status.code : Status → Byte
  | .ok => 0
  | .refusedState => 1
  | .badArgument => 2
  | .noWafer => 3
  | .changed => 4
  | .loadInvalid => 5
  | .unknown => 6

/-- A reply: its status and the data of that status. -/
structure Reply where
  status : Status
  data   : List Byte
  deriving DecidableEq, Repr

/-- The REPLY frame of a request (R178, R195, R200). -/
def replyFrame (s : State) (name : Byte) (rq : Request) (p : Reply) : OutFrame :=
  { cls := 0x32, route := s.routeByte (BitVec.ofNat 4 (requesterOf rq).val),
    payload := [name, rq.tag, p.status.code] ++ p.data }

end Sys2Proof.Machine
end

