-- ==== Sys2Proof/Machine/Collate.lean ====
section
/-! DEFINITION. The collation engine: the take, the handling of a touchdown and of a marker (R17 to R19, chapter 4). -/

namespace Sys2Proof.Machine

/-! ## The take (R17 to R19) -/

/-- A cell is eligible for intake (R17). -/
def State.eligible (s : State) (c : CellId) : Bool :=
  !(s.cell c).fifo.isEmpty &&
    ((s.cell c).cfg.mode == .silent || (s.cell c).cfg.mode == .off || decide (s.hall.fwd.length < Config.fwdCap))

/-- The cells in the order the engine considers them: those after the one its pointer names, that one last (R18). -/
def cellsAfter (c : CellId) : List CellId := [c + 1, c + 2, c + 3, c + 4, c + 5, c + 6, c + 7, c]

/-- The cell the engine takes from next (R18). -/
def State.nextCell (s : State) : Option CellId := (cellsAfter s.engine).find? s.eligible

/-- Set a port's flow state; a change is sent to the tester as one symbol unless the mode is OFF (R13). -/
def State.setFlow (s : State) (c : CellId) (f : Flow) : State :=
  if (s.cell c).flow = f then s
  else
    let s1 := s.modCell c fun k => { k with flow := f }
    if (s.cell c).cfg.mode = .off then s1 else s1.emit (.flow c f)

/-- Remove the oldest frame from c's FIFO; a take that brings a HOLD port to 8 frames moves it to GO (R12, R19). -/
def State.popFifo (s : State) (c : CellId) : State :=
  let s1 := s.modCell c fun k => { k with fifo := k.fifo.tail }
  if (s1.cell c).flow = .hold ∧ (s1.cell c).fifo.length = Config.goAt then s1.setFlow c .go else s1

/-! ## Classifying one site entry (R58 to R64) -/

/-- A zone entry matches a coordinate: it lies in the same block of 2^(9 - n) as the compare value (R40). -/
def axisMatches (v compare bits : Nat) : Bool :=
  v / 2 ^ (9 - bits) == compare / 2 ^ (9 - bits)

/-- A zone entry matches die (X, Y) (R40). -/
def ZoneEntry.matchesDie (z : ZoneEntry) (x y : Nat) : Bool :=
  z.enabled && axisMatches x z.xCompare.toNat z.xBits.toNat && axisMatches y z.yCompare.toNat z.yBits.toNat

/-- The zone of a die: the first enabled entry of Z1 to Z8 that matches, else Z0 (R40). -/
def Bank.zoneOf (k : Bank) (x y : Nat) : Fin 9 :=
  match allZoneEntries.find? fun i => k.zones[i.val].matchesDie x y with
  | some i => zoneOfEntry i
  | none => 0

/-- The place of a recipe's translation entry for a soft bin (R38). -/
def xlateAddr (recipe : Fin 8) (softBin : Nat) : Nat := 512 * recipe.val + softBin

/-- The translation entry of a recipe for a soft bin from 0 to 511; none when UNASSIGNED (R38). -/
def Bank.entryOf (k : Bank) (recipe : Fin 8) (softBin : Nat) : Option (Fin 64) :=
  if h : (storeRead unassigned k.xlate (xlateAddr recipe softBin)).toNat < 64 then
    some ⟨(storeRead unassigned k.xlate (xlateAddr recipe softBin)).toNat, h⟩
  else none

/-- The hall bin of a soft bin: its translation entry, or the recipe's unknown bin when it is UNASSIGNED or the soft
bin is above 511 (R62). -/
def Bank.translate (k : Bank) (recipe : Fin 8) (rc : Recipe) (softBin : Nat) : Fin 64 :=
  if 511 < softBin then rc.unknownBin else (k.entryOf recipe softBin).getD rc.unknownBin

/-- What the engine carries from entry to entry of one touchdown: the state, the dies of the entries that went on to
translation, and the site annotations so far (R60, R67). -/
structure Progress where
  state : State
  dies  : List (Half × Half)
  notes : List SiteNote
  deriving DecidableEq, Repr

/-- Conditions 3 to 6 of the site checks, in order: the verdict of an entry that goes no further, or none (R58). -/
def siteCheck (r : Record) (rc : Recipe) (dies : List (Half × Half)) (e : SiteEntry) : Option Verdict :=
  if rc.siteCount.toNat ≤ e.site.toNat ∨ 16 ≤ e.site.toNat then some .badSite
  else if rc.width.toNat ≤ e.x.toNat ∨ rc.height.toNat ≤ e.y.toNat ∨ 511 < e.x.toNat ∨ 511 < e.y.toNat then
    some .offGrid
  else if (e.x, e.y) ∈ dies then some .clash
  else if r.atCap then some .late
  else none

/-- The record after an entry that a site check stopped (R59 to R61). -/
def Record.countStopped (r : Record) (v : Verdict) : Record :=
  match v with
  | .badSite => { r with counts := { r.counts with badSite := r.counts.badSite + 1 } }
  | .offGrid => { r with counts := { r.counts with o := r.counts.o + 1 } }
  | .clash => { r with counts := { r.counts with clash := r.counts.clash + 1 } }
  | _ => r

/-- The result an entry hands to the map store, from its record's bank and recipe (R62, R63). -/
def resultOf (r : Record) (rc : Recipe) (k : Bank) (e : SiteEntry) : SiteResult :=
  let bin := k.translate r.recipe rc e.softBin.toNat
  { x := e.x.toNat, y := e.y.toNat, bin := bin, cls := k.bins[bin.val].cls,
    zone := k.zoneOf e.x.toNat e.y.toNat, site := Fin.ofNat 16 e.site.toNat }

/-- The annotation of a result the map store resolved (R67). -/
def resultNote (q : SiteResult) (v : Verdict) (n : Nat) : SiteNote :=
  { bin := some q.bin, zone := some q.zone, verdict := v, count := n }

/-- Handle one site entry of a touchdown bound to the record in slot i on cell c (R58 to R64). -/
def Progress.entry (c : CellId) (i : SlotId) (p : Progress) (e : SiteEntry) : Progress :=
  match p.state.record i with
  | none => p
  | some r =>
    let rc := p.state.recipeOf r
    match siteCheck r rc p.dies e with
    | some v =>
      { state := p.state.setSlot i (some (r.countStopped v)), dies := p.dies, notes := p.notes ++ [plainNote v] }
    | none =>
      let q := resultOf r rc (p.state.bank r.bank) e
      let out := p.state.resolveResult i r q
      { state := out.1.siteRun c q.site q.cls rc.runLimit.toNat, dies := p.dies ++ [(e.x, e.y)],
        notes := p.notes ++ [resultNote q out.2.1 out.2.2] }

/-! ## Touchdowns (R56, R57, R65 to R67) -/

/-- Add a forwarded frame to the FWD queue (R159). -/
def State.forward (s : State) (f : OutFrame) : State := s.withHall { s.hall with fwd := s.hall.fwd ++ [f] }

/-- Add a frame's gap to the record it is bound to (R57). -/
def State.addGap (s : State) (i : SlotId) (gap : Half) : State :=
  s.modRecord i fun r => { r with gapSum := satAdd r.gapSum gap.toNat }

/-- Stage 2 of R65: seal the record with RESULT_LIMIT when it stands at the cap. -/
def State.sealAtCap (s : State) (i : SlotId) : State :=
  match s.record i with
  | none => s
  | some r => if r.atCap then s.sealSlot i (some .resultLimit) else s

/-- The sites of a touchdown bound to the record in slot i, in the order of their positions (R58). -/
def State.collate (s : State) (c : CellId) (i : SlotId) (td : Touchdown) (gap : Half) : Progress :=
  td.entries.foldl (Progress.entry c i) { state := s.addGap i gap, dies := [], notes := [] }

/-- Handle a touchdown bound to the record in slot i: its sites, the checkpoint test, the seal at the cap, and in
COLLATE the annotated copy, built before that seal (R65, R67). -/
def State.boundTouchdown (s : State) (c : CellId) (i : SlotId) (forwarded : Bool) (route : Byte) (td : Touchdown)
    (gap : Half) : State :=
  let p := s.collate c i td gap
  let copy := fwdTouchdown p.state c route td (some i) p.notes
  let s1 := (p.state.checkpointTest i).sealAtCap i
  if forwarded then s1.forward copy else s1

/-- Handle a touchdown whose every entry gets one verdict and that binds to no record (R56, R58). -/
def State.unboundTouchdown (s : State) (c : CellId) (forwarded : Bool) (route : Byte) (td : Touchdown)
    (v : Verdict) : State :=
  if forwarded then s.forward (fwdTouchdown s c route td none (td.entries.map fun _ => plainNote v)) else s

/-- The verdict of a resolution that gave no record (R58). -/
def Resolution.verdict : Resolution → Verdict
  | .record _ => .unclassified
  | .late => .late
  | .conflict => .conflict
  | .noSlot => .noSlot
  | .noRecipe => .noRecipe

/-- Handle a touchdown under COLLATE or SILENT with bank lb LIVE (R57). -/
def State.classifyTouchdown (s : State) (c : CellId) (lb : BankId) (forwarded : Bool) (route : Byte)
    (td : Touchdown) (gap : Half) : State :=
  let out := s.resolveKey c td.key lb
  match out.2.slot with
  | some i => out.1.boundTouchdown c i forwarded route td gap
  | none => out.1.unboundTouchdown c forwarded route td out.2.verdict

/-! ## Markers (R68, R69) -/

/-- The recipe a BEGIN names: 0 to 7; any other value is delivered as the cell default (R68). -/
def Marker.wanted (m : Marker) : Option (Fin 8) := recipeOfByte m.recipe

/-- Deliver a marker to the wafer directory, with bank lb LIVE: the slot it acted on (R68). -/
def State.deliver (s : State) (c : CellId) (lb : BankId) (m : Marker) : State × Option SlotId :=
  if m.kind = 0x01 then s.beginMarker c m.key m.wanted lb
  else if m.kind = 0x02 then s.endMarker c m.key
  else if m.kind = 0x03 then s.lotEndMarker c m.key.lot
  else (s, none)

/-- Forward a marker's copy with the slot the directory answered (R69). -/
def State.forwardMarker (s : State) (c : CellId) (forwarded : Bool) (route : Byte) (m : Marker)
    (slot : Option SlotId) : State :=
  if forwarded then s.forward (fwdMarker s c route m slot) else s

/-! ## The handling of one taken frame (R56) -/

/-- The modes under which a frame is forwarded (R2). -/
def Mode.forwards : Mode → Bool
  | .off => false
  | .forward => true
  | .collate => true
  | .silent => false

/-- The modes under which a frame is collated, when a bank is LIVE (R2). -/
def Mode.collates : Mode → Bool
  | .off => false
  | .forward => false
  | .collate => true
  | .silent => true

/-- The LIVE bank a frame taken under a mode is classified with: none when the mode does not collate or no bank is
LIVE (R56). -/
def State.collatingBank (s : State) (m : Mode) : Option BankId := if m.collates then s.liveBank else none

/-- Handle a frame taken from cell c under mode m (R56). A frame taken under OFF is discarded (R19). -/
def State.handleFrame (s : State) (c : CellId) (m : Mode) (e : FifoEntry) : State :=
  match e with
  | .touchdown route td gap =>
    match s.collatingBank m with
    | none => s.unboundTouchdown c m.forwards route td .unclassified
    | some lb => s.classifyTouchdown c lb m.forwards route td gap
  | .marker route m0 =>
    match s.collatingBank m with
    | none => s.forwardMarker c m.forwards route m0 none
    | some lb => (s.deliver c lb m0).1.forwardMarker c m.forwards route m0 (s.deliver c lb m0).2

/-- Take the oldest frame of cell c and handle it (R18, R19). -/
def State.takeFrom (s : State) (c : CellId) : State :=
  match (s.cell c).fifo with
  | [] => s
  | e :: _ => ((s.popFifo c).withEngine c).handleFrame c (s.cell c).cfg.mode e

/-- ENGINE_TAKE: the free engine takes from the first eligible cell after its pointer and handles the frame whole;
with no cell eligible it stays free (R17 to R19, R56). The take and the handling are one command, so a CELL_RESTART
falls before the take, and flushes the frame, or after the handling, and seals behind it: DESIGN CHOICE,
notes/assumptions/30.md. -/
def execEngineTake (s : State) : Host.Outcome State Fault Refusal :=
  match s.nextCell with
  | none => .next s
  | some c => .next (s.takeFrom c)

end Sys2Proof.Machine
end

