-- ==== Sys2Proof/Machine/Ports.lean ====
section
/-! DEFINITION. Reception on the cell links: faults, sequence tracking, and the input FIFO (R3 to R15). -/

namespace Sys2Proof.Machine

/-- The number R15 tests: the CRC count plus the framing count. -/
def PortCounts.linkErrors (k : PortCounts) : Nat := k.crc.toNat + k.framing.toNat

/-- Set a cell's counts after a CRC or framing fault; an increase that makes the sum of the two a non-zero multiple
of 16 raises LINK_ERROR (R15). -/
def State.setFaultCounts (s : State) (c : CellId) (new : PortCounts) : State :=
  let s1 := s.modCell c fun k => { k with counts := new }
  if (s.cell c).counts.linkErrors < new.linkErrors ∧ new.linkErrors % 16 = 0 then
    s1.raise { kind := .linkError, cell := some c }
  else s1

/-- Count a framing fault on cell c (R3, R5, R15). -/
def State.countFraming (s : State) (c : CellId) : State :=
  s.setFaultCounts c { (s.cell c).counts with framing := satAdd (s.cell c).counts.framing 1 }

/-- Count a CRC mismatch on cell c (R4, R15). -/
def State.countCrc (s : State) (c : CellId) : State :=
  s.setFaultCounts c { (s.cell c).counts with crc := satAdd (s.cell c).counts.crc 1 }

/-- Append a frame to c's FIFO; an admission that brings a GO port to 12 frames moves it to HOLD (R12). -/
def State.pushFifo (s : State) (c : CellId) (e : FifoEntry) : State :=
  let s1 := s.modCell c fun k => { k with fifo := k.fifo ++ [e] }
  if (s1.cell c).flow = .go ∧ (s1.cell c).fifo.length = Config.holdAt then s1.setFlow c .hold else s1

/-- The gap of a touchdown numbered s' against a tracker (R9). -/
def gapOf (tracker : Option Half) (seq : Half) : Half :=
  match tracker with
  | none => 0
  | some last => seq - last - 1

/-- Admit a touchdown with its gap: it joins the FIFO, the tracker becomes its number, and a gap above 0 is counted and
raised (R7, R9). -/
def State.admitTouchdown (s : State) (c : CellId) (route : Byte) (td : Touchdown) : State :=
  let gap := gapOf (s.cell c).tracker td.seq
  let s1 := (s.pushFifo c (.touchdown route td gap)).modCell c fun k => { k with tracker := some td.seq }
  if gap = 0 then s1
  else (s1.modCell c fun k => { k with counts := { k.counts with gap := satAdd k.counts.gap gap.toNat } }).raise
    { kind := .seqGap, cell := some c, value := some gap }

/-- Offer a normalized frame to c's FIFO: an overrun when the FIFO is full; else a marker joins at once, and a
touchdown joins unless it is a duplicate (R8, R10). -/
def State.offer (s : State) (c : CellId) (route : Byte) (f : TesterFrame) : State :=
  if Config.fifoCap ≤ (s.cell c).fifo.length then
    (s.modCell c fun k => { k with counts := { k.counts with overrun := satAdd k.counts.overrun 1 } }).raise
      { kind := .fifoOverrun, cell := some c }
  else match f with
    | .marker m => s.pushFifo c (.marker route m)
    | .touchdown td =>
      if (s.cell c).tracker = some td.seq then
        s.modCell c fun k => { k with counts := { k.counts with duplicate := satAdd k.counts.duplicate 1 } }
      else s.admitTouchdown c route td

/-- The checks on a frame whose reception ends, in their order, and what follows each (R3 to R6, R10). -/
def State.receiveCell (s : State) (c : CellId) (bs : List Byte) : State :=
  match checkFrame bs with
  | .framing => s.countFraming c
  | .crc => s.countCrc c
  | .good cls route p =>
    match parseTester (s.cell c).cfg.order cls p with
    | none => s.countFraming c
    | some f => s.offer c route f

/-- Set whether cell c's receiver has a frame open (R3). -/
def State.setRxOpen (s : State) (c : CellId) (b : Bool) : State := s.modCell c fun k => { k with rxOpen := b }

/-- CELL_FRAME_RECEPTION: a frame ends on cell c's link. A port that is OFF ignores it; any other checks it and offers
it to the FIFO (R2 to R10). -/
def execCellFrameReception (c : CellId) (bytes : List Byte) (s : State) : Host.Outcome State Fault Refusal :=
  if (s.cell c).cfg.mode = .off then .next s
  else .next ((s.setRxOpen c false).receiveCell c bytes)

/-- A new start delimiter opens the next frame; after the other causes the receiver waits for one (R3). -/
def reopens : DiscardCause → Bool
  | .startDelimiter => true
  | .misplacedEnd => false
  | .overlongLength => false

/-- CELL_OPEN_FRAME_DISCARD: cell c's receiver gives up the frame it has open and counts a framing fault; a port that
is OFF ignores delimiters and bytes alike (R3). -/
def execCellOpenFrameDiscard (c : CellId) (cause : DiscardCause) (s : State) : Host.Outcome State Fault Refusal :=
  if (s.cell c).cfg.mode = .off then .next s
  else .next ((s.setRxOpen c (reopens cause)).countFraming c)

end Sys2Proof.Machine
end

