-- ==== Sys2Proof/Machine/Lines.lean ====
section
/-! DEFINITION. The line unit: prober lines, edges, the time count and the timers measured in its millisecond steps
(chapter 2, R31, R76, R162). -/

namespace Sys2Proof.Machine

/-- A glitch filter's width in milliseconds (R24). -/
def Filter.width : Filter → Nat
  | .off => 0
  | .ms1 => 1
  | .ms4 => 4
  | .ms16 => 16

/-- One of a cell's two input lines. -/
def Cell.line (k : Cell) : Line → InputLine
  | .load => k.loadLine
  | .unload => k.unloadLine

/-- Replace one of a cell's two input lines. -/
def Cell.setLine (k : Cell) (l : Line) (v : InputLine) : Cell :=
  match l with
  | .load => { k with loadLine := v }
  | .unload => { k with unloadLine := v }

/-- The polarity setting of a line (R25). -/
def CellConfig.polarity (g : CellConfig) : Line → Polarity
  | .load => g.loadPol
  | .unload => g.unloadPol

/-- A change to a level is in a polarity's active direction (R25). -/
def Polarity.isActive : Polarity → Level → Bool
  | .rising, l => l == .high
  | .falling, l => l == .low

/-- Replace one of cell c's input lines. -/
def State.setLine (s : State) (c : CellId) (l : Line) (v : InputLine) : State := s.modCell c fun k => k.setLine l v

/-- An active edge: LOAD sets the pending LOAD stamp; UNLOAD sets the last UNLOAD stamp and delivers an UNLOAD event
(R29, R30). -/
def State.activeEdge (s : State) (c : CellId) (l : Line) : State :=
  match l with
  | .load => s.modCell c fun k => { k with pendingLoad := some s.time }
  | .unload => (s.modCell c fun k => { k with lastUnload := some s.time }).unloadEvent c s.time

/-- Recognize a new level on a line: the candidate ends, and a change in the active direction is acted on (R24,
R25). -/
def State.recognize (s : State) (c : CellId) (l : Line) (level : Level) : State :=
  let s1 := s.setLine c l { pin := level, recognized := level, candidate := none }
  if ((s.cell c).cfg.polarity l).isActive level then s1.activeEdge c l else s1

/-- The raw level on a line changes: the candidate that was open is cancelled, or a new one opens, or with the filter
OFF the change is recognized at once (R24). -/
def State.rawChange (s : State) (c : CellId) (l : Line) (level : Level) : State :=
  let n := (s.cell c).line l
  if n.pin = level then s
  else if level = n.recognized then s.setLine c l { n with pin := level, candidate := none }
  else if (s.cell c).cfg.filter = .off then s.recognize c l level
  else s.setLine c l
    { n with pin := level, candidate := some { level := level, held := 0, width := (s.cell c).cfg.filter.width } }

/-- A candidate has been held for its width (R24). -/
def Candidate.isDue (d : Candidate) : Bool := decide (d.width ≤ d.held)

/-- Recognize a line's candidate if it has been held for its width (R24). -/
def State.recognizeDue (s : State) (c : CellId) (l : Line) : State :=
  match ((s.cell c).line l).candidate with
  | none => s
  | some d => if d.isDue then s.recognize c l d.level else s

/-- LINE_LEVEL_CHANGE: a candidate that has already been held for its width is recognized first, since a level held for
exactly the width counts as held; then the raw level changes (R24). -/
def execLineLevelChange (c : CellId) (line : Line) (level : Level) (s : State) : Host.Outcome State Fault Refusal :=
  .next ((s.recognizeDue c line).rawChange c line level)

/-- EDGE_RECOGNITION: the line's candidate of this level, if it has been held for its width, is recognized; with the
filter OFF and no candidate, the change to this level appears and is recognized at once. Otherwise there is no edge
(R24, R25). -/
def execEdgeRecognition (c : CellId) (line : Line) (level : Level) (s : State) : Host.Outcome State Fault Refusal :=
  match ((s.cell c).line line).candidate with
  | some d => if d.level = level then .next (s.recognizeDue c line) else .next s
  | none => if (s.cell c).cfg.filter = .off then .next (s.rawChange c line level) else .next s

/-- A timer has run for its length (R31). -/
def Timer.isDue (t : Timer) : Bool := decide (t.length ≤ t.elapsed)

/-- The expiry of c's grace timer: the timer stops and c's CLOSING record seals with the reason it has (R76). -/
def State.graceExpire (s : State) (c : CellId) : State :=
  match (s.stopGrace c).closingOn c with
  | none => s.stopGrace c
  | some i => (s.stopGrace c).sealSlot i none

/-- Let c's grace timer expire if it has run for its length (R31, R76). -/
def State.graceDue (s : State) (c : CellId) : State :=
  match (s.cell c).graceTimer with
  | none => s
  | some t => if t.isDue then s.graceExpire c else s

/-- GRACE_EXPIRY: c's grace timer expires. A stopped timer does not expire, and a running one expires when its length
has elapsed and no earlier (R31, R76). -/
def execGraceExpiry (c : CellId) (s : State) : Host.Outcome State Fault Refusal := .next (s.graceDue c)

/-- The expiry of a slot's progress timer: a PROGRESS request, and another period (R162). -/
def State.progressExpire (s : State) (i : SlotId) : State := (s.requestProgress i).startProgress i

/-- Let a slot's progress timer expire if it has run for its length (R162). -/
def State.progressDue (s : State) (i : SlotId) : State :=
  match s.progressTimer i with
  | none => s
  | some t => if t.isDue then s.progressExpire i else s

/-- PROGRESS_EXPIRY: a slot's progress timer expires, when its length has elapsed and no earlier (R162). -/
def execProgressExpiry (slot : SlotId) (s : State) : Host.Outcome State Fault Refusal := .next (s.progressDue slot)

/-! ## The millisecond step (R26) -/

/-- What is due in this millisecond and has not been commanded: edges, then grace expiries, then progress expiries.
An expiry comes no later than its millisecond (R24, R31); the order is notes/assumptions/8.md. -/
def State.settle (s : State) : State :=
  let s1 := allCells.foldl (fun s c => (s.recognizeDue c .load).recognizeDue c .unload) s
  let s2 := allCells.foldl State.graceDue s1
  allSlots.foldl State.progressDue s2

/-- A candidate held one millisecond more. -/
def InputLine.tick (n : InputLine) : InputLine :=
  { n with candidate := n.candidate.map fun d => { d with held := d.held + 1 } }

/-- A timer one millisecond on. -/
def Timer.tick (t : Timer) : Timer := { t with elapsed := t.elapsed + 1 }

/-- A cell's candidates and grace timer one millisecond on. -/
def Cell.tick (k : Cell) : Cell :=
  { k with loadLine := k.loadLine.tick, unloadLine := k.unloadLine.tick, graceTimer := k.graceTimer.map Timer.tick }

/-- One millisecond passes: the time count increases by 1, wrapping, and every candidate and timer is one millisecond
on (R24, R26, R31). -/
def State.tick (s : State) : State :=
  ((s.withTime (s.time + 1)).withCells (s.cells.map Cell.tick)).withXport
    { s.xport with progress := s.xport.progress.map fun t => t.map Timer.tick }

/-- TIME_COUNT_STEP: whatever is due in the millisecond that ends takes effect, and the millisecond step is made
(R26). -/
def execTimeCountStep (s : State) : Host.Outcome State Fault Refusal := .next s.settle.tick

end Sys2Proof.Machine
end

