-- ==== Sys2Proof/Machine/Hall.lean ====
section
/-! DEFINITION. The hall link: reception of requests, PAUSE and RESUME, the transmit arbiter, the take and the
completion of frames, and the export steps (R153 to R177, R92). -/

namespace Sys2Proof.Machine

/-! ## Reception (R176) -/

/-- Replace the hall port's receive side. -/
def State.setRx (s : State) (v : HallRx) : State := s.withHall { s.hall with rx := v }

/-- Count a receive framing fault (R176). -/
def HallRx.countFraming (x : HallRx) : HallRx := { x with framing := satAdd x.framing 1 }

/-- Step 5 of R176: an addressed request joins the receive FIFO, or is an overrun. -/
def HallRx.join (x : HallRx) (e : RxEntry) : HallRx :=
  if x.fifo.length < Config.rxCap then { x with fifo := x.fifo ++ [e] }
  else { x with overrun := satAdd x.overrun 1 }

/-- The request entry of a REQUEST payload: name code, tag, arguments (R200). -/
def entryOf (route : Byte) (p : List Byte) : RxEntry :=
  { name := byteAt p 0, rq := { route := route, tag := byteAt p 1, args := p.drop 2 } }

/-- The receive side after a frame ends, by the steps of R176. -/
def State.receiveHall (s : State) (bs : List Byte) : HallRx :=
  let x := { s.hall.rx with isOpen := false }
  match checkFrame bs with
  | .framing => x.countFraming
  | .crc => { x with crc := satAdd x.crc 1 }
  | .good cls route p =>
    if cls ≠ 0x31 ∨ p.length < 2 then x.countFraming
    else if s.addressed route then x.join (entryOf route p)
    else x

/-- HALL_FRAME_RECEPTION: a frame ends on the hall link (R176). -/
def execHallFrameReception (bytes : List Byte) (s : State) : Host.Outcome State Fault Refusal :=
  .next (s.setRx (s.receiveHall bytes))

/-- HALL_OPEN_FRAME_DISCARD: the hall receiver gives up the frame it has open; after a start delimiter the next one is
open (R3, step 1 of R176). -/
def execHallOpenFrameDiscard (cause : DiscardCause) (s : State) : Host.Outcome State Fault Refusal :=
  .next (s.setRx { s.hall.rx.countFraming with isOpen := reopens cause })

/-! ## PAUSE and RESUME (R158) -/

/-- PAUSE (R158). -/
def execPause (s : State) : Host.Outcome State Fault Refusal := .next (s.withHall { s.hall with paused := true })

/-- RESUME_SYMBOL: the pause state becomes RUNNING. It is a frame boundary: the grant that follows is the next
TRANSMIT_TAKE (R155, R158). -/
def execResumeSymbol (s : State) : Host.Outcome State Fault Refusal :=
  .next (s.withHall { s.hall with paused := false })

/-! ## Arbitration (R155, R156) -/

/-- The streams in the arbiter's cyclic order. -/
def allStreams : List Stream := [.resp, .alert, .fwd, .sum, .map]

/-- A stream's place in the cyclic order. -/
def Stream.index : Stream → Fin 5
  | .resp => 0 | .alert => 1 | .fwd => 2 | .sum => 3 | .map => 4

/-- The streams in cyclic order after one, that one last (R155). -/
def streamsAfter : Stream → List Stream
  | .resp => [.alert, .fwd, .sum, .map, .resp]
  | .alert => [.fwd, .sum, .map, .resp, .alert]
  | .fwd => [.sum, .map, .resp, .alert, .fwd]
  | .sum => [.map, .resp, .alert, .fwd, .sum]
  | .map => [.resp, .alert, .fwd, .sum, .map]

/-- A stream's priority (R153). -/
def HallPort.prioOf (h : HallPort) (st : Stream) : Fin 4 := h.prio[st.index.val]

/-- A stream has a ready frame (R153). -/
def State.isReady (s : State) : Stream → Bool
  | .resp => !s.hall.resp.isEmpty
  | .alert => !s.alerts.queue.isEmpty
  | .fwd => !s.hall.fwd.isEmpty
  | .sum => !s.xport.sumQ.isEmpty
  | .map => s.xport.dump.isSome

/-- The streams that have a ready frame. -/
def State.readyStreams (s : State) : List Stream := allStreams.filter s.isReady

/-- The highest priority held by a stream with a ready frame: step 1 of R155. -/
def State.grantLevel (s : State) : Fin 4 := s.readyStreams.foldr (fun st m => max (s.hall.prioOf st) m) 0

/-- A dump holds the link by burst: it has begun to send, and the burst setting is on (R156). -/
def State.inBurst (s : State) : Bool :=
  s.hall.burst && match s.xport.dump with
    | none => false
    | some d => d.begun

/-- The winner at the grant's level: MAP while a dump holds its level by burst, else the first ready stream of the
level in the cyclic order after the level's pointer (R155, R156). -/
def State.winner (s : State) : Option Stream :=
  if s.inBurst && s.isReady .map && s.hall.prioOf .map == s.grantLevel then some .map
  else (streamsAfter s.hall.rr[s.grantLevel.val]).find? fun st => s.isReady st && s.hall.prioOf st == s.grantLevel

/-- This is a frame boundary: the transmitter is idle, the pause state is RUNNING and a stream is ready (R155). -/
def State.atBoundary (s : State) : Bool :=
  s.hall.tx.isNone && !s.hall.paused && !s.readyStreams.isEmpty

/-- The level's pointer names the winner (R155). -/
def State.pointTo (s : State) (st : Stream) : State :=
  s.withHall { s.hall with rr := s.hall.rr.set s.grantLevel.val st }

/-! ## The take of each stream's ready frame (R154) -/

/-- The transmitter begins to send a frame (R154). -/
def State.send (s : State) (st : Stream) (f : OutFrame) (a : TxAction) : State :=
  s.withHall { s.hall with tx := some { stream := st, frame := f, action := a } }

/-- Take the head reply. -/
def State.takeResp (s : State) : State :=
  match s.hall.resp with
  | [] => s
  | f :: rest => (s.withHall { s.hall with resp := rest }).send .resp f .nothing

/-- Take the head alert entry into an ALERT frame (R150). -/
def State.takeAlert (s : State) : State :=
  match s.alerts.queue with
  | [] => s
  | e :: rest => (s.withAlerts { s.alerts with queue := rest }).send .alert
      { cls := 0x21, route := s.routeByte 0, payload := e.bytes } .nothing

/-- Take the head forwarded frame (R159). -/
def State.takeFwd (s : State) : State :=
  match s.hall.fwd with
  | [] => s
  | f :: rest => (s.withHall { s.hall with fwd := rest }).send .fwd f .nothing

/-- What the completion of a summary does (R166). -/
def sumAction (e : SlotId × SumKind) : TxAction :=
  match e.2 with
  | .final => .final e.1
  | .progress => .nothing

/-- Take the head SUM entry: its summary is built, and the place it leaves is filled from the owed list (R161, R165). -/
def State.takeSum (s : State) : State :=
  match s.xport.sumQ with
  | [] => s
  | e :: rest => ((s.withXport { s.xport with sumQ := rest }).fillPlace).send .sum
      { cls := 0x22, route := s.routeByte 0, payload := s.summary e.2.code e.1 } (sumAction e)

/-- Replace the dump in progress. -/
def State.setDump (s : State) (d : Option Dump) : State := s.withXport { s.xport with dump := d }

/-- Take the MAP_ROW of a dump's next row (R170). -/
def State.takeRow (s : State) (d : Dump) : State :=
  (s.setDump (some { d with nextRow := d.nextRow + 1, begun := true })).send .map
    { cls := 0x23, route := s.routeByte 0, payload := s.mapRow d } .mapRow

/-- What the completion of a dump's MAP_END does: a chained dump of a record neither freed nor resumed since the start
acts on it (R173). -/
def Dump.endAction (d : Dump) : TxAction :=
  if d.origin = .chain ∧ d.gone = false then .mapEnd d.slot d.aborted else .nothing

/-- Take a dump's MAP_END: the dump ends, and the next one starts if one is pending (R169, R170). -/
def State.takeEnd (s : State) (d : Dump) : State :=
  ((s.setDump none).startDump).send .map
    { cls := 0x24, route := s.routeByte 0, payload := s.mapEnd d } d.endAction

/-- A dump that begins again from row 0 (R171). -/
def Dump.restart (d : Dump) : Dump := { d with restarts := d.restarts + 1, nextRow := 0, dirty := false }

/-- A dump out of restarts: unstable, its dirty-behind flag cleared (R171). -/
def Dump.markUnstable (d : Dump) : Dump := { d with unstable := true, dirty := false }

/-- DUMP_UNSTABLE is raised with the record's slot and key when the unstable flag was clear before (R171). -/
def State.raiseUnstable (s : State) (d : Dump) : State :=
  if d.unstable then s
  else s.raise { kind := .dumpUnstable, slot := some d.slot, key := (s.record d.slot).map fun r => r.key }

/-- Take the MAP stream's ready frame for a dump: its next row, or its MAP_END, with the dirty-behind test made at the
take of the MAP_END (R170, R171). -/
def State.takeMapFrame (s : State) (d : Dump) : State :=
  if d.aborted then s.takeEnd d
  else if d.nextRow < d.rows then s.takeRow d
  else if d.dirty = false then s.takeEnd d
  else if d.restarts < Config.maxRestarts then s.takeRow d.restart
  else (s.raiseUnstable d).takeEnd d.markUnstable

/-- Take the MAP stream's ready frame. -/
def State.takeMap (s : State) : State :=
  match s.xport.dump with
  | none => s
  | some d => s.takeMapFrame d

/-- Take a stream's ready frame (R154). -/
def State.takeStream (s : State) : Stream → State
  | .resp => s.takeResp
  | .alert => s.takeAlert
  | .fwd => s.takeFwd
  | .sum => s.takeSum
  | .map => s.takeMap

/-- TRANSMIT_TAKE: at a frame boundary the arbiter grants a stream, the level's pointer names it, and its ready frame
is taken and sent. Away from a boundary nothing is taken (R155). -/
def execTransmitTake (s : State) : Host.Outcome State Fault Refusal :=
  if s.atBoundary then
    match s.winner with
    | none => .next s
    | some st => .next ((s.pointTo st).takeStream st)
  else .next s

/-! ## Completions (R92, R154, R166, R171, R173) -/

/-- The export engine reports a slot's last export step: a CLOSED record becomes EXPORTED at the tail of the export
order list; in any other state the report is ignored (R92). -/
def State.exportStep (s : State) (i : SlotId) : State :=
  match s.record i with
  | none => s
  | some r =>
    if r.state = .closed then
      let s1 := s.setSlot i (some { r with state := .exported })
      s1.withDir { s1.dir with exportOrder := s1.dir.exportOrder ++ [i] }
    else s

/-- The completion of a FINAL summary: the export step, or the record's map joins the pending list (R166). -/
def State.finalDone (s : State) (i : SlotId) : State :=
  match s.record i with
  | none => s
  | some r =>
    if r.isSealed = false then s
    else if (s.recipeOf r).exporting = .summaryMap ∧ r.frame.isSome then s.chainMap i
    else s.exportStep i

/-- The completion of a MAP_ROW: a dump with changes behind it restarts, or is marked unstable when it is out of
restarts (R171). -/
def State.rowDone (s : State) : State :=
  match s.xport.dump with
  | none => s
  | some d =>
    if d.dirty = false ∨ d.aborted then s
    else if d.restarts < Config.maxRestarts then s.setDump (some d.restart)
    else (s.raiseUnstable d).setDump (some d.markUnstable)

/-- The completion of the MAP_END of a chained dump (R173). -/
def State.endDone (s : State) (i : SlotId) (aborted : Bool) : State :=
  match s.record i with
  | none => s
  | some r =>
    if r.state ≠ .closed then s
    else if aborted = false then s.exportStep i
    else if r.frame.isSome then s.chainMap i
    else s

/-- What a completion does (R154). -/
def State.complete (s : State) : TxAction → State
  | .nothing => s
  | .final i => s.finalDone i
  | .mapRow => s.rowDone
  | .mapEnd i aborted => s.endDone i aborted

/-- TRANSMIT_COMPLETION: the last byte of the frame being sent has left; the transmitter is idle and the stream's
completion actions run. With the transmitter idle there is none (R154). -/
def execTransmitCompletion (s : State) : Host.Outcome State Fault Refusal :=
  match s.hall.tx with
  | none => .next s
  | some t => .next (((s.withHall { s.hall with tx := none }).emit (.frame t.frame.wire)).complete t.action)

end Sys2Proof.Machine
end

