-- ==== Sys2Proof/Machine/Reset.lean ====
section
/-! DEFINITION. Power-on reset and hall reset (R22, R34, R55, R96, R102, R137, R152, R174, R193). -/

namespace Sys2Proof.Machine

/-- The cut-off of a frame in transmission (R154). -/
def cutOff (t : Option Sending) : List Sent :=
  match t with
  | none => []
  | some t => [.cutOff t.frame]

/-- Every block at its reset values. What comes from outside the part stays: the levels on the prober lines, which
the recognized levels are taken from (R23), and the straps, which the node address is read from (R175). A frame in
transmission is cut off (R154). -/
def State.resetAll (s : State) (straps : BitVec 4) : State :=
  { State.reset with
    cells := s.cells.map fun k => Cell.reset k.loadLine.pin k.unloadLine.pin
    node := straps
    straps := straps
    draws := s.draws
    sent := s.sent ++ cutOff s.hall.tx
    pending := s.pending }

/-- POWER_ON_RESET: RESET_N is asserted and released; `straps` is what the straps read as it ends (R22, R175). -/
def execPowerOnReset (straps : BitVec 4) (s : State) : Host.Outcome State Fault Refusal := .next (s.resetAll straps)

end Sys2Proof.Machine
end

