-- ==== Sys2Proof/Machine/Requests.lean ====
section
/-! DEFINITION. The management unit: the take of a request and its reply (R177 to R179), and the requests for the part,
its time, its cells, the alert levels and the streams. -/

namespace Sys2Proof.Machine

/-! ## The take and the reply (R177, R178) -/

/-- The part as the management unit takes a request. It takes one only while the RESP queue has room, and the head of
the receive FIFO first; with the FIFO empty, a request addressed to the part arrives and is taken at once. none: the
unit does not take this request now (R177, notes/assumptions/5.md). -/
def State.takeRequest (s : State) (name : Byte) (rq : Request) : Option State :=
  if Config.respCap ≤ s.hall.resp.length then none
  else match s.hall.rx.fifo with
    | [] => if s.addressed rq.route then some s else none
    | e :: rest =>
      if e = { name := name, rq := rq } then some (s.setRx { s.hall.rx with fifo := rest }) else none

/-- Queue the reply of a request; a broadcast gets none (R175, R178). -/
def State.respond (s : State) (name : Byte) (rq : Request) (p : Reply) : State :=
  if isBroadcast rq then s else s.withHall { s.hall with resp := s.hall.resp ++ [replyFrame s name rq p] }

/-- Take a request, carry it out and queue its reply, as one event (R177). -/
def serve (name : Byte) (rq : Request) (act : State → State × Reply) (s : State) :
    Host.Outcome State Fault Refusal :=
  match s.takeRequest name rq with
  | none => .next s
  | some s1 => .next ((act s1).1.respond name rq (act s1).2)

/-- OK with data. -/
def okReply (data : List Byte) : Reply := { status := .ok, data := data }

/-- A reply that carries a status alone (R200). -/
def bareReply (st : Status) : Reply := { status := st, data := [] }

/-- Answer a request without any change. -/
def decline (st : Status) (s : State) : State × Reply := (s, bareReply st)

/-- A request whose arguments number exactly n bytes: any other length is BAD_ARGUMENT (step 2 of R178). -/
def sized (n : Nat) (rq : Request) (act : List Byte → State → State × Reply) (s : State) : State × Reply :=
  if rq.args.length = n then act rq.args s else decline .badArgument s

/-- A request about a cell: a selector above 7 is BAD_ARGUMENT (R182, R183). -/
def onCell (b : Byte) (act : CellId → State → State × Reply) (s : State) : State × Reply :=
  match cellOfByte b with
  | none => decline .badArgument s
  | some c => act c s

/-- A request with a clear option: a code that names neither is BAD_ARGUMENT (R200). -/
def withOption (b : Byte) (act : Bool → State → State × Reply) (s : State) : State × Reply :=
  match boolOfByte b with
  | none => decline .badArgument s
  | some o => act o s

/-! ## UNKNOWN_REQUEST (step 1 of R178) -/

/-- UNKNOWN_REQUEST: a name code that names no request is answered UNKNOWN, with the name code echoed. A known name
code is no UNKNOWN_REQUEST and is left to its own request. -/
def execUnknownRequest (name : Byte) (rq : Request) (s : State) : Host.Outcome State Fault Refusal :=
  if knownNames.contains name then .next s else serve name rq (decline .unknown) s

/-! ## IDENT, TIME_SET, TIME_READ (R180, R181) -/

/-- The LIVE bank's letter code and generation, 0xFF and 0 when no bank is LIVE (R180). -/
def State.liveBytes (s : State) : List Byte :=
  match s.liveBank with
  | none => [0xFF, 0, 0, 0, 0]
  | some i => i.code :: wordBytes (s.bank i).gen

/-- The data of an IDENT reply (R180, R200). -/
def State.identBytes (s : State) : List Byte :=
  halfBytes Config.partCode ++ [Config.layoutRevision, natByte s.node.toNat] ++ s.liveBytes
    ++ wordBytes s.banks.genCount ++ wordBytes s.time

/-- IDENT (R180). -/
def execIdent (rq : Request) (s : State) : Host.Outcome State Fault Refusal :=
  serve 0x01 rq (sized 0 rq fun _ s => (s, okReply s.identBytes)) s

/-- TIME_SET (R27, R181). -/
def execTimeSet (rq : Request) (s : State) : Host.Outcome State Fault Refusal :=
  serve 0x02 rq (sized 4 rq fun a s => (s.withTime (wordAt a 0), okReply (wordBytes (wordAt a 0)))) s

/-- TIME_READ (R181). -/
def execTimeRead (rq : Request) (s : State) : Host.Outcome State Fault Refusal :=
  serve 0x03 rq (sized 0 rq fun _ s => (s, okReply (wordBytes s.time))) s

/-! ## CELL_SET (R1, R2, R182) -/

/-- A setting selected by a mask bit: its code when the bit is set, the setting kept when it is clear (R200). -/
def masked {α : Type} (m : Byte) (k : Nat) (old : α) (code : Option α) : Option α :=
  if maskBit m k then code else some old

/-- The configuration a CELL_SET stores, from its argument bytes; none when a code it sets names nothing (R1). Bit 7 of
the mask byte names none of the seven settings and is ignored: DESIGN CHOICE, notes/assumptions/29.md. -/
def CellConfig.update (g : CellConfig) (a : List Byte) : Option CellConfig :=
  let m := byteAt a 1
  match masked m 0 g.mode (modeOfByte (byteAt a 2)), masked m 1 g.order (orderOfByte (byteAt a 3)),
      masked m 4 g.loadPol (polarityOfByte (byteAt a 6)), masked m 5 g.unloadPol (polarityOfByte (byteAt a 7)) with
  | some mode, some order, some loadPol, some unloadPol => some (
      { mode := mode, order := order,
        recipe := if maskBit m 2 then clampFin 7 (byteAt a 4).toNat else g.recipe,
        grace := if maskBit m 3 then byteAt a 5 else g.grace,
        loadPol := loadPol, unloadPol := unloadPol,
        filter := if maskBit m 6 then filterOfByte (byteAt a 8) else g.filter })
  | _, _, _, _ => none

/-- Store a cell's configuration. A change to OFF sets the tracker to none yet and abandons an open frame; a change
from OFF sends the symbol of the flow state (R2, R3). -/
def State.configure (s : State) (c : CellId) (g : CellConfig) : State :=
  let s1 := s.modCell c fun k => { k with cfg := g }
  if (s.cell c).cfg.mode = g.mode then s1
  else if g.mode = .off then s1.modCell c fun k => { k with tracker := none, rxOpen := false }
  else if (s.cell c).cfg.mode = .off then s1.emit (.flow c (s.cell c).flow)
  else s1

/-- The seven settings' bytes (R200). -/
def CellConfig.bytes (g : CellConfig) : List Byte :=
  [g.mode.code, g.order.code, natByte g.recipe.val, g.grace, g.loadPol.code, g.unloadPol.code, g.filter.code]

/-- CELL_SET on cell c. -/
def cellSetOn (a : List Byte) (c : CellId) (s : State) : State × Reply :=
  match (s.cell c).cfg.update a with
  | none => decline .badArgument s
  | some g => (s.configure c g, okReply (natByte c.val :: g.bytes))

/-- CELL_SET (R1, R2, R182). -/
def execCellSet (rq : Request) (s : State) : Host.Outcome State Fault Refusal :=
  serve 0x10 rq (sized 9 rq fun a => onCell (byteAt a 0) (cellSetOn a)) s

/-! ## CELL_READ (R16, R35, R138, R182) -/

/-- The six counts' bytes (R200). -/
def PortCounts.bytes (k : PortCounts) : List Byte :=
  halfBytes k.crc ++ halfBytes k.framing ++ halfBytes k.overrun ++ halfBytes k.duplicate ++ halfBytes k.gap
    ++ halfBytes k.late

/-- A flow state's code (R200). -/
def Flow.code : Flow → Byte
  | .go => 0
  | .hold => 1

/-- The tracker's presence and sequence number, 0 when none yet (R198, R200). -/
def trackerBytes : Option Half → List Byte
  | none => [0, 0, 0]
  | some n => 1 :: halfBytes n

/-- A level is high. -/
def isHigh (l : Level) : Bool := l == Level.high

/-- The suspect marks as two bytes, bit k for site k (R200). -/
def Cell.suspectBytes (k : Cell) : List Byte :=
  natHalf (k.suspects.toList.foldr (fun b n => 2 * n + b.toNat) 0)

/-- The port state of a cell: counts, FIFO occupancy, flow state and tracker (R16). -/
def Cell.portBytes (k : Cell) : List Byte :=
  k.counts.bytes ++ [natByte k.fifo.length, k.flow.code] ++ trackerBytes k.tracker

/-- The line state of a cell: recognized levels, stamps and STOP latch (R35). A level bit is 1 for high: PRESUMED,
notes/assumptions/31.md. -/
def Cell.lineBytes (k : Cell) : List Byte :=
  [bitsByte [isHigh k.loadLine.recognized, isHigh k.unloadLine.recognized],
    bitsByte [k.pendingLoad.isSome, k.lastUnload.isSome]]
  ++ timeBytes k.pendingLoad ++ timeBytes k.lastUnload ++ [boolByte k.stopLatch]

/-- The data of a CELL_READ reply, 54 bytes (R200). -/
def Cell.readBytes (c : CellId) (k : Cell) : List Byte :=
  (natByte c.val :: k.cfg.bytes) ++ k.portBytes ++ k.lineBytes ++ k.runs.toList ++ k.suspectBytes

/-- Clear a cell's six counts (R16). -/
def State.clearCounts (s : State) (c : CellId) : State := s.modCell c fun k => { k with counts := .zero }

/-- CELL_READ on cell c, clearing the six counts after the read when asked to. -/
def cellReadOn (clear : Bool) (c : CellId) (s : State) : State × Reply :=
  (if clear then s.clearCounts c else s, okReply ((s.cell c).readBytes c))

/-- CELL_READ (R182). -/
def execCellRead (rq : Request) (s : State) : Host.Outcome State Fault Refusal :=
  serve 0x11 rq (sized 2 rq fun a => onCell (byteAt a 0) fun c => withOption (byteAt a 1) fun o => cellReadOn o c) s

/-! ## CELL_RESTART and STOP_CLEAR (R21, R33, R95, R137, R182, R183) -/

/-- Step 1 of a cell restart: the port's FIFO, flow state, tracker and counts (R21). -/
def State.flushPort (s : State) (c : CellId) : State :=
  (s.modCell c fun k => { k with fifo := [], tracker := none, counts := .zero }).setFlow c .go

/-- Step 2 of a cell restart: the stamps and the STOP latch (R33). -/
def State.restartLines (s : State) (c : CellId) : State :=
  s.modCell c fun k => { k with pendingLoad := none, lastUnload := none, stopLatch := false }

/-- Step 3 of a cell restart: the run counters and suspect marks (R137). -/
def State.restartRuns (s : State) (c : CellId) : State :=
  s.modCell c fun k => { k with runs := .replicate 16 0, suspects := .replicate 16 false }

/-- Step 4 of a cell restart: the CLOSING record and then the OPEN record seal with RESTART (R95). -/
def State.restartRecords (s : State) (c : CellId) : State :=
  (s.sealIf (s.closingOn c) .restart).sealIf (s.openOn c) .restart

/-- A cell restart, in the order of R182. -/
def State.restartCell (s : State) (c : CellId) : State :=
  (((s.flushPort c).restartLines c).restartRuns c).restartRecords c

/-- CELL_RESTART (R182): the reply gives the slots sealed, CLOSING first. -/
def execCellRestart (rq : Request) (s : State) : Host.Outcome State Fault Refusal :=
  serve 0x12 rq (sized 1 rq fun a => onCell (byteAt a 0) fun c s =>
    (s.restartCell c, okReply [indexByte (s.closingOn c), indexByte (s.openOn c)])) s

/-- STOP_CLEAR (R32, R183): the reply gives the latch before the clear. -/
def execStopClear (rq : Request) (s : State) : Host.Outcome State Fault Refusal :=
  serve 0x13 rq (sized 1 rq fun a => onCell (byteAt a 0) fun c s =>
    (s.modCell c fun k => { k with stopLatch := false }, okReply [boolByte (s.cell c).stopLatch])) s

/-! ## ALERT_SET (R140) -/

/-- The pairs of an ALERT_SET list; none when a kind code names no kind. -/
def parsePairs : List Byte → Option (List (AlertKind × Fin 8))
  | kind :: level :: rest =>
    match kindOfByte kind, parsePairs rest with
    | some k, some ps => some ((k, clampFin 7 level.toNat) :: ps)
    | _, _ => none
  | _ => some []

/-- Apply the pairs of an ALERT_SET in list order. -/
def AlertUnit.applyLevels (u : AlertUnit) (ps : List (AlertKind × Fin 8)) : AlertUnit :=
  { u with levels := ps.foldl (fun v p => v.set p.1.index.val p.2) u.levels }

/-- A stop threshold as stored: 0 as 1, above 8 as 8 (R140). -/
def clampThreshold (b : Byte) : Fin 9 := clampFin 8 (max 1 b.toNat)

/-- The level table and the threshold's bytes (R200). -/
def AlertUnit.tableBytes (u : AlertUnit) : List Byte :=
  (u.levels.toList.map fun l => natByte l.val) ++ [natByte u.threshold.val]

/-- The alert queue block after an ALERT_SET with these pairs. Bits 1 to 7 of its mask byte name nothing and are
ignored: DESIGN CHOICE, notes/assumptions/29.md. -/
def AlertUnit.update (u : AlertUnit) (a : List Byte) (ps : List (AlertKind × Fin 8)) : AlertUnit :=
  { u.applyLevels ps with threshold := if maskBit (byteAt a 0) 0 then clampThreshold (byteAt a 1) else u.threshold }

/-- ALERT_SET, its length being right. -/
def alertSetWith (a : List Byte) (s : State) : State × Reply :=
  if 15 < (byteAt a 2).toNat then decline .badArgument s
  else match parsePairs (a.drop 3) with
    | none => decline .badArgument s
    | some ps => (s.withAlerts (s.alerts.update a ps), okReply (s.alerts.update a ps).tableBytes)

/-- ALERT_SET (R140). -/
def execAlertSet (rq : Request) (s : State) : Host.Outcome State Fault Refusal :=
  serve 0x30 rq (sized (3 + 2 * (byteAt rq.args 2).toNat) rq alertSetWith) s

/-! ## STREAM_SET (R157) -/

/-- The priorities a STREAM_SET stores: a priority above 3 as 3, and those its mask leaves as they are. Bits 6 and 7 of
the mask byte name nothing and are ignored: DESIGN CHOICE, notes/assumptions/29.md. -/
def prioritiesOf (old : Vector (Fin 4) 5) (a : List Byte) : Vector (Fin 4) 5 :=
  Vector.ofFn fun i => if maskBit (byteAt a 0) i.val then clampFin 3 (byteAt a (i.val + 1)).toNat else old[i.val]

/-- STREAM_SET, its length being right. -/
def streamSetWith (a : List Byte) (s : State) : State × Reply :=
  match masked (byteAt a 0) 5 s.hall.burst (boolOfByte (byteAt a 6)) with
  | none => decline .badArgument s
  | some burst =>
    (s.withHall { s.hall with prio := prioritiesOf s.hall.prio a, burst := burst },
      okReply (((prioritiesOf s.hall.prio a).toList.map fun p => natByte p.val) ++ [boolByte burst]))

/-- STREAM_SET (R157). -/
def execStreamSet (rq : Request) (s : State) : Host.Outcome State Fault Refusal :=
  serve 0x31 rq (sized 7 rq streamSetWith) s

end Sys2Proof.Machine
end

