-- ==== Sys2Proof/Machine/BankRequests.lean ====
section
/-! DEFINITION. The requests of the bank store: loading, committing, activating and reading a bank (R43 to R54). -/

namespace Sys2Proof.Machine

/-! ## The shared checks (R45, 3.3) -/

/-- A request about a bank: a selector that names neither A nor B is BAD_ARGUMENT (3.3). -/
def onBank (b : Byte) (act : BankId → State → State × Reply) (s : State) : State × Reply :=
  match bankOfByte b with
  | none => decline .badArgument s
  | some i => act i s

/-- A request taken only in LOADING and only from the load owner: otherwise REFUSED_STATE (check 2 of R45, R50). -/
def asOwner (rq : Request) (i : BankId) (act : State → State × Reply) (s : State) : State × Reply :=
  if (s.bank i).state = .loading ∧ (s.bank i).owner = some (requesterOf rq) then act s else decline .refusedState s

/-- A write request: the checks of R45 on the bank and the requester, then its own. -/
def bankWrite (rq : Request) (b : Byte) (act : BankId → State → State × Reply) (s : State) : State × Reply :=
  onBank b (fun i => asOwner rq i (act i)) s

/-! ## BANK_OPEN (R44) -/

/-- A bank with the whole of its contents at the CLEAR values (R44). -/
def Bank.cleared (k : Bank) : Bank :=
  { k with recipes := .replicate 8 .clear, xlate := [], bins := .replicate 64 .clear, zones := .replicate 8 .clear }

/-- A bank as BANK_OPEN leaves it for a requester (R44). -/
def Bank.opened (k : Bank) (clear : Bool) (q : Fin 4) : Bank :=
  { (if clear then k.cleared else k) with state := .loading, owner := some q }

/-- BANK_OPEN of a bank, the state checked before the option code (R44). -/
def bankOpenOf (rq : Request) (opt : Byte) (i : BankId) (s : State) : State × Reply :=
  if (s.bank i).state = .idle ∨ (s.bank i).state = .ready then
    withOption opt (fun clear s => (s.setBank i ((s.bank i).opened clear (requesterOf rq)), okReply [])) s
  else decline .refusedState s

/-- BANK_OPEN (R44). -/
def execBankOpen (rq : Request) (s : State) : Host.Outcome State Fault Refusal :=
  serve 0x20 rq (sized 2 rq fun a => onBank (byteAt a 0) (bankOpenOf rq (byteAt a 1))) s

/-! ## BANK_RECIPE (R46) -/

/-- The recipe a BANK_RECIPE stores, from its argument bytes, with the clamps of R46 in their order; none when a code
names no value (check 3 of R45). -/
def recipeOfBytes (a : List Byte) : Option Recipe :=
  match boolOfByte (byteAt a 2), policyOfByte (byteAt a 12), denominatorOfByte (byteAt a 13),
      exportOfByte (byteAt a 22) with
  | some inUse, some policy, some denominator, some exporting =>
    let w := clampBits 1 512 (halfAt a 3)
    let h := clampBits 1 512 (halfAt a 5)
    some (
      { inUse := inUse, width := w, height := h, gross := clampBits 1 (w.toNat * h.toNat) (wordAt a 7),
        siteCount := clampBits 1 16 (byteAt a 11), policy := policy, denominator := denominator,
        yieldLimit := clampBits 0 10000 (halfAt a 14), interval := halfAt a 16, minSample := halfAt a 18,
        runLimit := byteAt a 20, unknownBin := clampFin 63 (byteAt a 21).toNat, exporting := exporting,
        period := byteAt a 23 })
  | _, _, _, _ => none

/-- The fourteen fields' bytes (R200). -/
def Recipe.bytes (r : Recipe) : List Byte :=
  [boolByte r.inUse] ++ halfBytes r.width ++ halfBytes r.height ++ wordBytes r.gross
    ++ [r.siteCount, r.policy.code, r.denominator.code] ++ halfBytes r.yieldLimit ++ halfBytes r.interval
    ++ halfBytes r.minSample ++ [r.runLimit, natByte r.unknownBin.val, r.exporting.code, r.period]

/-- Store a recipe of a bank. -/
def Bank.setRecipe (k : Bank) (r : Fin 8) (v : Recipe) : Bank := { k with recipes := k.recipes.set r.val v }

/-- BANK_RECIPE to a bank its requester is loading (R46). -/
def bankRecipeOf (a : List Byte) (i : BankId) (s : State) : State × Reply :=
  match recipeOfByte (byteAt a 1), recipeOfBytes a with
  | some r, some v => (s.setBank i ((s.bank i).setRecipe r v), okReply (natByte r.val :: v.bytes))
  | _, _ => decline .badArgument s

/-- BANK_RECIPE (R45, R46). -/
def execBankRecipe (rq : Request) (s : State) : Host.Outcome State Fault Refusal :=
  serve 0x21 rq (sized 24 rq fun a => bankWrite rq (byteAt a 0) fun i => bankRecipeOf a i) s

/-! ## BANK_XLATE (R47) -/

/-- A translation entry as stored: a value above 63 is UNASSIGNED (R47). -/
def xlateValue (v : Byte) : Byte := if 63 < v.toNat then unassigned else v

/-- Write a list of entries into a translation row, upward from soft bin s. -/
def writeXlate (r : Fin 8) : Nat → List Byte → List Host.Cell → List Host.Cell
  | _, [], m => m
  | s, v :: vs, m => writeXlate r (s + 1) vs (storeWrite unassigned m (xlateAddr r s) (xlateValue v))

/-- BANK_XLATE to a bank its requester is loading: entries past soft bin 511 are not written (R47). -/
def bankXlateOf (a : List Byte) (i : BankId) (s : State) : State × Reply :=
  if 64 < (byteAt a 4).toNat then decline .badArgument s
  else match recipeOfByte (byteAt a 1) with
    | none => decline .badArgument s
    | some r =>
      let vs := (a.drop 5).take (512 - (halfAt a 2).toNat)
      (s.setBank i { s.bank i with xlate := writeXlate r (halfAt a 2).toNat vs (s.bank i).xlate },
        okReply [natByte vs.length])

/-- BANK_XLATE (R45, R47). -/
def execBankXlate (rq : Request) (s : State) : Host.Outcome State Fault Refusal :=
  serve 0x22 rq (sized (5 + (byteAt rq.args 4).toNat) rq fun a => bankWrite rq (byteAt a 0) fun i => bankXlateOf a i) s

/-! ## BANK_CLASS (R48) -/

/-- The entries of a BANK_CLASS list; none when a class code names no class, wherever it stands (R48). -/
def parseBins : List Byte → Option (List BinEntry)
  | cls :: l0 :: l1 :: rest =>
    match classOfByte cls, parseBins rest with
    | some c, some es => some ({ cls := c, limit := clampBits 0 10000 (halfAt [l0, l1] 0) } :: es)
    | _, _ => none
  | _ => some []

/-- Write a list of entries into the hall bin table, upward from bin b. -/
def writeBins : Nat → List BinEntry → Vector BinEntry 64 → Vector BinEntry 64
  | _, [], v => v
  | b, e :: es, v => writeBins (b + 1) es (v.setIfInBounds b e)

/-- BANK_CLASS to a bank its requester is loading: entries past B63 are not written (R48). -/
def bankClassOf (a : List Byte) (i : BankId) (s : State) : State × Reply :=
  if 16 < (byteAt a 2).toNat then decline .badArgument s
  else match parseBins (a.drop 3) with
    | none => decline .badArgument s
    | some es =>
      let es := es.take (64 - (byteAt a 1).toNat)
      (s.setBank i { s.bank i with bins := writeBins (byteAt a 1).toNat es (s.bank i).bins },
        okReply [natByte es.length])

/-- BANK_CLASS (R45, R48). -/
def execBankClass (rq : Request) (s : State) : Host.Outcome State Fault Refusal :=
  serve 0x23 rq
    (sized (3 + 3 * (byteAt rq.args 2).toNat) rq fun a => bankWrite rq (byteAt a 0) fun i => bankClassOf a i) s

/-! ## BANK_ZONE (R49) -/

/-- The zone entry a BANK_ZONE stores, with the clamps of R49; none when the enable code names neither yes nor no. -/
def zoneOfBytes (a : List Byte) : Option ZoneEntry :=
  (boolOfByte (byteAt a 2)).map fun e =>
    { enabled := e, xCompare := clampBits 0 511 (halfAt a 3), xBits := clampBits 0 9 (byteAt a 5),
      yCompare := clampBits 0 511 (halfAt a 6), yBits := clampBits 0 9 (byteAt a 8),
      limit := clampBits 0 10000 (halfAt a 9) }

/-- A zone entry's bytes (R200). -/
def ZoneEntry.bytes (z : ZoneEntry) : List Byte :=
  [boolByte z.enabled] ++ halfBytes z.xCompare ++ [z.xBits] ++ halfBytes z.yCompare ++ [z.yBits] ++ halfBytes z.limit

/-- Store a zone entry of a bank. -/
def Bank.setZone (k : Bank) (z : Fin 8) (v : ZoneEntry) : Bank := { k with zones := k.zones.set z.val v }

/-- BANK_ZONE to a bank its requester is loading (R49). -/
def bankZoneOf (a : List Byte) (i : BankId) (s : State) : State × Reply :=
  match zoneOfByte (byteAt a 1), zoneOfBytes a with
  | some z, some v => (s.setBank i ((s.bank i).setZone z v), okReply (natByte (z.val + 1) :: v.bytes))
  | _, _ => decline .badArgument s

/-- BANK_ZONE (R45, R49). -/
def execBankZone (rq : Request) (s : State) : Host.Outcome State Fault Refusal :=
  serve 0x24 rq (sized 11 rq fun a => bankWrite rq (byteAt a 0) fun i => bankZoneOf a i) s

/-! ## BANK_CLOSE and BANK_DROP (R50, R51) -/

/-- The recipes 0 to 7. -/
def allRecipes : List (Fin 8) := [0, 1, 2, 3, 4, 5, 6, 7]

/-- A recipe in use whose unknown bin is PASS in the bank's bin table fails the commit check (R50). -/
def Bank.recipeFails (k : Bank) (r : Fin 8) : Bool :=
  k.recipes[r.val].inUse && (k.bins[k.recipes[r.val].unknownBin.val].cls == .pass)

/-- The commit check that fails: 0xFF for no recipe in use, else the lowest failing recipe's index; none when both
checks hold (R50, R200). -/
def Bank.commitFault (k : Bank) : Option Byte :=
  if allRecipes.all fun r => !k.recipes[r.val].inUse then some 0xFF
  else (allRecipes.find? k.recipeFails).map fun r => natByte r.val

/-- BANK_CLOSE of a bank its requester is loading (R50). -/
def bankCloseOf (i : BankId) (s : State) : State × Reply :=
  match (s.bank i).commitFault with
  | some b => (s, { status := .loadInvalid, data := [b] })
  | none => (s.setBank i { s.bank i with state := .ready, owner := none }, okReply [])

/-- BANK_CLOSE (R50). -/
def execBankClose (rq : Request) (s : State) : Host.Outcome State Fault Refusal :=
  serve 0x25 rq (sized 1 rq fun a => bankWrite rq (byteAt a 0) fun i => bankCloseOf i) s

/-- BANK_DROP of a bank, from any requester (R51). -/
def bankDropOf (i : BankId) (s : State) : State × Reply :=
  if (s.bank i).state = .loading then (s.setBank i { s.bank i with state := .idle, owner := none }, okReply [])
  else decline .refusedState s

/-- BANK_DROP (R51). -/
def execBankDrop (rq : Request) (s : State) : Host.Outcome State Fault Refusal :=
  serve 0x26 rq (sized 1 rq fun a => onBank (byteAt a 0) bankDropOf) s

/-! ## BANK_LIVE (R43, R52) -/

/-- The generation after one: after 4,294,967,295 comes 1 (R43). -/
def nextGeneration (g : Word) : Word := if g + 1 = 0 then 1 else g + 1

/-- The bank that was LIVE, as an activation of the other leaves it; a bank in another state stays (step 3 of R52). -/
def Bank.superseded (k : Bank) : Bank :=
  if k.state = .live then { k with state := if k.bound = 0 then .idle else .retiring } else k

/-- Activate a READY bank (R52). -/
def State.activate (s : State) (i : BankId) : State :=
  let g := nextGeneration s.banks.genCount
  let s1 := s.withBanks { s.banks with genCount := g }
  let s2 := s1.setBank i { s1.bank i with gen := g, state := .live }
  s2.setBank i.other (s2.bank i.other).superseded

/-- BANK_LIVE of a bank (R52). -/
def bankLiveOf (i : BankId) (s : State) : State × Reply :=
  if (s.bank i).state = .ready then (s.activate i, okReply (wordBytes (nextGeneration s.banks.genCount)))
  else decline .refusedState s

/-- BANK_LIVE (R52). -/
def execBankLive (rq : Request) (s : State) : Host.Outcome State Fault Refusal :=
  serve 0x27 rq (sized 1 rq fun a => onBank (byteAt a 0) bankLiveOf) s

/-! ## BANK_READ (R54) -/

/-- The four items of bank state (R200). -/
def Bank.headerBytes (k : Bank) : List Byte :=
  [k.state.code, indexByte k.owner] ++ wordBytes k.gen ++ [natByte k.bound]

/-- The recipe part (R54). -/
def Bank.recipePart (k : Bank) (idx : Byte) : Option (List Byte) :=
  (recipeOfByte idx).map fun r => natByte r.val :: k.recipes[r.val].bytes

/-- The translation part: up to n entries of recipe r from soft bin s, not past 511, after their count (R54). -/
def Bank.xlatePart (k : Bank) (idx : Byte) (first n : Nat) : Option (List Byte) :=
  if 64 < n then none
  else (recipeOfByte idx).map fun r =>
    let m := min n (512 - first)
    natByte m :: (List.range m).map fun j => storeRead unassigned k.xlate (xlateAddr r (first + j))

/-- A hall bin entry's bytes (R200). -/
def BinEntry.bytes (e : BinEntry) : List Byte := e.cls.code :: halfBytes e.limit

/-- The bins part: up to n bins from bin b, not past B63, after their count (R54). -/
def Bank.binsPart (k : Bank) (first n : Nat) : Option (List Byte) :=
  if 16 < n then none
  else
    let es := (k.bins.toList.drop first).take n
    some (natByte es.length :: es.flatMap BinEntry.bytes)

/-- The zone part (R54). -/
def Bank.zonePart (k : Bank) (idx : Byte) : Option (List Byte) :=
  (zoneOfByte idx).map fun z => natByte (z.val + 1) :: k.zones[z.val].bytes

/-- The part of a bank's contents a BANK_READ asks for, from its argument bytes; none when the part, its index or its
count names nothing (R54). The layout of the translation and bins parts is notes/assumptions/19.md. -/
def Bank.part (k : Bank) (a : List Byte) : Option (List Byte) :=
  if byteAt a 1 = 0 then some []
  else if byteAt a 1 = 1 then k.recipePart (byteAt a 2)
  else if byteAt a 1 = 2 then k.xlatePart (byteAt a 2) (halfAt a 3).toNat (byteAt a 5).toNat
  else if byteAt a 1 = 3 then k.binsPart (halfAt a 3).toNat (byteAt a 5).toNat
  else if byteAt a 1 = 4 then k.zonePart (byteAt a 2)
  else none

/-- BANK_READ of a bank (R54). -/
def bankReadOf (a : List Byte) (i : BankId) (s : State) : State × Reply :=
  match (s.bank i).part a with
  | none => decline .badArgument s
  | some p => (s, okReply ((s.bank i).headerBytes ++ p))

/-- BANK_READ (R54). -/
def execBankRead (rq : Request) (s : State) : Host.Outcome State Fault Refusal :=
  serve 0x28 rq (sized 6 rq fun a => onBank (byteAt a 0) (bankReadOf a)) s

end Sys2Proof.Machine
end

