-- ==== Sys2Proof/Machine/WaferRequests.lean ====
section
/-! DEFINITION. The requests about wafer records: reading, marking, the conditional seal, freeing and sending
(R184 to R189). -/

namespace Sys2Proof.Machine

/-- A request about a slot: a slot above 23 is BAD_ARGUMENT (R178). -/
def onSlot (b : Byte) (act : SlotId → State → State × Reply) (s : State) : State × Reply :=
  match slotOfByte b with
  | none => decline .badArgument s
  | some i => act i s

/-- A request that needs a record in the slot: a FREE slot is NO_WAFER (R179). -/
def onRecord (b : Byte) (act : SlotId → Record → State → State × Reply) (s : State) : State × Reply :=
  onSlot b (fun i s => match s.record i with
    | none => decline .noWafer s
    | some r => act i r s) s

/-! ## WAFER_LIST (R184) -/

/-- The requesters whose tags are on a slot's record, bit k for Qk (R200). -/
def State.tagBits (s : State) (i : SlotId) : Byte := bitsByte (allRequesters.map fun q => s.tag q == some i)

/-- A slot's entry in the wafer table (R200). -/
def State.slotEntry (s : State) (i : SlotId) : List Byte :=
  match s.record i with
  | none => [0, 0, 0, 0, 0, 0, 0, 0xFF, 0, 0]
  | some r =>
    [r.state.code] ++ wordBytes r.key.lot
      ++ [r.key.wafer, natByte r.cell.val, indexByte r.frame, r.flags.byte, s.tagBits i]

/-- A list of slots as its count and the slots (R200). -/
def slotListBytes (is : List SlotId) : List Byte := natByte is.length :: is.map fun i => natByte i.val

/-- The data of a WAFER_LIST reply (R184, R200). -/
def State.tableBytes (s : State) : List Byte :=
  allSlots.flatMap s.slotEntry ++ slotListBytes s.dir.exportOrder ++ slotListBytes s.xport.owed
    ++ [natByte s.maps.free.length]

/-- WAFER_LIST (R184). -/
def execWaferList (rq : Request) (s : State) : Host.Outcome State Fault Refusal :=
  serve 0x40 rq (sized 0 rq fun _ s => (s, okReply s.tableBytes)) s

/-! ## WAFER_READ and WAFER_MARK (R185, R187) -/

/-- The slot's record is the one being dumped: the dump in progress is of this slot, and its record has not been freed
since the start. -/
def State.isDumped (s : State) (i : SlotId) : Bool :=
  match s.xport.dump with
  | none => false
  | some d => d.slot == i && !d.gone

/-- On which lists a slot's record stands: export order list, owed list, map pending list, dump in progress (R185). -/
def State.membership (s : State) (i : SlotId) : Byte :=
  bitsByte [s.dir.exportOrder.contains i, s.xport.owed.contains i, s.xport.mapQ.any fun e => e.1 == i, s.isDumped i]

/-- The content of a WAFER_READ or WAFER_MARK reply: the summary without a kind, the tag holders and the membership; a
FREE slot's state alone (R185, R200). -/
def State.readBytes (s : State) (i : SlotId) : List Byte :=
  match s.record i with
  | none => s.summary 0 i
  | some _ => s.summary 0 i ++ [s.tagBits i, s.membership i]

/-- WAFER_READ (R185). -/
def execWaferRead (rq : Request) (s : State) : Host.Outcome State Fault Refusal :=
  serve 0x41 rq (sized 1 rq fun a => onSlot (byteAt a 0) fun i s => (s, okReply (s.readBytes i))) s

/-- WAFER_MARK (R187): the requester's tag moves to this record, and the reply reports it among the tag holders. -/
def execWaferMark (rq : Request) (s : State) : Host.Outcome State Fault Refusal :=
  serve 0x42 rq (sized 1 rq fun a => onRecord (byteAt a 0) fun i _ s =>
    (s.setTag (requesterOf rq) (some i), okReply ((s.setTag (requesterOf rq) (some i)).readBytes i))) s

/-! ## WAFER_SEAL (R188) -/

/-- The results a WAFER_SEAL reports: final outcome, final yield value and disposition (R200). -/
def Record.sealBytes (r : Record) : List Byte :=
  [outcomeCode r.outcome] ++ yieldBytes (r.finalYield.map BitVec.toNat) ++ [dispositionCode r.disposition]

/-- The record in a slot is one a WAFER_SEAL of requester q seals: q's tag is on it and it is OPEN or CLOSING. -/
def State.sealable (s : State) (q : Fin 4) (i : SlotId) : Bool :=
  s.tag q == some i && match s.record i with
    | none => false
    | some r => r.isActive

/-- The reply to a WAFER_SEAL that has sealed the record in the slot. -/
def State.sealReply (s : State) (i : SlotId) : Reply :=
  match s.record i with
  | none => bareReply .changed
  | some r => okReply r.sealBytes

/-- WAFER_SEAL of a slot by requester q; the requester's tag becomes absent in every case (R188). -/
def waferSealBy (q : Fin 4) (i : SlotId) (s : State) : State × Reply :=
  if s.sealable q i then
    let s1 := (s.sealSlot i (some .host)).setTag q none
    (s1, s1.sealReply i)
  else (s.setTag q none, bareReply .changed)

/-- WAFER_SEAL (R188). -/
def execWaferSeal (rq : Request) (s : State) : Host.Outcome State Fault Refusal :=
  serve 0x43 rq (sized 1 rq fun a => onSlot (byteAt a 0) (waferSealBy (requesterOf rq))) s

/-! ## WAFER_DROP, WAFER_FREE and WAFER_SEND (R94, R167, R189) -/

/-- The reply to a freed record: its key and the state it had (R189, R200). -/
def Record.freedBytes (r : Record) : List Byte := wordBytes r.key.lot ++ [r.key.wafer, r.state.code]

/-- WAFER_DROP (R94, R189). -/
def execWaferDrop (rq : Request) (s : State) : Host.Outcome State Fault Refusal :=
  serve 0x44 rq (sized 1 rq fun a => onRecord (byteAt a 0) fun i r s => (s.freeRecord i, okReply r.freedBytes)) s

/-- WAFER_FREE of a record: an EXPORTED record is freed, any other is refused (R94). -/
def waferFreeOf (i : SlotId) (r : Record) (s : State) : State × Reply :=
  if r.state = .exported then (s.freeRecord i, okReply r.freedBytes) else decline .refusedState s

/-- WAFER_FREE (R94, R189). -/
def execWaferFree (rq : Request) (s : State) : Host.Outcome State Fault Refusal :=
  serve 0x45 rq (sized 1 rq fun a => onRecord (byteAt a 0) waferFreeOf) s

/-- An outcome's code (R200). -/
def SendOutcome.code : SendOutcome → Byte
  | .queued => 1
  | .present => 2
  | .owed => 3

/-- WAFER_SEND of a record: its FINAL is queued again by R163, unless it is queued or owed already; an OPEN or CLOSING
record is refused (R167, R189). -/
def waferSendOf (i : SlotId) (r : Record) (s : State) : State × Reply :=
  if r.isSealed = false then decline .refusedState s
  else if i ∈ s.xport.owed then (s, okReply [SendOutcome.present.code])
  else (s.queueFinal i, okReply [(s.xport.finalOutcome i).code])

/-- WAFER_SEND (R167, R189). -/
def execWaferSend (rq : Request) (s : State) : Host.Outcome State Fault Refusal :=
  serve 0x46 rq (sized 1 rq fun a => onRecord (byteAt a 0) waferSendOf) s

end Sys2Proof.Machine
end

