-- ==== Sys2Proof/Machine/LinkRequests.lean ====
section
/-! DEFINITION. The requests about maps and the hall link, and the hall reset (R190 to R192). -/

namespace Sys2Proof.Machine

/-! ## MAP_SEND and MAP_STOP (R190) -/

/-- The outcome of a MAP_SEND: 1 ADDED, 2 PENDING, 3 STARTED (R190, R200). -/
def ExportEngine.sendCode (x : ExportEngine) (i : SlotId) : Byte :=
  if x.mapQ.any fun e => e.1 == i then 2
  else if x.mapQ.isEmpty && x.dump.isNone then 3
  else 1

/-- MAP_SEND of a record: one that holds no frame is refused (R190). -/
def mapSendOf (i : SlotId) (r : Record) (s : State) : State × Reply :=
  if r.frame.isNone then decline .refusedState s else (s.requestMap i, okReply [s.xport.sendCode i])

/-- MAP_SEND (R190). -/
def execMapSend (rq : Request) (s : State) : Host.Outcome State Fault Refusal :=
  serve 0x50 rq (sized 1 rq fun a => onRecord (byteAt a 0) mapSendOf) s

/-- MAP_STOP (R172, R190): the dump in progress, if there is one, ends with ABORTED. -/
def execMapStop (rq : Request) (s : State) : Host.Outcome State Fault Refusal :=
  serve 0x51 rq (sized 0 rq fun _ s =>
    (s.modDump fun d => { d with aborted := true }, okReply [indexByte (s.xport.dump.map fun d => d.slot)])) s

/-! ## LINK_READ (R191) -/

/-- The part of a LINK_READ reply before the dump: the three counts, the pause state and the occupancies (R191,
R200). -/
def State.linkBytes (s : State) : List Byte :=
  halfBytes s.hall.rx.crc ++ halfBytes s.hall.rx.framing ++ halfBytes s.hall.rx.overrun
    ++ [boolByte s.hall.paused, natByte s.hall.rx.fifo.length, natByte s.hall.resp.length, natByte s.hall.fwd.length,
        natByte s.xport.sumQ.length, natByte s.alerts.queue.length, natByte s.xport.mapQ.length,
        natByte s.xport.owed.length]

/-- A dump's eight bytes after its slot (R200). -/
def Dump.bytes (d : Dump) : List Byte :=
  [d.origin.code] ++ natHalf d.nextRow ++ natHalf d.rows
    ++ [natByte d.restarts, bitsByte [d.live, d.dirty, d.unstable], boolByte d.aborted]

/-- The eight bytes of a free value (notes/assumptions/4.md). -/
def freeBytes (v : BitVec 64) : List Byte := wordBytes (v.extractLsb' 32 32) ++ wordBytes (v.extractLsb' 0 32)

/-- The dump part of a LINK_READ reply: presence, slot and eight bytes. With no dump the manual states presence 0 and
slot none, and no more: the eight bytes are a free value. -/
def State.dumpBytes (s : State) : List Byte :=
  match s.xport.dump with
  | none => [0, 0xFF] ++ freeBytes (Config.noDumpFields s.draws)
  | some d => [1, natByte d.slot.val] ++ d.bytes

/-- The receive side with its three counts cleared (R191). -/
def HallRx.cleared (x : HallRx) : HallRx := { x with crc := 0, framing := 0, overrun := 0 }

/-- One free value has been drawn when there was no dump to report. -/
def State.drawn (s : State) : State := if s.xport.dump.isNone then s.withDraws (s.draws + 1) else s

/-- LINK_READ, its option read. -/
def linkReadWith (clear : Bool) (s : State) : State × Reply :=
  (if clear then s.drawn.setRx s.hall.rx.cleared else s.drawn, okReply (s.linkBytes ++ s.dumpBytes))

/-- LINK_READ (R191). -/
def execLinkRead (rq : Request) (s : State) : Host.Outcome State Fault Refusal :=
  serve 0x60 rq (sized 1 rq fun a => withOption (byteAt a 0) linkReadWith) s

/-! ## RESET_ALL (R192) -/

/-- A hall reset: every block at its reset values, with the node address read again from the straps (R175, R192). What
the straps then read comes from outside the part and no command carries it: it is a free value, drawn once
(notes/assumptions/11.md). -/
def State.hallReset (s : State) : State := (s.resetAll (Config.strapLevels s.draws)).withDraws (s.draws + 1)

/-- RESET_ALL: a hall reset when it is taken, and no reply (R192). A RESET_ALL with arguments is BAD_ARGUMENT under step
2 of R178 (notes/assumptions/22.md). -/
def execResetAll (rq : Request) (s : State) : Host.Outcome State Fault Refusal :=
  match s.takeRequest 0x7F rq with
  | none => .next s
  | some s1 =>
    if rq.args = [] then .next s1.hallReset
    else .next (s1.respond 0x7F rq (bareReply .badArgument))

end Sys2Proof.Machine
end

