-- ==== Sys2Proof/Machine/Dispatch.lean ====
section
/-! DEFINITION. One command to its meaning: one arm for each constructor of Instr. -/

namespace Sys2Proof.Machine

/-- What a command does to everything but the queue of waiting commands. -/
def exec (i : Instr) (s : State) : Host.Outcome State Fault Refusal :=
  match i with
  | .powerOnReset straps => Sys2Proof.Machine.execPowerOnReset straps s
  | .cellFrameReception c bytes => Sys2Proof.Machine.execCellFrameReception c bytes s
  | .lineLevelChange c line level => Sys2Proof.Machine.execLineLevelChange c line level s
  | .edgeRecognition c line level => Sys2Proof.Machine.execEdgeRecognition c line level s
  | .timeCountStep => Sys2Proof.Machine.execTimeCountStep s
  | .graceExpiry c => Sys2Proof.Machine.execGraceExpiry c s
  | .progressExpiry slot => Sys2Proof.Machine.execProgressExpiry slot s
  | .engineTake => Sys2Proof.Machine.execEngineTake s
  | .pause => Sys2Proof.Machine.execPause s
  | .resumeSymbol => Sys2Proof.Machine.execResumeSymbol s
  | .hallFrameReception bytes => Sys2Proof.Machine.execHallFrameReception bytes s
  | .transmitTake => Sys2Proof.Machine.execTransmitTake s
  | .transmitCompletion => Sys2Proof.Machine.execTransmitCompletion s
  | .unknownRequest name rq => Sys2Proof.Machine.execUnknownRequest name rq s
  | .ident rq => Sys2Proof.Machine.execIdent rq s
  | .timeSet rq => Sys2Proof.Machine.execTimeSet rq s
  | .timeRead rq => Sys2Proof.Machine.execTimeRead rq s
  | .cellSet rq => Sys2Proof.Machine.execCellSet rq s
  | .cellRead rq => Sys2Proof.Machine.execCellRead rq s
  | .cellRestart rq => Sys2Proof.Machine.execCellRestart rq s
  | .stopClear rq => Sys2Proof.Machine.execStopClear rq s
  | .bankOpen rq => Sys2Proof.Machine.execBankOpen rq s
  | .bankRecipe rq => Sys2Proof.Machine.execBankRecipe rq s
  | .bankXlate rq => Sys2Proof.Machine.execBankXlate rq s
  | .bankClass rq => Sys2Proof.Machine.execBankClass rq s
  | .bankZone rq => Sys2Proof.Machine.execBankZone rq s
  | .bankClose rq => Sys2Proof.Machine.execBankClose rq s
  | .bankDrop rq => Sys2Proof.Machine.execBankDrop rq s
  | .bankLive rq => Sys2Proof.Machine.execBankLive rq s
  | .bankRead rq => Sys2Proof.Machine.execBankRead rq s
  | .alertSet rq => Sys2Proof.Machine.execAlertSet rq s
  | .streamSet rq => Sys2Proof.Machine.execStreamSet rq s
  | .waferList rq => Sys2Proof.Machine.execWaferList rq s
  | .waferRead rq => Sys2Proof.Machine.execWaferRead rq s
  | .waferMark rq => Sys2Proof.Machine.execWaferMark rq s
  | .waferSeal rq => Sys2Proof.Machine.execWaferSeal rq s
  | .waferDrop rq => Sys2Proof.Machine.execWaferDrop rq s
  | .waferFree rq => Sys2Proof.Machine.execWaferFree rq s
  | .waferSend rq => Sys2Proof.Machine.execWaferSend rq s
  | .mapSend rq => Sys2Proof.Machine.execMapSend rq s
  | .mapStop rq => Sys2Proof.Machine.execMapStop rq s
  | .linkRead rq => Sys2Proof.Machine.execLinkRead rq s
  | .resetAll rq => Sys2Proof.Machine.execResetAll rq s
  | .cellOpenFrameDiscard c cause => Sys2Proof.Machine.execCellOpenFrameDiscard c cause s
  | .hallOpenFrameDiscard cause => Sys2Proof.Machine.execHallOpenFrameDiscard cause s

end Sys2Proof.Machine
end

