-- ==== Sys2Proof/Safety.lean ====
section
/-! DEFINITION. The terms claims are stated in: what a command may change, when a request is taken and answered, the
bytes a tester sends, and the laws that every step keeps. -/

/-- An argument byte of a request as a number, 0 past its end. -/
def Sys2Proof.Request.arg (rq : Request) (k : Nat) : Nat := (rq.args.getD k 0).toNat

namespace Sys2Proof.Machine

/-! ## What a command changes -/

/-- The blocks of the state: its fields. -/
inductive Block where
  | cells
  | engine
  | time
  | banks
  | dir
  | maps
  | alerts
  | xport
  | hall
  | tags
  | node
  | straps
  | draws
  | sent
  | pending
  deriving DecidableEq, Repr

/-- Two states agree in a block. -/
def State.sameIn (s t : State) : Block → Prop
  | .cells => t.cells = s.cells
  | .engine => t.engine = s.engine
  | .time => t.time = s.time
  | .banks => t.banks = s.banks
  | .dir => t.dir = s.dir
  | .maps => t.maps = s.maps
  | .alerts => t.alerts = s.alerts
  | .xport => t.xport = s.xport
  | .hall => t.hall = s.hall
  | .tags => t.tags = s.tags
  | .node => t.node = s.node
  | .straps => t.straps = s.straps
  | .draws => t.draws = s.draws
  | .sent => t.sent = s.sent
  | .pending => t.pending = s.pending

/-- From s to t nothing changes outside the blocks listed. -/
def State.changesOnly (s t : State) (bs : List Block) : Prop := ∀ b, b ∉ bs → s.sameIn t b

/-- From s to t no cell but c changes. -/
def State.cellsKeptBut (s t : State) (c : CellId) : Prop := ∀ d, d ≠ c → t.cell d = s.cell d

/-- From s to t no slot but i changes. -/
def State.slotsKeptBut (s t : State) (i : SlotId) : Prop := ∀ j, j ≠ i → t.record j = s.record j

/-! ## Requests -/

/-- The management unit takes this request now: the RESP queue has room, and the request is the head of the receive
FIFO, or the FIFO is empty and the request is addressed to the part (R177; that an addressed request arrives and is
taken at once is the model's choice, notes/assumptions/5.md). -/
abbrev State.takesNow (s : State) (name : Byte) (rq : Request) : Prop :=
  s.hall.resp.length < 8 ∧
    ((s.hall.rx.fifo = [] ∧ s.addressed rq.route = true) ∨ s.hall.rx.fifo.head? = some { name := name, rq := rq })

/-- The replies a request queues: one, or none for a broadcast (R175, R178). -/
def State.repliesTo (s : State) (name : Byte) (rq : Request) (p : Reply) : List OutFrame :=
  if isBroadcast rq then [] else [replyFrame s name rq p]

/-- The hall port after a request was taken and answered with p, and nothing else was done to it. -/
def State.answered (s : State) (name : Byte) (rq : Request) (p : Reply) : HallPort :=
  { s.hall with
    resp := s.hall.resp ++ s.repliesTo name rq p
    rx := { s.hall.rx with fifo := s.hall.rx.fifo.tail } }

/-- A command is carried out with this reply and no change but its take. -/
def State.onlyReplies (s : State) (i : Instr) (name : Byte) (rq : Request) (p : Reply) : Prop :=
  exec i s = .next (s.withHall (s.answered name rq p))

/-- A request's frame on the hall link (R195, R200). -/
def requestFrame (name : Byte) (rq : Request) : OutFrame :=
  { cls := 0x31, route := rq.route, payload := [name, rq.tag] ++ rq.args }

/-- A request's first argument is a bank's letter code. -/
def namesBank (rq : Request) : Bool := rq.arg 0 == 0x0A || rq.arg 0 == 0x0B

/-- The bank a request about a bank names. -/
def bankNamed (rq : Request) : BankId := if rq.arg 0 = 0x0A then .a else .b

/-- A request that names a bank comes from the load owner of a bank in LOADING (checks 1 and 2 of R45). -/
def State.ownsLoad (s : State) (rq : Request) : Bool :=
  namesBank rq && (s.bank (bankNamed rq)).state == .loading &&
    (s.bank (bankNamed rq)).owner == some (requesterOf rq)

/-- The part a BANK_READ asks for is none of the five, or its index or count names nothing (R54). -/
def readsNoPart (rq : Request) : Bool :=
  match rq.arg 1 with
  | 0 => false
  | 1 => decide (7 < rq.arg 2)
  | 2 => decide (7 < rq.arg 2) || decide (64 < rq.arg 5)
  | 3 => decide (16 < rq.arg 5)
  | 4 => rq.arg 2 == 0 || decide (8 < rq.arg 2)
  | _ => true

/-- A request of the right length names no object, or carries a code that names no value or a list that is too long, and
gets as far as the check of it (step 3 of R178): a cell above 7, a slot above 23, a bank other than A and B; of a write by
the load owner a recipe above 7, a zone other than 1 to 8, an over-long list, a class, policy, denominator or option code
(check 3 of R45); of a BANK_OPEN in IDLE or READY its option (R44); codes that a mask selects (R1, R157, R200); an unknown
alert kind (R140); a clear option. -/
def State.namesNothing (s : State) (i : Instr) : Bool :=
  match i with
  | .cellRestart rq | .stopClear rq => decide (7 < rq.arg 0)
  | .cellRead rq => decide (7 < rq.arg 0) || decide (1 < rq.arg 1)
  | .cellSet rq => decide (7 < rq.arg 0) || ((rq.args.getD 1 0).getLsbD 0 && decide (3 < rq.arg 2)) ||
      ((rq.args.getD 1 0).getLsbD 1 && decide (1 < rq.arg 3)) ||
      ((rq.args.getD 1 0).getLsbD 4 && decide (1 < rq.arg 6)) ||
      ((rq.args.getD 1 0).getLsbD 5 && decide (1 < rq.arg 7))
  | .waferRead rq | .waferMark rq | .waferSeal rq | .waferDrop rq | .waferFree rq | .waferSend rq | .mapSend rq =>
    decide (23 < rq.arg 0)
  | .bankClose rq | .bankDrop rq | .bankLive rq => !namesBank rq
  | .bankRead rq => !namesBank rq || readsNoPart rq
  | .bankOpen rq => !namesBank rq || (decide (1 < rq.arg 1) &&
      ((s.bank (bankNamed rq)).state == .idle || (s.bank (bankNamed rq)).state == .ready))
  | .bankRecipe rq => !namesBank rq || (s.ownsLoad rq && (decide (7 < rq.arg 1) || decide (1 < rq.arg 2) ||
      decide (2 < rq.arg 12) || decide (1 < rq.arg 13) || decide (1 < rq.arg 22)))
  | .bankXlate rq => !namesBank rq || (s.ownsLoad rq && (decide (7 < rq.arg 1) || decide (64 < rq.arg 4)))
  | .bankClass rq => !namesBank rq || (s.ownsLoad rq && (decide (16 < rq.arg 2) ||
      (List.range (rq.arg 2)).any fun k => decide (3 < rq.arg (3 + 3 * k))))
  | .bankZone rq => !namesBank rq || (s.ownsLoad rq && (rq.arg 1 == 0 || decide (8 < rq.arg 1) ||
      decide (1 < rq.arg 2)))
  | .alertSet rq => decide (15 < rq.arg 2) || (List.range (rq.arg 2)).any fun k =>
      rq.arg (3 + 2 * k) == 0 || decide (15 < rq.arg (3 + 2 * k))
  | .streamSet rq => (rq.args.getD 0 0).getLsbD 5 && decide (1 < rq.arg 6)
  | .linkRead rq => decide (1 < rq.arg 0)
  | _ => false

/-! ## Received frames and edges -/

/-- The bytes between two delimiters are no frame: the header or the CRC is not complete, the header's length exceeds
1024, or the end delimiter does not stand directly after the CRC (R3, step 1 of R176). -/
def framingFault (bytes : List Byte) : Prop :=
  bytes.length < 6 ∨ 1024 < (bytes.getD 2 0 ++ bytes.getD 3 0 : Half).toNat ∨
    bytes.length ≠ 6 + (bytes.getD 2 0 ++ bytes.getD 3 0 : Half).toNat

/-- A frame's content is no tester frame's: its class is neither TOUCHDOWN nor MARKER, or its length does not fit its class
and site count, or its site count is above 16 (R5). -/
def contentFault (f : OutFrame) : Prop :=
  (f.cls ≠ 0x01 ∧ f.cls ≠ 0x02) ∨
    (f.cls = 0x01 ∧ (f.payload.length < 8 ∨ 16 < (f.payload.getD 7 0).toNat ∨
      f.payload.length ≠ 8 + 8 * (f.payload.getD 7 0).toNat)) ∨
    (f.cls = 0x02 ∧ f.payload.length ≠ 7)

/-- A change to this level is in a polarity's active direction (R25). -/
abbrev Polarity.activeTo (p : Polarity) (v : Level) : Prop := (p = .rising ∧ v = .high) ∨ (p = .falling ∧ v = .low)

/-- Command i makes level v the recognized level of cell c's line l: it recognizes a candidate that has been held for its
width, or, with the glitch filter OFF, it is the raw change itself (R24; notes/assumptions/10.md). -/
def State.recognizesNow (s : State) (i : Instr) (c : CellId) (l : Line) (v : Level) : Prop :=
  (i = .edgeRecognition c l v ∧ ∃ d, ((s.cell c).line l).candidate = some d ∧ d.level = v ∧ d.width ≤ d.held) ∨
    (i = .lineLevelChange c l v ∧ (s.cell c).cfg.filter = .off ∧ ((s.cell c).line l).candidate = none ∧
      ((s.cell c).line l).pin ≠ v ∧ ((s.cell c).line l).recognized ≠ v)

/-! ## Tester payloads as sent (R6, R196) -/

/-- A site entry as a tester on a port of this byte order sends it. -/
def SiteEntry.sentIn (o : ByteOrder) (e : SiteEntry) : List Byte :=
  [e.site, e.flags] ++ inOrder o (halfBytes e.x) ++ inOrder o (halfBytes e.y) ++ inOrder o (halfBytes e.softBin)

/-- A TOUCHDOWN payload as a tester on a port of this byte order sends it. -/
def Touchdown.sentIn (o : ByteOrder) (t : Touchdown) : List Byte :=
  inOrder o (wordBytes t.key.lot) ++ [t.key.wafer] ++ inOrder o (halfBytes t.seq) ++ [natByte t.entries.length]
    ++ t.entries.flatMap (SiteEntry.sentIn o)

/-- A MARKER payload as a tester on a port of this byte order sends it. -/
def Marker.sentIn (o : ByteOrder) (m : Marker) : List Byte :=
  [m.kind] ++ inOrder o (wordBytes m.key.lot) ++ [m.key.wafer, m.recipe]

/-- A touchdown's frame as sent on a link of this byte order, between its delimiters. -/
def touchdownWire (o : ByteOrder) (route : Byte) (t : Touchdown) : List Byte :=
  (OutFrame.mk 0x01 route (t.sentIn o)).wire

/-- A marker's frame as sent on a link of this byte order, between its delimiters. -/
def markerWire (o : ByteOrder) (route : Byte) (m : Marker) : List Byte :=
  (OutFrame.mk 0x02 route (m.sentIn o)).wire

/-! ## What the rules name in words -/

/-- The alert queue block after LINK_ERROR is raised for cell c if a count of faults n is a multiple of 16. -/
def State.linkErrorAt (s : State) (c : CellId) (n : Nat) : AlertUnit :=
  if n % 16 = 0 then (s.raise { kind := .linkError, cell := some c }).alerts else s.alerts

/-- 1 for a PASS, 0 for any other class. -/
def onePass (c : BinClass) : Word := if c = .pass then 1 else 0

/-- The record after the first result of a die: T, P and FP, its bin, its zone and its site. -/
def Record.firstResult (r : Record) (q : SiteResult) : Record :=
  { r with
    counts := { r.counts with
      t := r.counts.t + 1
      p := r.counts.p + onePass q.cls
      fp := r.counts.fp + onePass q.cls }
    bins := r.bins.set q.bin.val (r.bins[q.bin.val] + 1)
    zones := r.zones.set q.zone.val
      { tested := r.zones[q.zone.val].tested + 1
        passed := r.zones[q.zone.val].passed + onePass q.cls }
    sites := r.sites.set q.site.val
      { results := r.sites[q.site.val].results + 1
        passes := r.sites[q.site.val].passes + onePass q.cls } }

/-- An alert of a limit check: it carries the record's cell, slot and key (R125). -/
def Record.notice (r : Record) (i : SlotId) (kind : AlertKind) (index value : Option Nat) : Alert :=
  { kind := kind, cell := some r.cell, slot := some i, key := some r.key, index := index
    value := value.map (BitVec.ofNat 16) }

/-- YIELD_LOW, when there is a wafer yield and it is below its limit. -/
def Record.yieldNotices (r : Record) (i : SlotId) (rc : Recipe) : List Alert :=
  match r.waferYield rc with
  | none => []
  | some y => if y < rc.yieldLimit.toNat then [r.notice i .yieldLow none (some y)] else []

/-- ZONE_YIELD_LOW for each of Z1 to Z8, in ascending order, that has at least `least` tested dies and a yield below its
limit. -/
def Record.zoneNotices (r : Record) (i : SlotId) (k : Bank) (least : Nat) : List Alert :=
  (List.finRange 8).filterMap fun z =>
    match ratio (r.zones[z.val + 1].passed).toNat (r.zones[z.val + 1].tested).toNat with
    | none => none
    | some y =>
      if least ≤ (r.zones[z.val + 1].tested).toNat ∧ y < (k.zones[z.val].limit).toNat then
        some (r.notice i .zoneYieldLow (some (z.val + 1)) (some y))
      else none

/-- BIN_LIMIT for each of B0 to B63, in ascending order, whose limit is below 10000 and whose share is above it. -/
def Record.binNotices (r : Record) (i : SlotId) (k : Bank) : List Alert :=
  (List.finRange 64).filterMap fun b =>
    match ratio (r.bins[b.val]).toNat r.counts.t.toNat with
    | none => none
    | some y =>
      if (k.bins[b.val].limit).toNat < 10000 ∧ (k.bins[b.val].limit).toNat < y then
        some (r.notice i .binLimit (some b.val) (some y))
      else none

/-- What a checkpoint evaluation raises, in its order (R124). -/
def Record.checkpointNotices (r : Record) (i : SlotId) (rc : Recipe) (k : Bank) : List Alert :=
  r.yieldNotices i rc ++ r.zoneNotices i k rc.minSample.toNat ++ r.binNotices i k

/-- What a final evaluation raises, in its order (R129, R130). -/
def Record.finalNotices (r : Record) (i : SlotId) (rc : Recipe) (k : Bank) : List Alert :=
  (if r.waferYield rc = none then [r.notice i .noData none none] else r.yieldNotices i rc)
    ++ r.zoneNotices i k 1 ++ r.binNotices i k

/-- The record has counted more passes than its recipe's G under the GROSS denominator (R120). -/
def Record.isOverGross (r : Record) (rc : Recipe) : Bool :=
  rc.denominator == .gross && decide (rc.gross.toNat < r.counts.p.toNat)

/-- The disposition of a wafer yield against its limit (R129). -/
def Record.judgement (r : Record) (rc : Recipe) : Disposition :=
  match r.waferYield rc with
  | none => .nodata
  | some y => if y < rc.yieldLimit.toNat then .low else .passed

/-- The SUM queue and the owed list after a FINAL for slot i is handed over, i having no PROGRESS entry queued (steps 1
to 4 of R163). -/
def ExportEngine.handedOver (x : ExportEngine) (i : SlotId) (sumQ : List (SlotId × SumKind)) (owed : List SlotId) :
    Prop :=
  ((i, SumKind.final) ∈ x.sumQ → sumQ = x.sumQ ∧ owed = x.owed) ∧
    ((i, SumKind.final) ∉ x.sumQ → x.sumQ.length < 8 → sumQ = x.sumQ ++ [(i, .final)] ∧ owed = x.owed) ∧
    (∀ before j after, (i, SumKind.final) ∉ x.sumQ → 8 ≤ x.sumQ.length → x.sumQ = before ++ (j, .progress) :: after →
      (∀ e ∈ before, e.2 = .final) → sumQ = before ++ after ++ [(i, .final)] ∧ owed = x.owed) ∧
    ((i, SumKind.final) ∉ x.sumQ → 8 ≤ x.sumQ.length → (∀ e ∈ x.sumQ, e.2 = .final) →
      sumQ = x.sumQ ∧ owed = x.owed ++ [i])

/-- What a seal does besides the record itself: the alerts of the final evaluation are raised, with the STOP latches
they set; the bound count falls, and a RETIRING bank whose count falls to 0 becomes IDLE; the tags on the record are
cleared; the slot becomes the last in the order of seals; its FINAL is handed over (R53, R91, R128 to R130, R163). -/
def State.sealEffects (s t : State) (i : SlotId) (r : Record) : Prop :=
  t.alerts = (s.raiseAll (r.finalNotices i (s.recipeOf r) (s.bank r.bank))).alerts ∧
    (∀ d, (t.cell d).stopLatch =
      ((s.raiseAll (r.finalNotices i (s.recipeOf r) (s.bank r.bank))).cell d).stopLatch) ∧
    t.bank r.bank = { s.bank r.bank with
      bound := (s.bank r.bank).bound - 1
      state := if (s.bank r.bank).state = .retiring ∧ (s.bank r.bank).bound - 1 = 0 then .idle
        else (s.bank r.bank).state } ∧
    t.bank r.bank.other = s.bank r.bank.other ∧
    (∀ q, t.tag q = if s.tag q = some i then none else s.tag q) ∧
    t.dir.exportOrder = s.dir.exportOrder ∧ t.dir.sealOrder = s.dir.sealOrder.erase i ++ [i] ∧
    t.progressTimer i = none ∧ t.xport.mapQ = s.xport.mapQ ∧ t.xport.dump = s.xport.dump ∧
    ((i, SumKind.progress) ∉ s.xport.sumQ → s.xport.handedOver i t.xport.sumQ t.xport.owed) ∧
    ((i, SumKind.progress) ∈ s.xport.sumQ → s.xport.owed = [] →
      { s.xport with sumQ := s.xport.sumQ.erase (i, .progress) }.handedOver i t.xport.sumQ t.xport.owed)

/-- The record a seal leaves of r, with its close reason and close-start time, and with SUMMARY_OWED as `owed` says (R71,
R91, R129). -/
def Record.sealedAs (r : Record) (reason : Option CloseReason) (start : Option Word) (now : Word) (rc : Recipe)
    (owed : Bool) : Record :=
  { r with
    state := .closed
    reason := reason
    closeStart := start
    sealTime := some now
    outcome := some (compareLimit (r.waferYield rc) rc.yieldLimit.toNat)
    finalYield := (r.waferYield rc).map (BitVec.ofNat 16)
    disposition := some (r.judgement rc)
    flags := { r.flags with overGross := r.flags.overGross || r.isOverGross rc, summaryOwed := owed }
    recipeCopy := some rc }

/-! ## A frame the engine takes -/

/-- The free engine takes this frame from cell c next, `rest` stays in the FIFO, and the frame is collated: the mode is
COLLATE or SILENT and lb is the LIVE bank (R2, R18, R56). -/
abbrev State.collatesNext (s : State) (c : CellId) (e : FifoEntry) (rest : List FifoEntry) (lb : BankId) : Prop :=
  s.nextCell = some c ∧ (s.cell c).fifo = e :: rest ∧
    ((s.cell c).cfg.mode = .collate ∨ (s.cell c).cfg.mode = .silent) ∧ s.liveBank = some lb

/-- The state after the engine has taken cell c's oldest frame, before it is handled (R18, R19). -/
abbrev State.taken (s : State) (c : CellId) : State := (s.popFifo c).withEngine c

/-- The hall port after a frame from cell c has been handled: under COLLATE and FORWARD its copy is at the tail of the
FWD queue, under SILENT and OFF nothing is (R2, R56). -/
def State.copied (s : State) (c : CellId) (copy : OutFrame) : HallPort :=
  if (s.cell c).cfg.mode = .collate ∨ (s.cell c).cfg.mode = .forward then { s.hall with fwd := s.hall.fwd ++ [copy] }
  else s.hall

/-- Slot, bank letter and generation of a record, as an annotation gives them (R197). -/
def Record.place (r : Record) (i : SlotId) : List Byte := [natByte i.val, r.bank.code] ++ wordBytes r.gen

/-- Slot, bank letter and generation of no record (R197). -/
def noPlace : List Byte := [0xFF, 0xFF, 0, 0, 0, 0]

/-- The forwarded copy of a marker from cell c, with the place of the record it acted on (R69, R197). -/
def State.markerCopy (s : State) (c : CellId) (route : Byte) (m : Marker) (place : List Byte) : OutFrame :=
  { cls := 0x12, route := s.node ++ BitVec.ofNat 4 c.val, payload := m.bytes ++ place ++ [route] }

/-- The forwarded copy of a touchdown from cell c, with the place of its record and four bytes for each site (R67,
R197). -/
def State.touchdownCopy (s : State) (c : CellId) (route : Byte) (td : Touchdown) (place notes : List Byte) : OutFrame :=
  { cls := 0x11, route := s.node ++ BitVec.ofNat 4 c.val, payload := td.bytes ++ place ++ [route] ++ notes }

/-- The hall port while its transmitter begins to send a frame of a class, made by the part itself (R154, R195). -/
def State.nowSending (s : State) (st : Stream) (cls : Byte) (payload : List Byte) (a : TxAction) : HallPort :=
  { s.hall with tx := some (
      { stream := st, frame := { cls := cls, route := s.node ++ (0 : BitVec 4), payload := payload }, action := a }) }

/-! ## Collating a touchdown -/

/-- One entry of a touchdown bound to the record in slot i is handled, from s to t: with recipe rc and bank k, `dies` being
the dies of the earlier entries that went on to translation and `dies'` those after it, and `note` its four annotation
bytes. The conditions are tried in the manual's order; an entry that meets none is translated, looked up, resolved, and
moves the site's run (R58 to R64, R67). -/
def State.entryHandled (s t : State) (c : CellId) (i : SlotId) (rc : Recipe) (k : Bank) (dies dies' : List (Half × Half))
    (e : SiteEntry) (note : List Byte) : Prop :=
  ∃ r, s.record i = some r ∧
    if rc.siteCount.toNat ≤ e.site.toNat then
      t = s.setSlot i (some { r with counts := { r.counts with badSite := r.counts.badSite + 1 } }) ∧ dies' = dies ∧
        note = [0xFF, 0xFF, 6, 0]
    else if rc.width.toNat ≤ e.x.toNat ∨ rc.height.toNat ≤ e.y.toNat then
      t = s.setSlot i (some { r with counts := { r.counts with o := r.counts.o + 1 } }) ∧ dies' = dies ∧
        note = [0xFF, 0xFF, 7, 0]
    else if (e.x, e.y) ∈ dies then
      t = s.setSlot i (some { r with counts := { r.counts with clash := r.counts.clash + 1 } }) ∧ dies' = dies ∧
        note = [0xFF, 0xFF, 8, 0]
    else if 1048575 ≤ r.counts.t.toNat + r.counts.r.toNat then
      t = s.setSlot i (some r) ∧ dies' = dies ∧ note = [0xFF, 0xFF, 9, 0]
    else
      ∃ q : SiteResult, q.x = e.x.toNat ∧ q.y = e.y.toNat ∧ q.site.val = e.site.toNat ∧
        (if e.softBin.toNat ≤ 511 ∧
            (storeRead unassigned k.xlate (512 * r.recipe.val + e.softBin.toNat)).toNat ≤ 63 then
          q.bin.val = (storeRead unassigned k.xlate (512 * r.recipe.val + e.softBin.toNat)).toNat
        else q.bin = rc.unknownBin) ∧
        q.cls = k.bins[q.bin.val].cls ∧ q.zone = k.zoneOf e.x.toNat e.y.toNat ∧
        t = (s.resolveResult i r q).1.siteRun c q.site q.cls rc.runLimit.toNat ∧ dies' = dies ++ [(e.x, e.y)] ∧
        note = [natByte q.bin.val, natByte q.zone.val, (s.resolveResult i r q).2.1.code,
          natByte (s.resolveResult i r q).2.2]

/-- A touchdown from cell c that is bound to record r in slot i is collated whole, from s to t: its gap joins the gap
sum, its entries are handled in their order, the checkpoint test is made, a record that stands at the result cap is
sealed with RESULT_LIMIT, and under COLLATE the copy, built before that seal, joins the FWD queue (R57, R58, R65,
R67). -/
def State.collated (s t : State) (c : CellId) (i : SlotId) (r : Record) (route : Byte) (td : Touchdown) (gap : Half) :
    Prop :=
  ∃ (σ : Nat → State) (dies : Nat → List (Half × Half)) (note : Nat → List Byte) (r' : Record),
    σ 0 = s.setSlot i (some { r with
      gapSum := BitVec.ofNat 32 (min (r.gapSum.toNat + gap.toNat) 4294967295) }) ∧ dies 0 = [] ∧
    (∀ n e, td.entries[n]? = some e → (σ n).entryHandled (σ (n + 1)) c i (s.recipeOf r) (s.bank r.bank) (dies n)
      (dies (n + 1)) e (note n)) ∧
    (σ td.entries.length).record i = some r' ∧
    t = (if 1048575 ≤ r'.counts.t.toNat + r'.counts.r.toNat then
        ((σ td.entries.length).checkpointTest i).sealSlot i (some .resultLimit)
      else (σ td.entries.length).checkpointTest i).withHall
        (s.copied c (s.touchdownCopy c route td (r.place i) ((List.range td.entries.length).flatMap note)))

/-- The recipe's fields lie in the ranges the manual gives them (R37). -/
def Recipe.inRange (rc : Recipe) : Bool :=
  decide (rc.siteCount.toNat ≤ 16) && decide (rc.width.toNat ≤ 512) && decide (rc.height.toNat ≤ 512)

/-- From s to t a fresh record of key k is opened in slot i on cell c, with recipe p of LIVE bank lb and frame f, cleared,
or tally-only without one; it takes the cell's pending LOAD stamp, and its progress timer starts (R72, R86, R87, R101,
R162). -/
def State.opensFresh (s t : State) (c : CellId) (k : Key) (p : Fin 8) (lb : BankId) (i : SlotId) (f : Option FrameId) :
    Prop :=
  t.record i = some (freshRecord k c p lb (s.bank lb).gen f (s.cell c).pendingLoad s.time) ∧
    (t.cell c).pendingLoad = none ∧ (∀ g, f = some g → t.frame g = { dies := [], serial := 0 }) ∧
    t.bank lb = { s.bank lb with bound := (s.bank lb).bound + 1 } ∧ t.bank lb.other = s.bank lb.other ∧
    t.progressTimer i = (if (s.bank lb).recipes[p.val].period = 0 then none
      else some { elapsed := 0, length := 1000 * (s.bank lb).recipes[p.val].period.toNat })

/-- The slot a fresh opening takes is the lowest FREE one (R85). -/
def State.lowestFree (s : State) (i : SlotId) : Prop := s.record i = none ∧ ∀ j, j < i → s.record j ≠ none

/-- A fresh opening on cell c chooses recipe p of bank lb: the wanted one if it is in use there, else the cell's default
if that is (R84). -/
def State.choosesRecipe (s : State) (c : CellId) (lb : BankId) (wanted : Byte) (p : Fin 8) : Prop :=
  (s.bank lb).recipes[p.val].inUse = true ∧ (wanted = natByte p.val ∨ (p = (s.cell c).cfg.recipe ∧
    ∀ w : Fin 8, wanted = natByte w.val → (s.bank lb).recipes[w.val].inUse = false))

/-- No recipe that a fresh opening on cell c could choose is in use in bank lb (R84). -/
def State.noRecipeFor (s : State) (c : CellId) (lb : BankId) (wanted : Byte) : Prop :=
  (s.bank lb).recipes[(s.cell c).cfg.recipe.val].inUse = false ∧
    ∀ w : Fin 8, wanted = natByte w.val → (s.bank lb).recipes[w.val].inUse = false

/-- The OPEN record r in slot i of cell c has entered CLOSING from s to t, with reason w and the event's stamp; the cell's
grace timer is started, or with a grace setting of 0 the record has sealed at once (steps 2 and 3 of R75). -/
def State.entersClosing (s t : State) (c : CellId) (i : SlotId) (r : Record) (w : CloseReason) (stamp : Word) : Prop :=
  t.progressTimer i = none ∧
    ∃ r', t.record i = some r' ∧ r'.key = r.key ∧ r'.cell = r.cell ∧ r'.counts = r.counts ∧ r'.frame = r.frame ∧
      r'.reason = some w ∧ r'.closeStart = some stamp ∧
      if (s.cell c).cfg.grace = 0 then
        r'.state = .closed ∧ r'.sealTime = some s.time ∧ (t.cell c).graceTimer = none
      else r'.state = .closing ∧
        (t.cell c).graceTimer = some { elapsed := 0, length := 20 * (s.cell c).cfg.grace.toNat }

/-- A record of cell c that was CLOSING has been sealed FORCED from s to t (step 1 of R75, step 1 of R82). -/
def State.forcesClosing (s t : State) (c : CellId) : Prop :=
  ∀ j q, s.closingOn c = some j → s.record j = some q → ∃ q', t.record j = some q' ∧ q'.state = .closed ∧
    q'.reason = some .forced ∧ q'.sealTime = some s.time ∧ q'.closeStart = q.closeStart ∧ q'.key = q.key ∧
    q'.counts = q.counts

/-- An opening of key k in LIVE bank lb may resume a record (R83). -/
def State.mayResume (s : State) (k : Key) (lb : BankId) (r : Record) : Prop :=
  r.key = k ∧ (r.state = .closed ∨ r.state = .exported) ∧ r.bank = lb ∧ r.gen = (s.bank lb).gen ∧ r.frame ≠ none ∧
    r.flags.tallyOnly = false ∧ r.flags.mapAbsent = false ∧ r.counts.t.toNat + r.counts.r.toNat < 1048575

/-- From s to t the sealed record r in slot i is resumed on cell c: OPEN, its close and its results absent; off the
export order list, the owed list, the SUM queue and the map pending list; its dump in progress is no longer a chained
one, and a frame of it in transmission acts on nothing (R83, R166, R172, R173). -/
def State.resumes (s t : State) (c : CellId) (i : SlotId) (r : Record) : Prop :=
  t.record i = some { r with
    state := .opened, cell := c, reason := none, closeStart := none, sealTime := none, outcome := none
    finalYield := none, disposition := none, recipeCopy := none, flags := { r.flags with summaryOwed := false } } ∧
  t.dir.exportOrder = s.dir.exportOrder.erase i ∧ t.dir.sealOrder = s.dir.sealOrder.erase i ∧
  t.bank r.bank = { s.bank r.bank with bound := (s.bank r.bank).bound + 1 } ∧
  t.bank r.bank.other = s.bank r.bank.other ∧ (i, SumKind.final) ∉ t.xport.sumQ ∧ i ∉ t.xport.owed ∧
  t.xport.mapQ = s.xport.mapQ.filter (fun e => e.1 != i) ∧
  t.xport.dump = s.xport.dump.map (fun d => if d.slot = i ∧ d.gone = false then { d with origin := .request } else d) ∧
  (∀ st f, s.hall.tx = some { stream := st, frame := f, action := .final i } →
    t.hall.tx = some { stream := st, frame := f, action := .nothing }) ∧
  (∀ st f b, s.hall.tx = some { stream := st, frame := f, action := .mapEnd i b } →
    t.hall.tx = some { stream := st, frame := f, action := .nothing }) ∧
  t.progressTimer i = (if (s.bank r.bank).recipes[r.recipe.val].period = 0 then none
    else some { elapsed := 0, length := 1000 * (s.bank r.bank).recipes[r.recipe.val].period.toNat })

/-- Slot i joins the map pending list by the FINAL chain, from s to t: at the tail, or with origin CHAIN in the place it
has; and with nothing pending and no dump in progress its dump starts at once (R168, R169). -/
def State.chainsMap (s t : State) (i : SlotId) (r : Record) (f : FrameId) : Prop :=
  ((∃ e ∈ s.xport.mapQ, e.1 = i) → t.xport = { s.xport with
    mapQ := s.xport.mapQ.map fun e => if e.1 = i then (i, .chain) else e }) ∧
  ((∀ e ∈ s.xport.mapQ, e.1 ≠ i) → s.xport.dump ≠ none →
    t.xport = { s.xport with mapQ := s.xport.mapQ ++ [(i, .chain)] }) ∧
  (s.xport.mapQ = [] → s.xport.dump = none → t.xport = { s.xport with dump := some (
    { slot := i, frame := f, origin := .chain, nextRow := 0, rows := (s.recipeOf r).height.toNat,
      width := (s.recipeOf r).width.toNat, restarts := 0, live := r.isActive, dirty := false, unstable := false,
      aborted := false, begun := false, gone := false }) })

/-! ## The SUMMARY payload by its offsets (R165, R198) -/

/-- The n bytes of a payload at an offset. -/
def fieldOf (p : List Byte) (offset n : Nat) : List Byte := (p.drop offset).take n

/-- The list items of a summary: for each bin with a count above 0 its count and share, and so on. -/
def Record.summaryBins (r : Record) : List (List Byte) :=
  ((List.finRange 64).filter fun b => r.bins[b.val] != (0 : Word)).map fun b =>
    natByte b.val :: wordBytes r.bins[b.val] ++ yieldBytes (ratio (r.bins[b.val]).toNat r.counts.t.toNat)

/-- For each zone with a tested count above 0, its counts and yield. -/
def Record.summaryZones (r : Record) : List (List Byte) :=
  ((List.finRange 9).filter fun z => (r.zones[z.val]).tested != (0 : Word)).map fun z =>
    natByte z.val :: wordBytes (r.zones[z.val]).tested ++ wordBytes (r.zones[z.val]).passed
      ++ yieldBytes (ratio (r.zones[z.val]).passed.toNat (r.zones[z.val]).tested.toNat)

/-- For each site with a results count above 0, its counts and yield. -/
def Record.summarySites (r : Record) : List (List Byte) :=
  ((List.finRange 16).filter fun i => (r.sites[i.val]).results != (0 : Word)).map fun i =>
    natByte i.val :: wordBytes (r.sites[i.val]).results ++ wordBytes (r.sites[i.val]).passes
      ++ yieldBytes (ratio (r.sites[i.val]).passes.toNat (r.sites[i.val]).results.toNat)

/-- A payload is the summary of record r in slot i: its 95 fixed bytes at their offsets, then the three lists. -/
def State.isSummaryOf (s : State) (kind : Byte) (i : SlotId) (r : Record) (p : List Byte) : Prop :=
  fieldOf p 0 4 = [kind, natByte i.val, r.state.code, natByte r.cell.val] ∧
    fieldOf p 4 5 = wordBytes r.key.lot ++ [r.key.wafer] ∧
    fieldOf p 9 3 = [natByte r.recipe.val, r.bank.code, reasonCode r.reason] ∧ fieldOf p 12 4 = wordBytes r.gen ∧
    fieldOf p 16 2 = [bitsByte [r.loadTime.isSome, r.closeStart.isSome, r.sealTime.isSome, r.frame.isSome],
      bitsByte [r.flags.tallyOnly, r.flags.mapAbsent, r.flags.overGross, r.flags.summaryOwed]] ∧
    fieldOf p 18 4 = [(s.recipeOf r).denominator.code, outcomeCode r.outcome, dispositionCode r.disposition,
      indexByte r.frame] ∧
    fieldOf p 22 2 = yieldBytes (r.waferYield (s.recipeOf r)) ∧
    fieldOf p 24 2 = yieldBytes (ratio r.counts.fp.toNat r.counts.t.toNat) ∧
    fieldOf p 26 2 = yieldBytes (r.finalYield.map BitVec.toNat) ∧
    fieldOf p 28 16 = timeBytes r.loadTime ++ wordBytes r.openTime ++ timeBytes r.closeStart ++ timeBytes r.sealTime ∧
    fieldOf p 44 8 = timeBytes (r.frame.map fun f => (s.frame f).serial) ++ wordBytes r.checkpoint ∧
    fieldOf p 52 40 = wordBytes r.counts.t ++ wordBytes r.counts.p ++ wordBytes r.counts.fp ++ wordBytes r.counts.r
      ++ wordBytes r.counts.u ++ wordBytes r.counts.v ++ wordBytes r.counts.o ++ wordBytes r.counts.clash
      ++ wordBytes r.counts.badSite ++ wordBytes r.gapSum ∧
    fieldOf p 92 3 = [natByte r.summaryBins.length, natByte r.summaryZones.length, natByte r.summarySites.length] ∧
    p.drop 95 = r.summaryBins.flatten ++ r.summaryZones.flatten ++ r.summarySites.flatten

/-! ## The laws that every step keeps -/

/-- The flow law of a port: in GO it holds fewer than 12 frames, in HOLD 9 to 16 (R10, R12). -/
abbrev Cell.flowLaw (k : Cell) : Prop :=
  (k.flow = .go → k.fifo.length < 12) ∧ (k.flow = .hold → 8 < k.fifo.length ∧ k.fifo.length ≤ 16)

/-- Every queue is within its capacity (R10, R12, R142, R159 to R161, R177). -/
abbrev State.withinCapacities (s : State) : Prop :=
  (∀ c : CellId, (s.cell c).flowLaw) ∧ s.hall.resp.length ≤ 8 ∧ s.hall.fwd.length ≤ 64 ∧ s.hall.rx.fifo.length ≤ 4 ∧
    s.xport.sumQ.length ≤ 8 ∧ s.alerts.queue.length ≤ 32

/-- Every sparse store is in its canonical form: the translation tables and the die cells. -/
abbrev State.storesCanonical (s : State) : Prop :=
  storeWf unassigned s.banks.a.xlate ∧ storeWf unassigned s.banks.b.xlate ∧
    ∀ f : FrameId, storeWf untestedDie (s.frame f).dies

/-- A bank has a load owner exactly in LOADING (R36). -/
abbrev Bank.ownerLaw (k : Bank) : Prop := k.owner.isSome = true ↔ k.state = .loading

/-- At most one bank is LIVE, and the owners stand where R36 puts them (R36, R41). -/
abbrev State.bankLaw (s : State) : Prop :=
  ¬ (s.banks.a.state = .live ∧ s.banks.b.state = .live) ∧ s.banks.a.ownerLaw ∧ s.banks.b.ownerLaw

/-- The record in a slot is OPEN or CLOSING and bound to a bank. -/
def State.isBoundTo (s : State) (lb : BankId) (i : SlotId) : Bool :=
  match s.record i with
  | none => false
  | some r => r.isActive && r.bank == lb

/-- Each bank's bound count is the number of OPEN or CLOSING records bound to it (R42). -/
abbrev State.boundLaw (s : State) : Prop :=
  ∀ lb ∈ [BankId.a, BankId.b], (s.bank lb).bound = (allSlots.filter (s.isBoundTo lb)).length

/-- The alert queue's law: levels from 1 to 7 that never rise from head to tail, and no two entries of one coalescing
key (R141, R142, R145). -/
abbrev State.alertLaw (s : State) : Prop :=
  (∀ e ∈ s.alerts.queue, e.level ≠ 0) ∧ s.alerts.queue.Pairwise (fun x y => y.level ≤ x.level) ∧
    s.alerts.queue.Pairwise fun x y => x.alert.sameKey y.alert = false

/-- The record in a slot when it is OPEN or CLOSING; none for any other slot. -/
def State.active (s : State) (i : SlotId) : Option Record :=
  match s.record i with
  | none => none
  | some r => if r.state = .opened ∨ r.state = .closing then some r else none

/-- Two OPEN or CLOSING records never have one key, and never one cell and one state; and each is bound to a bank that is
LIVE or RETIRING (R41, R73). -/
abbrev State.recordLaw (s : State) : Prop :=
  (∀ i j : SlotId, i ≠ j → ∀ r ∈ s.active i, ∀ q ∈ s.active j,
    r.key ≠ q.key ∧ ¬ (r.cell = q.cell ∧ r.state = q.state)) ∧
  ∀ i : SlotId, ∀ r ∈ s.active i, (s.bank r.bank).state = .live ∨ (s.bank r.bank).state = .retiring

/-- The record in a slot holds a frame. -/
def State.holdsFrame (s : State) (i : SlotId) (f : FrameId) : Bool :=
  match s.record i with
  | none => false
  | some r => r.frame == some f

/-- Each map frame is on the free-frame list, once, or held by exactly one record, and never both (R97, R99). -/
abbrev State.frameLaw (s : State) : Prop :=
  s.maps.free.Nodup ∧
    ∀ f : FrameId, if f ∈ s.maps.free then ∀ i : SlotId, s.holdsFrame i f = false
      else ∃ i : SlotId, s.holdsFrame i f = true ∧ ∀ j : SlotId, s.holdsFrame j f = true → j = i

/-- The number of TESTED die cells of a frame that satisfy p, p being given the die's bin (R98). -/
def MapFrame.testedDies (m : MapFrame) (p : Nat → Bool) : Nat :=
  (m.dies.filter fun e => decide (64 ≤ e.2.toNat) && p (e.2.toNat % 64)).length

/-- The sum of counts. -/
def sumOf (ws : List Word) : Nat := (ws.map BitVec.toNat).sum

/-- The laws of one record's tallies: its bin counts sum to T, T + R is within the result cap, and where a map goes with
its counts, T, the zone tested counts and each bin count agree with the TESTED die cells of its frame (R114). -/
def State.tallied (s : State) (r : Record) : Bool :=
  sumOf r.bins.toList == r.counts.t.toNat && decide (r.counts.t.toNat + r.counts.r.toNat ≤ 1048575) &&
    match r.frame with
    | none => true
    | some f => r.flags.tallyOnly ||
      (((s.frame f).testedDies fun _ => true) == r.counts.t.toNat &&
        sumOf (r.zones.toList.map fun z => z.tested) == r.counts.t.toNat &&
        (List.finRange 64).all fun b => (s.frame f).testedDies (fun n => n == b.val) == r.bins[b.val].toNat)

/-- The count laws hold of every record (R114). -/
abbrev State.tallyLaw (s : State) : Prop := ∀ i : SlotId, ∀ r ∈ s.record i, s.tallied r = true

/-- The record in a slot is in one of these states. -/
def State.isIn (s : State) (i : SlotId) (states : List RecordState) : Bool :=
  match s.record i with
  | none => false
  | some r => states.contains r.state

/-- The record in a slot carries SUMMARY_OWED. -/
def State.owesSummary (s : State) (i : SlotId) : Bool :=
  match s.record i with
  | none => false
  | some r => r.flags.summaryOwed

/-- The directory's lists say what they are for: the export order list holds the EXPORTED records' slots, the order of
seals holds the sealed records' slots, each once, and a progress timer runs only while its record is OPEN (R74, R162). -/
abbrev State.directoryLists (s : State) : Prop :=
  s.dir.exportOrder.Nodup ∧ (∀ i : SlotId, i ∈ s.dir.exportOrder ↔ s.isIn i [.exported] = true) ∧
    s.dir.sealOrder.Nodup ∧ (∀ i : SlotId, i ∈ s.dir.sealOrder ↔ s.isIn i [.closed, .exported] = true) ∧
    ∀ i : SlotId, s.progressTimer i ≠ none → s.isIn i [.opened] = true

/-- The SUM queue holds no pair twice, and at most 8: FINAL entries of sealed records and PROGRESS entries of OPEN or
CLOSING ones. The owed list holds the slots that carry SUMMARY_OWED, each once: sealed records, with no FINAL queued, and
only while 8 FINAL entries fill the queue (R161, R163, R164). -/
abbrev State.summaryLists (s : State) : Prop :=
  s.xport.sumQ.Nodup ∧ s.xport.sumQ.length ≤ 8 ∧
    (∀ e ∈ s.xport.sumQ, s.isIn e.1 (if e.2 = .final then [.closed, .exported] else [.opened, .closing]) = true) ∧
    s.xport.owed.Nodup ∧ (∀ i : SlotId, i ∈ s.xport.owed ↔ s.owesSummary i = true) ∧
    (∀ i ∈ s.xport.owed, s.isIn i [.closed, .exported] = true ∧ (i, SumKind.final) ∉ s.xport.sumQ) ∧
    (s.xport.owed ≠ [] → s.xport.sumQ.length = 8 ∧ ∀ e ∈ s.xport.sumQ, e.2 = .final)

/-- The map pending list holds slots of records that hold a frame, each once, and none while no dump is in progress
(R168, R169). -/
abbrev State.mapList (s : State) : Prop :=
  (s.xport.mapQ.map fun e => e.1).Nodup ∧ (∀ e ∈ s.xport.mapQ, ∃ f : FrameId, s.holdsFrame e.1 f = true) ∧
    (s.xport.dump = none → s.xport.mapQ = [])

/-- The lists of slots say what they are for, and hold no slot twice. -/
abbrev State.listLaw (s : State) : Prop := s.directoryLists ∧ s.summaryLists ∧ s.mapList

/-! ## After a free -/

/-- What the free of record r in slot i does besides emptying the slot (R93): its frame goes to the tail of the free-frame
list, its dump ends ABORTED and acts on no record, and neither does a frame of it in transmission; it leaves every list;
its tags are cleared; a CLOSING one stops its cell's grace timer; the bound count falls, and a RETIRING bank whose count
falls to 0 becomes IDLE; the place its FINAL leaves in the SUM queue goes to the first record that is owed one. -/
def State.freed (s t : State) (i : SlotId) (r : Record) : Prop :=
  (∀ d, t.cell d = { s.cell d with
      graceTimer := if r.state = .closing ∧ d = r.cell then none else (s.cell d).graceTimer }) ∧
    (∀ q, t.tag q = if s.tag q = some i then none else s.tag q) ∧
    t.dir.exportOrder = s.dir.exportOrder.erase i ∧ t.dir.sealOrder = s.dir.sealOrder.erase i ∧
    t.maps.frames = s.maps.frames ∧ t.maps.free = s.maps.free ++ r.frame.toList ∧
    t.banks.genCount = s.banks.genCount ∧
    (∀ lb, t.bank lb =
      if (r.state = .opened ∨ r.state = .closing) ∧ lb = r.bank then
        { s.bank lb with
          bound := (s.bank lb).bound - 1
          state := if (s.bank lb).state = .retiring ∧ (s.bank lb).bound - 1 = 0 then .idle else (s.bank lb).state }
      else s.bank lb) ∧
    t.xport.mapQ = s.xport.mapQ.filter (fun e => e.1 != i) ∧
    t.xport.dump = s.xport.dump.map (fun d =>
      if d.slot = i ∧ d.gone = false then { d with aborted := true, gone := true } else d) ∧
    t.hall.tx = s.hall.tx.map (fun x =>
      if x.action ∈ [.final i, .mapEnd i true, .mapEnd i false] then { x with action := .nothing } else x) ∧
    (∀ j, t.progressTimer j = if j = i then none else s.progressTimer j) ∧
    (s.summaryLists →
      t.xport.sumQ = s.xport.sumQ.filter (fun e => e.1 != i) ++
        (if (i, SumKind.final) ∈ s.xport.sumQ then (s.xport.owed.take 1).map (fun j => (j, .final)) else []) ∧
      t.xport.owed = (s.xport.owed.erase i).drop (if (i, SumKind.final) ∈ s.xport.sumQ then 1 else 0) ∧
      ∀ j, j ≠ i → t.record j = (s.record j).map fun q =>
        if (i, SumKind.final) ∈ s.xport.sumQ ∧ s.xport.owed.head? = some j then
          { q with flags := { q.flags with summaryOwed := false } }
        else q)

end Sys2Proof.Machine

/-- The number of argument bytes a request must have: the number R200's table gives, and for a list request what its own
count gives (step 2 of R178). -/
def Sys2Proof.Instr.argLength : Instr → Option Nat
  | .ident _ | .timeRead _ | .waferList _ | .mapStop _ | .resetAll _ => some 0
  | .cellRestart _ | .stopClear _ | .bankClose _ | .bankDrop _ | .bankLive _ | .waferRead _ | .waferMark _
  | .waferSeal _ | .waferDrop _ | .waferFree _ | .waferSend _ | .mapSend _ | .linkRead _ => some 1
  | .cellRead _ | .bankOpen _ => some 2
  | .timeSet _ => some 4
  | .bankRead _ => some 6
  | .streamSet _ => some 7
  | .cellSet _ => some 9
  | .bankZone _ => some 11
  | .bankRecipe _ => some 24
  | .bankXlate rq => some (5 + rq.arg 4)
  | .bankClass rq => some (3 + 3 * rq.arg 2)
  | .alertSet rq => some (3 + 2 * rq.arg 2)
  | _ => none
end

