-- ==== Sys2Proof/WellFormed.lean ====
section
/-! DEFINITION. When a command's operands are ones the manual admits. Cells, slots, lines, levels and causes are
in range by their types; what is left is checked here. -/

namespace Sys2Proof

/-- A request's arguments fit one frame: its payload, name code and tag included, is at most 1024 bytes (R194). -/
def Request.wellFormed (rq : Request) : Bool := decide (rq.args.length + 2 ≤ Config.maxPayload)

/-- A command as the manual admits it: UNKNOWN_REQUEST carries a name code that names no request (step 1 of R178),
and every request fits a frame. -/
def Instr.wellFormed : Instr → Bool
  | .powerOnReset _ => true
  | .cellFrameReception _ _ => true
  | .lineLevelChange _ _ _ => true
  | .edgeRecognition _ _ _ => true
  | .timeCountStep => true
  | .graceExpiry _ => true
  | .progressExpiry _ => true
  | .engineTake => true
  | .pause => true
  | .resumeSymbol => true
  | .hallFrameReception _ => true
  | .transmitTake => true
  | .transmitCompletion => true
  | .unknownRequest name rq => !(knownNames.contains name) && rq.wellFormed
  | .ident rq => rq.wellFormed
  | .timeSet rq => rq.wellFormed
  | .timeRead rq => rq.wellFormed
  | .cellSet rq => rq.wellFormed
  | .cellRead rq => rq.wellFormed
  | .cellRestart rq => rq.wellFormed
  | .stopClear rq => rq.wellFormed
  | .bankOpen rq => rq.wellFormed
  | .bankRecipe rq => rq.wellFormed
  | .bankXlate rq => rq.wellFormed
  | .bankClass rq => rq.wellFormed
  | .bankZone rq => rq.wellFormed
  | .bankClose rq => rq.wellFormed
  | .bankDrop rq => rq.wellFormed
  | .bankLive rq => rq.wellFormed
  | .bankRead rq => rq.wellFormed
  | .alertSet rq => rq.wellFormed
  | .streamSet rq => rq.wellFormed
  | .waferList rq => rq.wellFormed
  | .waferRead rq => rq.wellFormed
  | .waferMark rq => rq.wellFormed
  | .waferSeal rq => rq.wellFormed
  | .waferDrop rq => rq.wellFormed
  | .waferFree rq => rq.wellFormed
  | .waferSend rq => rq.wellFormed
  | .mapSend rq => rq.wellFormed
  | .mapStop rq => rq.wellFormed
  | .linkRead rq => rq.wellFormed
  | .resetAll rq => rq.wellFormed
  | .cellOpenFrameDiscard _ _ => true
  | .hallOpenFrameDiscard _ => true

end Sys2Proof
end

