-- ==== Sys2Proof/Certificates/Slice0/Obligations.lean ====
section
/-! DEFINITION. The statements for the provers. Each says what the manual's rules it names say, of this model. -/

open Sys2Proof Sys2Proof.Machine

/-! ## Steps, outcomes and the laws every step keeps -/

/-- A step carries out the command at the front of the queue, with the queue's rest. -/
def Obligations.StepRunsTheFrontCommand : Prop :=
  ∀ (s : State) (c : Instr) (rest : List Instr), s.pending = c :: rest → step s = exec c (s.withPending rest)

/-- Every command, in every state, answers a next state and leaves the queue of waiting commands alone. That nothing stops
the part is read from the manual by inference (notes/assumptions/23.md); that a command whose event cannot happen now
still answers, and the queue itself, are the model's choices (notes/assumptions/6.md and 2.md). What a command does is said
by the statements below. -/
def Obligations.EveryCommandCompletes : Prop :=
  ∀ (i : Instr) (s : State), ∃ t, exec i s = .next t ∧ t.pending = s.pending

/-- Every step keeps every queue within its capacity, and every port's flow state where its hysteresis puts it: HOLD
whenever the FIFO holds 12 frames or more, GO whenever it holds 8 or fewer. And every step keeps the lists of slots true:
the export order list, the owed list, the SUM queue and the map pending list, each holding the slots it is for and no
slot twice; and the model's own order of seals, which holds exactly the sealed records' slots. -/
def Obligations.CapacitiesKeptByEveryStep : Prop :=
  (∀ s t : State, s.withinCapacities → step s = .next t → t.withinCapacities) ∧
    ∀ s t : State, s.listLaw → step s = .next t → t.listLaw

/-- Every step keeps the canonical form of the translation tables and of the map frames' die cells; it keeps each map
frame on the free-frame list once or with exactly one record, never both; and it keeps the count laws: of every record the
bin counts sum to T and T + R is within 1,048,575, and where a frame goes with its counts, T, the zone tested counts and
each bin count agree with the frame's TESTED die cells. -/
def Obligations.StoresCanonicalKeptByEveryStep : Prop :=
  (∀ s t : State, s.storesCanonical → step s = .next t → t.storesCanonical) ∧
    (∀ s t : State, s.frameLaw → step s = .next t → t.frameLaw) ∧
    ∀ s t : State, s.storesCanonical → s.frameLaw → s.tallyLaw → step s = .next t → t.tallyLaw

/-- Every step keeps the bank store's laws: at most one bank is LIVE, and a bank has a load owner exactly in
LOADING. -/
def Obligations.BankLawKeptByEveryStep : Prop :=
  ∀ s t : State, s.bankLaw → step s = .next t → t.bankLaw

/-- Every step keeps each bank's bound count equal to the number of OPEN or CLOSING records bound to it; and with that, it
keeps at most one OPEN or CLOSING record for each key, at most one OPEN and one CLOSING record for each cell, and every
OPEN or CLOSING record bound to a bank that is LIVE or RETIRING. -/
def Obligations.BoundCountsKeptByEveryStep : Prop :=
  (∀ s t : State, s.boundLaw → step s = .next t → t.boundLaw) ∧
    ∀ s t : State, s.boundLaw → s.recordLaw → step s = .next t → t.recordLaw

/-- Every step keeps the alert queue in order: levels never rise from head to tail, no level is 0, and no two entries
have one coalescing key. -/
def Obligations.AlertOrderKeptByEveryStep : Prop :=
  ∀ s t : State, s.alertLaw → step s = .next t → t.alertLaw

/-- The state after reset meets all the laws that every step keeps. -/
def Obligations.ResetMeetsTheLaws : Prop :=
  State.reset.withinCapacities ∧ State.reset.storesCanonical ∧ State.reset.bankLaw ∧ State.reset.boundLaw ∧
    State.reset.alertLaw ∧ State.reset.listLaw ∧ State.reset.frameLaw ∧ State.reset.tallyLaw ∧ State.reset.recordLaw

/-! ## Encodings -/

/-- A frame whose payload is at most 1024 bytes passes the delimiter, length and CRC checks of the receiver that gets
its bytes, and is read back as it was sent. -/
def Obligations.FrameIsReadBack : Prop :=
  ∀ f : OutFrame, f.payload.length ≤ 1024 → checkFrame f.wire = .good f.cls f.route f.payload

/-- A tester's TOUCHDOWN of up to 16 entries and MARKER, sent in the byte order of the port, are normalized to the
fields that were sent, whichever the order. -/
def Obligations.TesterPayloadIsReadBack : Prop :=
  ∀ (o : ByteOrder) (td : Touchdown) (m : Marker),
    (td.entries.length ≤ 16 → parseTester o 0x01 (td.sentIn o) = some (.touchdown td)) ∧
      parseTester o 0x02 (m.sentIn o) = some (.marker m)

/-- A request's frame, addressed to the part and received with the receive FIFO empty, puts that request into the FIFO,
alone; the command its name code spells is that request's command; and taken then it runs as it would have run had it
arrived and been taken at once. That an addressed request can be taken as it arrives is the model's choice
(notes/assumptions/5.md), and so is that a reception command is a whole frame (notes/assumptions/9.md). -/
def Obligations.RequestFrameRunsItsCommand : Prop :=
  ∀ (i : Instr) (name : Byte) (rq : Request) (s : State), i.wellFormed = true → i.nameCode = some name →
    i.request = some rq → s.hall.rx.fifo = [] → s.addressed rq.route = true →
    ∃ t, exec (.hallFrameReception (requestFrame name rq).wire) s = .next t ∧
      t.hall.rx.fifo = [{ name := name, rq := rq }] ∧ Instr.ofRequest name rq = i ∧
      (s.hall.resp.length < 8 → exec i t = exec i (s.setRx { s.hall.rx with isOpen := false }))

/-! ## Requests in general -/

/-- A request the unit takes leaves the receive FIFO and gets one reply, with its name and tag, at the tail of the RESP
queue, or none when it is a broadcast. With 8 replies queued nothing changes; for a request that would only now arrive at
an empty FIFO that is the model's choice (notes/assumptions/5.md). RESET_ALL is apart (see HallResetIsPowerOnReset). -/
def Obligations.RequestIsAnsweredOnce : Prop :=
  ∀ (i : Instr) (name : Byte) (rq : Request) (s : State), i.wellFormed = true → i.nameCode = some name →
    i.request = some rq → i ≠ .resetAll rq →
    (s.takesNow name rq → ∃ t p, exec i s = .next t ∧ t.hall.resp = s.hall.resp ++ s.repliesTo name rq p ∧
      t.hall.rx.fifo = s.hall.rx.fifo.tail) ∧
    (8 ≤ s.hall.resp.length → exec i s = .next s)

/-- A request whose payload does not fit its arguments is answered BAD_ARGUMENT, the length of a list request being what
its own count gives; that a RESET_ALL with arguments is one of them, answered so and resetting nothing, is the model's
reading (notes/assumptions/22.md). One of the right length that names no object, or carries a code that names no value or a
list that is too long, is answered BAD_ARGUMENT too. A name code that names no request is answered UNKNOWN. None of these
changes anything but its own take and reply. -/
def Obligations.UnfitRequestsChangeNothing : Prop :=
  (∀ (i : Instr) (n : Nat) (name : Byte) (rq : Request) (s : State), Instr.argLength i = some n →
    i.nameCode = some name → i.request = some rq → s.takesNow name rq → rq.args.length ≠ n →
    s.onlyReplies i name rq { status := .badArgument, data := [] }) ∧
  (∀ (i : Instr) (n : Nat) (name : Byte) (rq : Request) (s : State), Instr.argLength i = some n →
    i.nameCode = some name → i.request = some rq → s.takesNow name rq → rq.args.length = n → s.namesNothing i = true →
    s.onlyReplies i name rq { status := .badArgument, data := [] }) ∧
  ∀ (name : Byte) (rq : Request) (s : State), name ∉ knownNames → s.takesNow name rq →
    s.onlyReplies (.unknownRequest name rq) name rq { status := .unknown, data := [] }

/-! ## Reset -/

/-- A power-on reset leaves every block at the values the manual gives: ports OFF with empty FIFOs, recognized levels taken
from the lines, latches clear and every STOP line deasserted, both banks IDLE with every field of every recipe, bin and
zone at its CLEAR value and every translation UNASSIGNED, slots FREE, frames free with change serial 0, queues empty, the
time count 0, the reset alert levels, and the node address read from the straps. While RESET_N is held every STOP line is
deasserted; that the line is computed from the latch and RESET_N is notes/assumptions/28.md. -/
def Obligations.PowerOnResetLeavesResetValues : Prop :=
  ∀ (straps : BitVec 4) (s : State), ∃ t, exec (.powerOnReset straps) s = .next t ∧ t.node = straps ∧
    (∀ c, (t.cell c).cfg =
          { mode := .off, order := .big, recipe := 0, grace := 25, loadPol := .rising, unloadPol := .rising,
            filter := .ms4 } ∧
        (t.cell c).fifo = [] ∧ (t.cell c).flow = .go ∧ (t.cell c).tracker = none ∧
        (t.cell c).counts = { crc := 0, framing := 0, overrun := 0, duplicate := 0, gap := 0, late := 0 } ∧
        (t.cell c).rxOpen = false ∧ (t.cell c).pendingLoad = none ∧ (t.cell c).lastUnload = none ∧
        (t.cell c).stopLatch = false ∧ (t.cell c).graceTimer = none ∧
        (∀ k : Fin 16, (t.cell c).runs[k] = 0 ∧ (t.cell c).suspects[k] = false) ∧
        ∀ l : Line, (t.cell c).line l =
          { pin := ((s.cell c).line l).pin, recognized := ((s.cell c).line l).pin, candidate := none }) ∧
    t.engine = 7 ∧ t.time = 0 ∧ t.banks.genCount = 0 ∧
    (∀ lb ∈ [BankId.a, BankId.b], (t.bank lb).state = .idle ∧ (t.bank lb).owner = none ∧ (t.bank lb).gen = 0 ∧
      (t.bank lb).bound = 0 ∧ (∀ n, storeRead unassigned (t.bank lb).xlate n = 0xFF) ∧
      (∀ n : Fin 8, (t.bank lb).recipes[n] =
          { inUse := false, width := 512, height := 512, gross := 262144, siteCount := 16, policy := .latest,
            denominator := .tested, yieldLimit := 0, interval := 0, minSample := 0, runLimit := 0, unknownBin := 0,
            exporting := .summary, period := 0 } ∧
        (t.bank lb).zones[n] =
          { enabled := false, xCompare := 0, xBits := 0, yCompare := 0, yBits := 0, limit := 0 }) ∧
      ∀ n : Fin 64, (t.bank lb).bins[n] = { cls := .fail, limit := 10000 }) ∧
    (∀ i, t.record i = none ∧ t.progressTimer i = none) ∧ t.dir.exportOrder = [] ∧
    (∀ c, t.stopLine false c = false ∧ s.stopLine true c = false) ∧ (∀ f, (t.frame f).serial = 0) ∧
    t.maps.free = [0, 1, 2, 3, 4, 5, 6, 7, 8, 9, 10, 11, 12, 13, 14, 15] ∧
    t.alerts = { levels := #v[5, 4, 4, 6, 3, 2, 2, 2, 6, 6, 4, 6, 1, 2, 3], threshold := 8, queue := [] } ∧
    t.xport.sumQ = [] ∧ t.xport.owed = [] ∧ t.xport.mapQ = [] ∧ t.xport.dump = none ∧
    t.hall =
      { resp := [], fwd := [], prio := #v[3, 3, 2, 1, 0], burst := false, rr := #v[.map, .map, .map, .map],
        paused := false, tx := none, rx := { fifo := [], isOpen := false, crc := 0, framing := 0, overrun := 0 } } ∧
    ∀ q, t.tag q = none

/-- RESET_ALL, when it is taken, has the same effect on every block as a power-on reset, with the node address read from
the straps again, and gets no reply. What the straps then read comes from outside the part: it is a free value of the
model (notes/assumptions/11.md), and the statement holds for every value of it. The model's count of draws is apart. -/
def Obligations.HallResetIsPowerOnReset : Prop :=
  ∀ (rq : Request) (s : State), s.takesNow 0x7F rq → rq.args = [] →
    ∃ (straps : BitVec 4) (t u : State), exec (.resetAll rq) s = .next t ∧ exec (.powerOnReset straps) s = .next u ∧
      u.changesOnly t [.draws] ∧ t.node = straps ∧ t.hall.resp = [] ∧ t.hall.rx.fifo = [] ∧
      ∀ c, t.stopLine false c = false

/-! ## Cell links -/

/-- A port that is OFF ignores frames, delimiters and bytes alike. On any other, a frame whose CRC differs adds 1 to the
CRC count and to no other; the FIFO, the tracker, the flow state and every other cell stay as they are, and LINK_ERROR
is raised exactly when the CRC and framing counts together reach a multiple of 16. -/
def Obligations.CrcMismatchIsCounted : Prop :=
  ∀ (s : State) (c : CellId) (bytes : List Byte) (cause : DiscardCause),
    ((s.cell c).cfg.mode = .off →
      exec (.cellFrameReception c bytes) s = .next s ∧ exec (.cellOpenFrameDiscard c cause) s = .next s) ∧
    ((s.cell c).cfg.mode ≠ .off → checkFrame bytes = .crc → (s.cell c).counts.crc ≠ 0xFFFF →
      ∃ t, exec (.cellFrameReception c bytes) s = .next t ∧
        (t.cell c).counts = { (s.cell c).counts with crc := (s.cell c).counts.crc + 1 } ∧
        (t.cell c).fifo = (s.cell c).fifo ∧ (t.cell c).tracker = (s.cell c).tracker ∧
        (t.cell c).flow = (s.cell c).flow ∧
        t.alerts = s.linkErrorAt c ((s.cell c).counts.crc.toNat + (s.cell c).counts.framing.toNat + 1) ∧
        s.cellsKeptBut t c ∧ s.changesOnly t [.cells, .alerts])

/-- A receiver that gives up its open frame adds 1 to its framing count, stops there at 65535, and has a new frame open
exactly when a start delimiter ended the old one. A cell link that is not OFF counts so, too, a frame received to its end
whose bytes are no frame (incomplete, a length above 1024, an end delimiter in the wrong place), or whose class is neither
TOUCHDOWN nor MARKER, or whose length does not fit its class and site count, or whose site count is above 16. That a
reception command is a whole frame is the model's choice (notes/assumptions/9.md). -/
def Obligations.OpenFrameDiscardIsCounted : Prop :=
  ∀ (s : State) (c : CellId) (cause : DiscardCause),
    ((s.cell c).cfg.mode ≠ .off → ∃ t, exec (.cellOpenFrameDiscard c cause) s = .next t ∧
      (t.cell c).counts = { (s.cell c).counts with
        framing := if (s.cell c).counts.framing = 0xFFFF then 0xFFFF else (s.cell c).counts.framing + 1 } ∧
      ((t.cell c).rxOpen = true ↔ cause = .startDelimiter) ∧ (t.cell c).fifo = (s.cell c).fifo ∧
      (t.cell c).tracker = (s.cell c).tracker ∧
      t.alerts = (if (s.cell c).counts.framing = 0xFFFF then s.alerts else s.linkErrorAt c
        ((s.cell c).counts.crc.toNat + (s.cell c).counts.framing.toNat + 1)) ∧
      s.cellsKeptBut t c ∧ s.changesOnly t [.cells, .alerts]) ∧
    (∀ bytes : List Byte, (s.cell c).cfg.mode ≠ .off →
      (framingFault bytes ∨ ∃ f : OutFrame, f.payload.length ≤ 1024 ∧ bytes = f.wire ∧ contentFault f) →
      ∃ t, exec (.cellFrameReception c bytes) s = .next t ∧
        t.cell c = { s.cell c with
          rxOpen := false
          counts := { (s.cell c).counts with
            framing := if (s.cell c).counts.framing = 0xFFFF then 0xFFFF else (s.cell c).counts.framing + 1 }
          stopLatch := (t.cell c).stopLatch } ∧
        t.alerts = (if (s.cell c).counts.framing = 0xFFFF then s.alerts else s.linkErrorAt c
          ((s.cell c).counts.crc.toNat + (s.cell c).counts.framing.toNat + 1)) ∧
        s.cellsKeptBut t c ∧ s.changesOnly t [.cells, .alerts]) ∧
    ∃ t, exec (.hallOpenFrameDiscard cause) s = .next t ∧
      t.hall = { s.hall with rx := { s.hall.rx with
        framing := if s.hall.rx.framing = 0xFFFF then 0xFFFF else s.hall.rx.framing + 1
        isOpen := t.hall.rx.isOpen } } ∧
      (t.hall.rx.isOpen = true ↔ cause = .startDelimiter) ∧ s.changesOnly t [.hall]

/-- A touchdown received whole on an enabled port with room in its FIFO, and not numbered as the last admitted one,
joins the FIFO with its gap and moves the tracker; a gap above 0 is added to the gap count and raises SEQ_GAP; the
admission that brings the FIFO to 12 frames moves GO to HOLD and sends HOLD. Nothing else of the cell changes but its STOP
latch, which the alert may set. A MARKER received whole with room in the FIFO joins it at once, and leaves the tracker and
every count alone. -/
def Obligations.TouchdownIsAdmitted : Prop :=
  (∀ (s : State) (c : CellId) (route : Byte) (td : Touchdown) (gap : Half), (s.cell c).cfg.mode ≠ .off →
    td.entries.length ≤ 16 → (s.cell c).fifo.length < 16 → (s.cell c).tracker ≠ some td.seq →
    (∀ last, (s.cell c).tracker = some last → gap = td.seq - last - 1) →
    ((s.cell c).tracker = none → gap = 0) →
    ∃ t, exec (.cellFrameReception c (touchdownWire (s.cell c).cfg.order route td)) s = .next t ∧
      (t.cell c).fifo = (s.cell c).fifo ++ [.touchdown route td gap] ∧ (t.cell c).tracker = some td.seq ∧
      (t.cell c).counts = { (s.cell c).counts with
        gap := BitVec.ofNat 16 (min ((s.cell c).counts.gap.toNat + gap.toNat) 65535) } ∧
      (t.cell c).cfg = (s.cell c).cfg ∧
      t.alerts = (if gap = 0 then s.alerts
        else (s.raise { kind := .seqGap, cell := some c, value := some gap }).alerts) ∧
      (if (s.cell c).flow = .go ∧ (s.cell c).fifo.length = 11 then
        (t.cell c).flow = .hold ∧ t.sent = s.sent ++ [.flow c .hold]
      else (t.cell c).flow = (s.cell c).flow ∧ t.sent = s.sent) ∧
      t.cell c = { s.cell c with
        rxOpen := false
        fifo := (t.cell c).fifo
        tracker := (t.cell c).tracker
        counts := (t.cell c).counts
        flow := (t.cell c).flow
        stopLatch := (t.cell c).stopLatch } ∧
      s.cellsKeptBut t c ∧ s.changesOnly t [.cells, .alerts, .sent]) ∧
  ∀ (s : State) (c : CellId) (route : Byte) (m : Marker), (s.cell c).cfg.mode ≠ .off → (s.cell c).fifo.length < 16 →
    ∃ t, exec (.cellFrameReception c (markerWire (s.cell c).cfg.order route m)) s = .next t ∧
      t.cell c = { s.cell c with
        rxOpen := false
        fifo := (s.cell c).fifo ++ [.marker route m]
        flow := (t.cell c).flow } ∧
      (if (s.cell c).flow = .go ∧ (s.cell c).fifo.length = 11 then
        (t.cell c).flow = .hold ∧ t.sent = s.sent ++ [.flow c .hold]
      else (t.cell c).flow = (s.cell c).flow ∧ t.sent = s.sent) ∧
      s.cellsKeptBut t c ∧ s.changesOnly t [.cells, .sent]

/-- A touchdown numbered as the last admitted one is discarded and counted as a duplicate, and nothing else; a frame,
TOUCHDOWN or MARKER, offered to a FIFO of 16 frames is discarded and counted as an overrun, FIFO_OVERRUN is raised, and
neither the FIFO nor the tracker moves. -/
def Obligations.DuplicatesAndOverrunsAreDiscarded : Prop :=
  ∀ (s : State) (c : CellId) (route : Byte) (td : Touchdown) (m : Marker), (s.cell c).cfg.mode ≠ .off →
    td.entries.length ≤ 16 →
    ((s.cell c).fifo.length < 16 → (s.cell c).tracker = some td.seq →
      ∃ t, exec (.cellFrameReception c (touchdownWire (s.cell c).cfg.order route td)) s = .next t ∧
        t.cell c = { s.cell c with
          rxOpen := false
          counts := { (s.cell c).counts with
            duplicate := BitVec.ofNat 16 (min ((s.cell c).counts.duplicate.toNat + 1) 65535) } } ∧
        s.cellsKeptBut t c ∧ s.changesOnly t [.cells]) ∧
    (∀ bytes ∈ [touchdownWire (s.cell c).cfg.order route td, markerWire (s.cell c).cfg.order route m],
      (s.cell c).fifo.length = 16 →
      ∃ t, exec (.cellFrameReception c bytes) s = .next t ∧
        (t.cell c).counts = { (s.cell c).counts with
          overrun := BitVec.ofNat 16 (min ((s.cell c).counts.overrun.toNat + 1) 65535) } ∧
        (t.cell c).fifo = (s.cell c).fifo ∧ (t.cell c).tracker = (s.cell c).tracker ∧
        (t.cell c).flow = (s.cell c).flow ∧
        t.alerts = (s.raise { kind := .fifoOverrun, cell := some c }).alerts ∧
        s.cellsKeptBut t c ∧ s.changesOnly t [.cells, .alerts])

/-! ## Prober lines and time -/

/-- With the glitch filter on, a change of raw level away from the recognized one opens a candidate of the filter's
width, and a return before that width cancels it, whatever the filter then is; nothing else changes and no edge is
recognized. With the filter OFF and no candidate open, the change is recognized as it appears and no candidate is kept; what
the edge then does, LoadEdgeIsStamped and UnloadEdgeClosesTheOpenRecord say. That the raw change's own command makes that
recognition is notes/assumptions/10.md. -/
def Obligations.LevelChangeOpensOrCancelsACandidate : Prop :=
  ∀ (s : State) (c : CellId) (l : Line) (v : Level), ((s.cell c).line l).pin ≠ v →
    ((s.cell c).cfg.filter ≠ .off → ((s.cell c).line l).candidate = none → ((s.cell c).line l).recognized ≠ v →
      ∃ t, exec (.lineLevelChange c l v) s = .next t ∧
        (t.cell c).line l = { (s.cell c).line l with
          pin := v
          candidate := some { level := v, held := 0, width := (s.cell c).cfg.filter.width } } ∧
        t.cell c = (s.cell c).setLine l ((t.cell c).line l) ∧ s.cellsKeptBut t c ∧ s.changesOnly t [.cells]) ∧
    (∀ d, ((s.cell c).line l).candidate = some d → d.held < d.width → ((s.cell c).line l).recognized = v →
      ∃ t, exec (.lineLevelChange c l v) s = .next t ∧
        (t.cell c).line l = { (s.cell c).line l with pin := v, candidate := none } ∧
        t.cell c = (s.cell c).setLine l ((t.cell c).line l) ∧ s.cellsKeptBut t c ∧ s.changesOnly t [.cells]) ∧
    ((s.cell c).cfg.filter = .off → ((s.cell c).line l).candidate = none → ((s.cell c).line l).recognized ≠ v →
      ∃ t, exec (.lineLevelChange c l v) s = .next t ∧
        (t.cell c).line l = { pin := v, recognized := v, candidate := none } ∧
        (∀ k, k ≠ l → (t.cell c).line k = (s.cell c).line k) ∧ s.cellsKeptBut t c)

/-- A LOAD level is recognized, as a candidate held for its width or, with the filter OFF, by the raw change itself: an
active edge sets the pending LOAD stamp to the time count, and an edge in the other direction moves the recognized level
alone. That the raw change's own command makes the recognition is notes/assumptions/10.md. -/
def Obligations.LoadEdgeIsStamped : Prop :=
  ∀ (s : State) (i : Instr) (c : CellId) (v : Level), s.recognizesNow i c .load v →
    ∃ t, exec i s = .next t ∧
      t.cell c = { s.cell c with
        loadLine := { pin := v, recognized := v, candidate := none }
        pendingLoad := if (s.cell c).cfg.loadPol.activeTo v then some s.time else (s.cell c).pendingLoad } ∧
      s.cellsKeptBut t c ∧ s.changesOnly t [.cells]

/-- An active UNLOAD edge on a cell with an OPEN record, no CLOSING record and a grace setting above 0 stamps the edge
and moves the record to CLOSING with reason UNLOAD and the edge's stamp as its close-start time, starts the cell's grace
timer for 20 ms times the setting, stops the record's progress timer, and leaves every other slot alone. A CLOSING record
of the cell is sealed FORCED first, and with a grace setting of 0 the record seals at once. With no OPEN record the stamp is
all, and an edge in the other direction moves the recognized level alone. The edge is the recognition of a candidate held
for its width or, with the filter OFF, the raw change itself (whose command makes it by notes/assumptions/10.md).
An END for the cell's OPEN record, and a LOT_END of its lot, move it to CLOSING with MARKER_END or LOT_END: a CLOSING
record of the cell is sealed FORCED first, and with a grace setting of 0 the record seals at once. An END of another key, a
LOT_END of another lot, and a marker of an unknown kind act on no record. In COLLATE each marker's copy names the slot it
acted on. -/
def Obligations.UnloadEdgeClosesTheOpenRecord : Prop :=
  (∀ (s : State) (k : Instr) (c : CellId) (v : Level), s.recognizesNow k c .unload v →
    (((s.cell c).cfg.unloadPol.activeTo v → s.openOn c = none) →
      ∃ t, exec k s = .next t ∧
        t.cell c = { s.cell c with
          unloadLine := { pin := v, recognized := v, candidate := none }
          lastUnload := if (s.cell c).cfg.unloadPol.activeTo v then some s.time else (s.cell c).lastUnload } ∧
        s.cellsKeptBut t c ∧ s.changesOnly t [.cells]) ∧
    ∀ (i : SlotId) (r : Record), (s.cell c).cfg.unloadPol.activeTo v → s.openOn c = some i → s.record i = some r →
      (s.closingOn c = none → (s.cell c).cfg.grace ≠ 0 →
        ∃ t, exec k s = .next t ∧
          t.record i = some { r with state := .closing, reason := some .unload, closeStart := some s.time } ∧
          (t.cell c).lastUnload = some s.time ∧
          (t.cell c).graceTimer = some { elapsed := 0, length := 20 * (s.cell c).cfg.grace.toNat } ∧
          (t.cell c).unloadLine = { pin := v, recognized := v, candidate := none } ∧
          t.progressTimer i = none ∧ s.slotsKeptBut t i ∧ s.cellsKeptBut t c ∧
          s.changesOnly t [.cells, .dir, .xport]) ∧
      (s.recordLaw →
        ∃ t, exec k s = .next t ∧ s.entersClosing t c i r .unload s.time ∧ s.forcesClosing t c ∧
          (t.cell c).lastUnload = some s.time ∧
          (t.cell c).unloadLine = { pin := v, recognized := v, candidate := none } ∧
          s.changesOnly t [.cells, .banks, .dir, .alerts, .xport, .tags])) ∧
  ∀ (s : State) (c : CellId) (route : Byte) (m : Marker) (rest : List FifoEntry) (lb : BankId),
    s.collatesNext c (.marker route m) rest lb → s.recordLaw →
    (∀ i r, s.openOn c = some i → s.record i = some r →
      ((m.kind = 0x02 ∧ r.key = m.key) ∨ (m.kind = 0x03 ∧ r.key.lot = m.key.lot)) →
      ∃ t, exec .engineTake s = .next t ∧
        s.entersClosing t c i r (if m.kind = 0x02 then .markerEnd else .lotEnd) s.time ∧ s.forcesClosing t c ∧
        t.hall = s.copied c (s.markerCopy c route m (r.place i)) ∧
        (s.closingOn c = none → (s.cell c).cfg.grace ≠ 0 → s.slotsKeptBut t i ∧ s.cellsKeptBut t c ∧
          s.changesOnly t [.cells, .engine, .dir, .xport, .hall, .sent])) ∧
    ((m.kind = 0x02 → ∀ i r, s.openOn c = some i → s.record i = some r → r.key ≠ m.key) →
      (m.kind = 0x03 → ∀ i r, s.openOn c = some i → s.record i = some r → r.key.lot ≠ m.key.lot) → m.kind ≠ 0x01 →
      ∃ t, exec .engineTake s = .next t ∧ t.hall = s.copied c (s.markerCopy c route m noPlace) ∧
        (t.cell c).graceTimer = (s.cell c).graceTimer ∧ s.cellsKeptBut t c ∧
        s.changesOnly t [.cells, .engine, .hall, .sent])

/-- A millisecond step adds 1 to the time count, wrapping, whatever falls due in it. Where nothing is due, every candidate
and every timer is one millisecond on and nothing else changes. That what is due and has not been commanded takes effect
inside the step is the model's choice (notes/assumptions/8.md). -/
def Obligations.TimeCountAdvances : Prop :=
  ∀ s : State, ∃ t, exec .timeCountStep s = .next t ∧ t.time = s.time + 1 ∧
    s.changesOnly t [.cells, .time, .banks, .dir, .alerts, .xport, .tags] ∧
    ((∀ c l d, ((s.cell c).line l).candidate = some d → d.held < d.width) →
      (∀ c m, (s.cell c).graceTimer = some m → m.elapsed < m.length) →
      (∀ i m, s.progressTimer i = some m → m.elapsed < m.length) →
      s.changesOnly t [.cells, .time, .xport] ∧
      (∀ c, (t.cell c).graceTimer = (s.cell c).graceTimer.map (fun m => { m with elapsed := m.elapsed + 1 }) ∧
        (∀ l, (t.cell c).line l = { (s.cell c).line l with
          candidate := ((s.cell c).line l).candidate.map fun d => { d with held := d.held + 1 } }) ∧
        t.cell c = { s.cell c with
          loadLine := (t.cell c).loadLine
          unloadLine := (t.cell c).unloadLine
          graceTimer := (t.cell c).graceTimer } ∧
        (t.cell c).pendingLoad = (s.cell c).pendingLoad ∧ (t.cell c).lastUnload = (s.cell c).lastUnload ∧
        (t.cell c).fifo = (s.cell c).fifo ∧ (t.cell c).stopLatch = (s.cell c).stopLatch) ∧
      (∀ i, t.progressTimer i = (s.progressTimer i).map fun m => { m with elapsed := m.elapsed + 1 }) ∧
      t.xport = { s.xport with progress := t.xport.progress })

/-- A grace timer that has run for its length seals the cell's CLOSING record with the reason it has. The record is CLOSED,
stamped and judged: outcome, final yield value and disposition stored, OVER_GROSS brought up to date, its recipe copied,
its counts untouched. The final evaluation raises its alerts in order: NO_DATA or YIELD_LOW, then zones with a tested
count, then bins. Its tags are gone; its bank's bound count is one lower, and a RETIRING bank whose count falls to 0 is
IDLE; it is the last in the order of seals; its PROGRESS entry leaves the SUM queue and its FINAL joins the tail, takes
the place of the oldest PROGRESS entry when the queue is full, or is owed when all 8 are FINAL. A timer that has not run
its length, or is stopped, does nothing. -/
def Obligations.GraceExpirySealsTheClosingRecord : Prop :=
  ∀ (s : State) (c : CellId),
    (∀ (m : Timer) (i : SlotId) (r : Record), (s.cell c).graceTimer = some m → m.length ≤ m.elapsed →
      s.closingOn c = some i → s.record i = some r →
      ∃ t r', exec (.graceExpiry c) s = .next t ∧ t.record i = some r' ∧ r'.state = .closed ∧
        r'.reason = r.reason ∧ r'.closeStart = r.closeStart ∧ r'.sealTime = some s.time ∧ r'.counts = r.counts ∧
        r'.key = r.key ∧ r'.frame = r.frame ∧ r'.recipeCopy = some (s.recipeOf r) ∧
        r'.outcome = some (compareLimit (r.waferYield (s.recipeOf r)) (s.recipeOf r).yieldLimit.toNat) ∧
        (t.cell c).graceTimer = none ∧ (∀ q, t.tag q ≠ some i) ∧
        (t.bank r.bank).bound = (s.bank r.bank).bound - 1 ∧
        s.changesOnly t [.cells, .banks, .dir, .alerts, .xport, .tags] ∧
        r' = r.sealedAs r.reason r.closeStart s.time (s.recipeOf r) r'.flags.summaryOwed ∧
        (i ∉ s.xport.owed → r.flags.summaryOwed = false → (r'.flags.summaryOwed = true ↔ i ∈ t.xport.owed)) ∧
        s.sealEffects t i r ∧
        (((i, SumKind.progress) ∉ s.xport.sumQ ∨ s.xport.owed = []) → s.slotsKeptBut t i) ∧
        ∀ d, t.cell d = { s.cell d with
          stopLatch := (t.cell d).stopLatch
          graceTimer := if d = c then none else (s.cell d).graceTimer }) ∧
    (∀ m, (s.cell c).graceTimer = some m → m.elapsed < m.length → exec (.graceExpiry c) s = .next s) ∧
    ((s.cell c).graceTimer = none → exec (.graceExpiry c) s = .next s)

/-- A progress timer that has run for its length starts again for another period and makes a PROGRESS request: it joins
the tail of the SUM queue unless it is queued already or the queue holds 8 entries. -/
def Obligations.ProgressExpiryRequestsASummary : Prop :=
  ∀ (s : State) (i : SlotId) (m : Timer) (r : Record), s.progressTimer i = some m → m.length ≤ m.elapsed →
    s.record i = some r → (s.recipeOf r).period ≠ 0 →
    ∃ t, exec (.progressExpiry i) s = .next t ∧
      t.progressTimer i = some { elapsed := 0, length := 1000 * (s.recipeOf r).period.toNat } ∧
      t.xport.sumQ = (if (i, SumKind.progress) ∉ s.xport.sumQ ∧ s.xport.sumQ.length < 8
        then s.xport.sumQ ++ [(i, .progress)] else s.xport.sumQ) ∧
      (∀ j, j ≠ i → t.progressTimer j = s.progressTimer j) ∧ s.changesOnly t [.xport]

/-! ## The collation engine -/

/-- The engine takes from the first eligible cell after the one its pointer names, in ascending order with that one last;
the pointer then names the cell served, its oldest frame has left its FIFO, and every other FIFO is as it was. A take that
brings a HOLD port to 8 frames moves it to GO and sends GO unless the port is OFF. With no cell eligible it stays
free. -/
def Obligations.EngineServesCellsInTurn : Prop :=
  ∀ s : State, (∀ k : Fin 8, s.eligible (s.engine + 1 + k) = true →
      (∀ j : Fin 8, j < k → s.eligible (s.engine + 1 + j) = false) →
      ∃ t, exec .engineTake s = .next t ∧ t.engine = s.engine + 1 + k ∧
        (t.cell (s.engine + 1 + k)).fifo = (s.cell (s.engine + 1 + k)).fifo.tail ∧
        (if (s.cell (s.engine + 1 + k)).flow = .hold ∧ (s.cell (s.engine + 1 + k)).fifo.length = 9 then
          (t.cell (s.engine + 1 + k)).flow = .go ∧ t.sent = s.sent ++
            (if (s.cell (s.engine + 1 + k)).cfg.mode = .off then [] else [.flow (s.engine + 1 + k) .go])
        else (t.cell (s.engine + 1 + k)).flow = (s.cell (s.engine + 1 + k)).flow ∧ t.sent = s.sent) ∧
        ∀ d, d ≠ s.engine + 1 + k → (t.cell d).fifo = (s.cell d).fifo) ∧
    ((∀ c, s.eligible c = false) → exec .engineTake s = .next s)

/-- A touchdown taken under FORWARD, or under COLLATE with no bank LIVE, is forwarded with every site UNCLASSIFIED and
no record named, and a marker is forwarded with no record named; neither touches a record. Under SILENT with no bank LIVE
nothing is forwarded, and a frame taken under OFF is discarded. In every case nothing of the cell changes but its FIFO and
its flow state: no count, no tracker, no stamp and no run. -/
def Obligations.UncollatedFramesAreForwardedOrDiscarded : Prop :=
  ∀ (s : State) (c : CellId) (route : Byte) (rest : List FifoEntry), s.nextCell = some c →
    (∀ (td : Touchdown) (gap : Half), (s.cell c).fifo = .touchdown route td gap :: rest →
      ((s.cell c).cfg.mode = .forward ∨ ((s.cell c).cfg.mode = .collate ∧ s.liveBank = none)) →
      ∃ t, exec .engineTake s = .next t ∧ (t.cell c).fifo = rest ∧
        t.hall = { s.hall with fwd := s.hall.fwd ++ [
          { cls := 0x11, route := s.node ++ BitVec.ofNat 4 c.val,
            payload := td.bytes ++ [0xFF, 0xFF, 0, 0, 0, 0, route]
              ++ td.entries.flatMap fun _ => [0xFF, 0xFF, 0, 0] }] } ∧
        t.cell c = { s.cell c with fifo := rest, flow := (t.cell c).flow } ∧
        s.cellsKeptBut t c ∧ s.changesOnly t [.cells, .engine, .hall, .sent]) ∧
    (∀ (m : Marker), (s.cell c).fifo = .marker route m :: rest →
      ((s.cell c).cfg.mode = .forward ∨ ((s.cell c).cfg.mode = .collate ∧ s.liveBank = none)) →
      ∃ t, exec .engineTake s = .next t ∧
        t.hall = { s.hall with fwd := s.hall.fwd ++ [
          { cls := 0x12, route := s.node ++ BitVec.ofNat 4 c.val,
            payload := m.bytes ++ [0xFF, 0xFF, 0, 0, 0, 0, route] }] } ∧
        t.cell c = { s.cell c with fifo := rest, flow := (t.cell c).flow } ∧
        s.cellsKeptBut t c ∧ s.changesOnly t [.cells, .engine, .hall, .sent]) ∧
    (∀ e, (s.cell c).fifo = e :: rest → (s.cell c).cfg.mode = .silent → s.liveBank = none →
      ∃ t, exec .engineTake s = .next t ∧ t.cell c = { s.cell c with fifo := rest, flow := (t.cell c).flow } ∧
        s.cellsKeptBut t c ∧ s.changesOnly t [.cells, .engine, .sent]) ∧
    (∀ e, (s.cell c).fifo = e :: rest → (s.cell c).cfg.mode = .off →
      ∃ t, exec .engineTake s = .next t ∧ (t.cell c).fifo = rest ∧
        t.cell c = { s.cell c with fifo := rest, flow := (t.cell c).flow } ∧ s.cellsKeptBut t c ∧
        s.changesOnly t [.cells, .engine])

/-- A BEGIN for a key no record has, taken under SILENT from a cell with no OPEN or CLOSING record, opens a fresh record
in the lowest FREE slot, bound to the LIVE bank and its generation, with the recipe the marker names and the frame at the
head of the free-frame list, cleared; it takes the pending LOAD stamp, and no other slot changes.
Under COLLATE or SILENT, a BEGIN whose key is OPEN on its cell has no effect; one whose key is CLOSING there returns the
record to OPEN, and a newer OPEN record moves to CLOSING with NEXT_WAFER; one whose key is OPEN or CLOSING on another cell
raises KEY_CONFLICT and moves no record. Any other is an opening: the cell's CLOSING record is sealed FORCED and its OPEN
record moves to CLOSING with NEXT_WAFER; the lowest record that may be resumed is resumed; without one, EXPORTED records
of the key are freed, and the opening fails with NO_RECIPE or NO_SLOT, moving no other record, or opens a fresh record:
in the lowest FREE slot, or in the slot of the oldest EXPORTED record; with the head of the free-frame list, or the frame
of the oldest EXPORTED record that holds one, which becomes MAP_ABSENT, or tally-only with NO_FRAME. In COLLATE the copy
names the record that is then OPEN. -/
def Obligations.BeginOpensAFreshRecord : Prop :=
  (∀ (s : State) (c : CellId) (route : Byte) (m : Marker) (rest : List FifoEntry) (lb : BankId) (p : Fin 8)
    (i : SlotId) (f : FrameId) (fs : List FrameId),
    s.nextCell = some c → (s.cell c).fifo = .marker route m :: rest → (s.cell c).cfg.mode = .silent →
    s.liveBank = some lb → m.kind = 0x01 → m.recipe = natByte p.val →
    (s.bank lb).recipes[p.val].inUse = true → (∀ j r, s.record j = some r → r.key ≠ m.key) →
    s.openOn c = none → s.closingOn c = none → s.record i = none → (∀ j, j < i → s.record j ≠ none) →
    s.maps.free = f :: fs →
    ∃ t r, exec .engineTake s = .next t ∧ t.record i = some r ∧ r.state = .opened ∧ r.key = m.key ∧ r.cell = c ∧
      r.recipe = p ∧ r.bank = lb ∧ r.gen = (s.bank lb).gen ∧ r.frame = some f ∧ r.openTime = s.time ∧
      r.loadTime = (s.cell c).pendingLoad ∧ r.closeStart = none ∧ r.sealTime = none ∧ r.results = 0 ∧
      r.flags = { tallyOnly := false, mapAbsent := false, overGross := false, summaryOwed := false } ∧
      t.maps.free = fs ∧ t.frame f = { dies := [], serial := 0 } ∧ (t.cell c).pendingLoad = none ∧
      (t.bank lb).bound = (s.bank lb).bound + 1 ∧ s.slotsKeptBut t i ∧ t.alerts = s.alerts ∧ t.hall = s.hall) ∧
  ∀ (s : State) (c : CellId) (route : Byte) (m : Marker) (rest : List FifoEntry) (lb : BankId),
    s.collatesNext c (.marker route m) rest lb → m.kind = 0x01 →
    (∀ i r, s.activeWith m.key = some i → s.record i = some r →
      (r.cell = c → r.state = .opened →
        ∃ t, exec .engineTake s = .next t ∧ t.hall = s.copied c (s.markerCopy c route m (r.place i)) ∧
          t.cell c = { s.cell c with fifo := rest, flow := (t.cell c).flow } ∧ s.cellsKeptBut t c ∧
          s.changesOnly t [.cells, .engine, .hall, .sent]) ∧
      (r.cell = c → r.state = .closing → s.recordLaw → s.listLaw →
        ∃ t, exec .engineTake s = .next t ∧ t.hall = s.copied c (s.markerCopy c route m (r.place i)) ∧
          t.record i = some { r with state := .opened, reason := none, closeStart := none } ∧
          t.progressTimer i = (if (s.recipeOf r).period = 0 then none
            else some { elapsed := 0, length := 1000 * (s.recipeOf r).period.toNat }) ∧
          (t.cell c).pendingLoad = (s.cell c).pendingLoad ∧
          (∀ j q, s.openOn c = some j → s.record j = some q → s.entersClosing t c j q .nextWafer s.time) ∧
          (s.openOn c = none → (t.cell c).graceTimer = none ∧ s.slotsKeptBut t i ∧ s.cellsKeptBut t c ∧
            s.changesOnly t [.cells, .engine, .dir, .xport, .hall, .sent])) ∧
      (r.cell ≠ c →
        ∃ t, exec .engineTake s = .next t ∧ t.hall = s.copied c (s.markerCopy c route m noPlace) ∧
          t.alerts = (s.raise { kind := .keyConflict, cell := some c, slot := some i, key := some m.key }).alerts ∧
          s.cellsKeptBut t c ∧ s.changesOnly t [.cells, .engine, .alerts, .hall, .sent])) ∧
    (s.activeWith m.key = none → s.recordLaw → s.listLaw →
      (∃ t, exec .engineTake s = .next t ∧ s.forcesClosing t c ∧
        ∀ j q, s.openOn c = some j → s.record j = some q → s.entersClosing t c j q .nextWafer s.time) ∧
      (s.openOn c = none → s.closingOn c = none →
        (∀ i r, s.record i = some r → s.mayResume m.key lb r →
          (∀ j q, j < i → s.record j = some q → ¬ s.mayResume m.key lb q) →
          ∃ t, exec .engineTake s = .next t ∧ s.resumes t c i r ∧ (t.cell c).pendingLoad = (s.cell c).pendingLoad ∧
            t.hall.fwd = (s.copied c (s.markerCopy c route m (r.place i))).fwd ∧ t.maps = s.maps ∧
            t.alerts = s.alerts) ∧
        ((∀ j q, s.record j = some q → ¬ s.mayResume m.key lb q) →
          (s.noRecipeFor c lb m.recipe →
            ∃ t, exec .engineTake s = .next t ∧
              t.alerts = (s.raise { kind := .noRecipe, cell := some c, key := some m.key }).alerts ∧
              t.hall.fwd = (s.copied c (s.markerCopy c route m noPlace)).fwd ∧
              (∀ j q, s.record j = some q → q.key = m.key → q.state = .exported → t.record j = none) ∧
              ((∀ j q, s.record j = some q → q.key = m.key → q.state ≠ .exported) →
                s.changesOnly t [.cells, .engine, .alerts, .hall, .sent])) ∧
          (∀ p, s.choosesRecipe c lb m.recipe p →
            (∀ j q, s.record j = some q → q.key = m.key → q.state ≠ .exported) →
            ((∀ j, s.record j ≠ none) → s.dir.exportOrder = [] →
              ∃ t, exec .engineTake s = .next t ∧
                t.alerts = (s.raise { kind := .noSlot, cell := some c, key := some m.key }).alerts ∧
                t.hall = s.copied c (s.markerCopy c route m noPlace) ∧
                s.changesOnly t [.cells, .engine, .alerts, .hall, .sent]) ∧
            (∀ i f fs, s.lowestFree i → s.maps.free = f :: fs →
              ∃ t, exec .engineTake s = .next t ∧ s.opensFresh t c m.key p lb i (some f) ∧ t.maps.free = fs ∧
                s.slotsKeptBut t i ∧ t.alerts = s.alerts ∧ t.hall = s.copied c
                  (s.markerCopy c route m ([natByte i.val, lb.code] ++ wordBytes (s.bank lb).gen))) ∧
            (∀ i is q f fs, (∀ j, s.record j ≠ none) → s.dir.exportOrder = i :: is → s.record i = some q →
              s.maps.free ++ q.frame.toList = f :: fs →
              ∃ t, exec .engineTake s = .next t ∧ s.opensFresh t c m.key p lb i (some f) ∧ t.maps.free = fs ∧
                t.dir.exportOrder = is ∧ t.alerts = s.alerts ∧ t.hall.fwd = (s.copied c
                  (s.markerCopy c route m ([natByte i.val, lb.code] ++ wordBytes (s.bank lb).gen))).fwd) ∧
            (∀ i before j after q f, s.lowestFree i → s.maps.free = [] → s.dir.exportOrder = before ++ j :: after →
              (∀ b ∈ before, ∀ x, s.record b = some x → x.frame = none) → s.record j = some q → q.frame = some f →
              ∃ t, exec .engineTake s = .next t ∧ s.opensFresh t c m.key p lb i (some f) ∧
                t.record j = some { q with frame := none, flags := { q.flags with mapAbsent := true } } ∧
                t.dir.exportOrder = s.dir.exportOrder ∧ t.maps.free = [] ∧
                t.xport.mapQ = s.xport.mapQ.filter (fun e => e.1 != j) ∧
                (∀ d, s.xport.dump = some d → d.slot = j → d.gone = false →
                  t.xport.dump = some { d with aborted := true }) ∧ t.alerts = s.alerts) ∧
            (∀ i, s.lowestFree i → s.maps.free = [] →
              (∀ j ∈ s.dir.exportOrder, ∀ x, s.record j = some x → x.frame = none) →
              ∃ t, exec .engineTake s = .next t ∧ s.opensFresh t c m.key p lb i none ∧ s.slotsKeptBut t i ∧
                t.alerts = (s.raise
                  { kind := .noFrame, cell := some c, slot := some i, key := some m.key }).alerts)))))

/-- A touchdown whose key stands only on sealed records, taken under SILENT, is late: the cell's late count rises by 1,
LATE_RESULT is raised with the record of that key that sealed most recently, and no record changes.
Under COLLATE or SILENT alike, that record is the last of the key in the order of seals, and the copy gives every site
LATE. A touchdown whose key is OPEN or CLOSING on another cell raises KEY_CONFLICT and every site is CONFLICT. One whose
key no record has is an implicit opening: the cell's CLOSING record is sealed FORCED and its OPEN record moves to CLOSING
with NEXT_WAFER; then it fails with NO_RECIPE or NO_SLOT, every site getting that verdict, or opens a fresh record under
the cell's default recipe, and is collated into it. A touchdown that binds to no record moves none, and its gap is added
nowhere. -/
def Obligations.LateTouchdownTouchesNoRecord : Prop :=
  (∀ (s : State) (c : CellId) (route : Byte) (td : Touchdown) (gap : Half) (rest : List FifoEntry) (lb : BankId)
    (j : SlotId) (r : Record),
    s.nextCell = some c → (s.cell c).fifo = .touchdown route td gap :: rest → (s.cell c).cfg.mode = .silent →
    s.liveBank = some lb → s.activeWith td.key = none → s.record j = some r → r.key = td.key →
    ∃ t, exec .engineTake s = .next t ∧
      (t.cell c).counts = { (s.cell c).counts with
        late := BitVec.ofNat 16 (min ((s.cell c).counts.late.toNat + 1) 65535) } ∧
      t.alerts = (s.raise { kind := .lateResult, cell := some c, slot := s.lastSealedWith td.key,
                            key := some td.key }).alerts ∧
      s.cellsKeptBut t c ∧ s.changesOnly t [.cells, .engine, .alerts, .sent]) ∧
  ∀ (s : State) (c : CellId) (route : Byte) (td : Touchdown) (gap : Half) (rest : List FifoEntry) (lb : BankId),
    s.collatesNext c (.touchdown route td gap) rest lb →
    (∀ before j after r, s.activeWith td.key = none → s.listLaw → s.dir.sealOrder = before ++ j :: after →
      s.record j = some r → r.key = td.key → (∀ x ∈ after, ∀ q, s.record x = some q → q.key ≠ td.key) →
      ∃ t, exec .engineTake s = .next t ∧
        (t.cell c).counts = { (s.cell c).counts with
          late := BitVec.ofNat 16 (min ((s.cell c).counts.late.toNat + 1) 65535) } ∧
        t.alerts =
          (s.raise { kind := .lateResult, cell := some c, slot := some j, key := some td.key }).alerts ∧
        t.hall = s.copied c (s.touchdownCopy c route td noPlace (td.entries.flatMap fun _ => [0xFF, 0xFF, 9, 0])) ∧
        s.cellsKeptBut t c ∧ s.changesOnly t [.cells, .engine, .alerts, .hall, .sent]) ∧
    (∀ i r, s.activeWith td.key = some i → s.record i = some r → r.cell ≠ c →
      ∃ t, exec .engineTake s = .next t ∧ (t.cell c).counts = (s.cell c).counts ∧
        t.alerts = (s.raise { kind := .keyConflict, cell := some c, slot := some i, key := some td.key }).alerts ∧
        t.hall = s.copied c (s.touchdownCopy c route td noPlace (td.entries.flatMap fun _ => [0xFF, 0xFF, 10, 0])) ∧
        s.cellsKeptBut t c ∧ s.changesOnly t [.cells, .engine, .alerts, .hall, .sent]) ∧
    ((∀ j q, s.record j = some q → q.key ≠ td.key) → s.recordLaw → s.listLaw →
      (∃ t, exec .engineTake s = .next t ∧ s.forcesClosing t c ∧
        ∀ j q, s.openOn c = some j → s.record j = some q → s.entersClosing t c j q .nextWafer s.time) ∧
      (s.openOn c = none → s.closingOn c = none →
        (s.noRecipeFor c lb 0xFF →
          ∃ t, exec .engineTake s = .next t ∧
            t.alerts = (s.raise { kind := .noRecipe, cell := some c, key := some td.key }).alerts ∧
            t.hall = s.copied c (s.touchdownCopy c route td noPlace (td.entries.flatMap fun _ => [0xFF, 0xFF, 12, 0])) ∧
            s.changesOnly t [.cells, .engine, .alerts, .hall, .sent]) ∧
        (∀ p, s.choosesRecipe c lb 0xFF p →
          ((∀ j, s.record j ≠ none) → s.dir.exportOrder = [] →
            ∃ t, exec .engineTake s = .next t ∧
              t.alerts = (s.raise { kind := .noSlot, cell := some c, key := some td.key }).alerts ∧
              t.hall =
                s.copied c (s.touchdownCopy c route td noPlace (td.entries.flatMap fun _ => [0xFF, 0xFF, 11, 0])) ∧
              s.changesOnly t [.cells, .engine, .alerts, .hall, .sent]) ∧
          (∀ i f fs, s.lowestFree i → s.maps.free = f :: fs → (s.bank lb).recipes[p.val].inRange = true →
            ∃ t u r, exec .engineTake s = .next t ∧ s.opensFresh u c td.key p lb i (some f) ∧
              u.record i = some r ∧ u.maps.free = fs ∧ s.slotsKeptBut u i ∧
              s.changesOnly u [.cells, .engine, .banks, .dir, .maps, .xport, .sent] ∧
              u.collated t c i r route td gap))))

/-- An entry's site checks are made in the manual's order, and the first condition that holds gives the verdict: BADSITE
at or above the site count, OFFGRID off the recipe's grid, CLASH on a die already sent on to translation, LATE at the
result cap. A touchdown taken under COLLATE or SILENT whose key is OPEN or CLOSING on its cell is collated whole into that
record: its gap joins the gap sum, its entries are handled in order (each check counted, each result translated, with the
unknown bin where there is no translation, looked up, resolved and run), then come the checkpoint test and the
RESULT_LIMIT seal at the cap, and under COLLATE the annotated copy. -/
def Obligations.SiteChecksApplyInOrder : Prop :=
  (∀ (r : Record) (rc : Recipe) (dies : List (Half × Half)) (e : SiteEntry), rc.siteCount.toNat ≤ 16 →
    rc.width.toNat ≤ 512 → rc.height.toNat ≤ 512 →
    (siteCheck r rc dies e = some .badSite ↔ rc.siteCount.toNat ≤ e.site.toNat) ∧
    (siteCheck r rc dies e = some .offGrid ↔ e.site.toNat < rc.siteCount.toNat ∧
      (rc.width.toNat ≤ e.x.toNat ∨ rc.height.toNat ≤ e.y.toNat)) ∧
    (siteCheck r rc dies e = some .clash ↔ e.site.toNat < rc.siteCount.toNat ∧ e.x.toNat < rc.width.toNat ∧
      e.y.toNat < rc.height.toNat ∧ (e.x, e.y) ∈ dies) ∧
    (siteCheck r rc dies e = some .late ↔ e.site.toNat < rc.siteCount.toNat ∧ e.x.toNat < rc.width.toNat ∧
      e.y.toNat < rc.height.toNat ∧ (e.x, e.y) ∉ dies ∧ 1048575 ≤ r.counts.t.toNat + r.counts.r.toNat) ∧
    (siteCheck r rc dies e = none ↔ e.site.toNat < rc.siteCount.toNat ∧ e.x.toNat < rc.width.toNat ∧
      e.y.toNat < rc.height.toNat ∧ (e.x, e.y) ∉ dies ∧ r.counts.t.toNat + r.counts.r.toNat < 1048575)) ∧
  ∀ (s : State) (c : CellId) (route : Byte) (td : Touchdown) (gap : Half) (rest : List FifoEntry) (lb : BankId)
    (i : SlotId) (r : Record), s.collatesNext c (.touchdown route td gap) rest lb → s.activeWith td.key = some i →
    s.record i = some r → r.cell = c → (s.recipeOf r).inRange = true →
    ∃ t, exec .engineTake s = .next t ∧ (s.taken c).collated t c i r route td gap

/-! ## The map store -/

/-- A VOID result adds 1 to V and touches nothing else of the record, no die cell, no serial and no tag. Its verdict is
VOID with the die cell's test count as it stands, 0 for an UNTESTED die and for a TALLY_ONLY record. -/
def Obligations.VoidResultCountsOnlyV : Prop :=
  ∀ (s : State) (i : SlotId) (r : Record) (q : SiteResult), q.cls = .void →
    (s.resolveResult i r q).2.1 = .void ∧
    (s.resolveResult i r q).1.record i = some { r with counts := { r.counts with v := r.counts.v + 1 } } ∧
    s.slotsKeptBut (s.resolveResult i r q).1 i ∧ s.changesOnly (s.resolveResult i r q).1 [.dir] ∧
    (r.flags.tallyOnly = true → (s.resolveResult i r q).2.2 = 0) ∧
    (∀ f, r.flags.tallyOnly = false → r.frame = some f →
      (s.die f q.x q.y = .untested → (s.resolveResult i r q).2.2 = 0) ∧
      (∀ b n, s.die f q.x q.y = .tested b n → (s.resolveResult i r q).2.2 = n ∧ 1 ≤ n ∧ n ≤ 3))

/-- A non-void result for an UNTESTED die is NEW: the die becomes TESTED with its bin and count 1, the record counts a
first result, the frame's serial rises by 1, a dump that has read the row gets dirty behind, every other die stays as it
is, and the record's tags are gone. For a
TALLY_ONLY record it is COUNTED: the record counts a first result, and no frame changes. -/
def Obligations.FirstResultIsNewOrCounted : Prop :=
  ∀ (s : State) (i : SlotId) (r : Record) (q : SiteResult), s.storesCanonical → q.cls ≠ .void → q.x < 512 →
    (∀ f, r.flags.tallyOnly = false → r.frame = some f → s.die f q.x q.y = .untested →
      (s.resolveResult i r q).2 = (.new, 1) ∧
      (s.resolveResult i r q).1.record i = some (r.firstResult q) ∧
      (s.resolveResult i r q).1.die f q.x q.y = .tested q.bin 1 ∧
      (∀ x y, x < 512 → (x, y) ≠ (q.x, q.y) → (s.resolveResult i r q).1.die f x y = s.die f x y) ∧
      ((s.resolveResult i r q).1.frame f).serial = (s.frame f).serial + 1 ∧
      (s.resolveResult i r q).1.xport = { s.xport with dump := s.xport.dump.map fun d =>
        if d.slot = i ∧ d.frame = f ∧ d.gone = false ∧ q.y < d.nextRow then { d with dirty := true } else d } ∧
      (∀ g, g ≠ f → (s.resolveResult i r q).1.frame g = s.frame g) ∧
      (∀ p, (s.resolveResult i r q).1.tag p ≠ some i) ∧ s.slotsKeptBut (s.resolveResult i r q).1 i ∧
      s.changesOnly (s.resolveResult i r q).1 [.dir, .maps, .xport, .tags]) ∧
    (r.flags.tallyOnly = true →
      (s.resolveResult i r q).2 = (.counted, 0) ∧
      (s.resolveResult i r q).1.record i = some (r.firstResult q) ∧
      (∀ p, (s.resolveResult i r q).1.tag p ≠ some i) ∧ s.slotsKeptBut (s.resolveResult i r q).1 i ∧
      s.changesOnly (s.resolveResult i r q).1 [.dir, .tags])

/-- A retest of a TESTED die raises R and the die's test count, to 3 at most, under every policy. It replaces the old
result under LATEST, under PASS_WINS when that is no PASS, and under RECHECK_ONLY when that is a RECHECK; then U rises, the
counts of passes move with the class, in the record and in the die's zone, one die moves from the old bin's count to the
new bin's, the serial rises, and a dump that has read the row gets dirty behind. Otherwise the old bin stays, with the
counts of T, P, FP and U, and under RECHECK_ONLY UNEXPECTED_RETEST is raised. No other die and no other frame changes. -/
def Obligations.RetestFollowsThePolicy : Prop :=
  ∀ (s : State) (i : SlotId) (r : Record) (q : SiteResult) (f : FrameId) (b0 : Fin 64) (n : Nat) (c0 : BinClass),
    s.storesCanonical → q.cls ≠ .void → r.flags.tallyOnly = false → r.frame = some f →
    s.die f q.x q.y = .tested b0 n → (s.bank r.bank).bins[b0.val].cls = c0 →
    ∃ r', (s.resolveResult i r q).1.record i = some r' ∧ r'.counts.r = r.counts.r + 1 ∧
      r'.counts.t = r.counts.t ∧ r'.counts.fp = r.counts.fp ∧ r'.counts.v = r.counts.v ∧
      r'.sites = r.sites.set q.site.val
        { results := r.sites[q.site.val].results + 1
          passes := r.sites[q.site.val].passes + onePass q.cls } ∧
      (if (s.recipeOf r).policy = .latest ∨ ((s.recipeOf r).policy = .passWins ∧ c0 ≠ .pass) ∨
          ((s.recipeOf r).policy = .recheckOnly ∧ c0 = .recheck) then
        (s.resolveResult i r q).2 = (.replaced, min (n + 1) 3) ∧
        (s.resolveResult i r q).1.die f q.x q.y = .tested q.bin (min (n + 1) 3) ∧
        r'.counts.u = r.counts.u + 1 ∧
        r'.counts.p = r.counts.p - onePass c0 + onePass q.cls ∧
        ((s.resolveResult i r q).1.frame f).serial = (s.frame f).serial + 1 ∧
        (∀ b : Fin 64, r'.bins[b.val] = r.bins[b.val] - (if b = b0 then 1 else 0) + (if b = q.bin then 1 else 0)) ∧
        r'.zones = r.zones.set q.zone.val
          { tested := r.zones[q.zone.val].tested
            passed := r.zones[q.zone.val].passed - onePass c0 + onePass q.cls } ∧
        (s.resolveResult i r q).1.alerts = s.alerts ∧
        (s.resolveResult i r q).1.xport = { s.xport with dump := s.xport.dump.map fun d =>
          if d.slot = i ∧ d.frame = f ∧ d.gone = false ∧ q.y < d.nextRow then { d with dirty := true } else d }
      else
        (s.resolveResult i r q).2 = (.kept, min (n + 1) 3) ∧
        (s.resolveResult i r q).1.die f q.x q.y = .tested b0 (min (n + 1) 3) ∧
        r'.counts.u = r.counts.u ∧ r'.counts.p = r.counts.p ∧ r'.bins = r.bins ∧ r'.zones = r.zones ∧
        ((s.resolveResult i r q).1.frame f).serial = (s.frame f).serial ∧
        (s.resolveResult i r q).1.xport = s.xport ∧
        (s.resolveResult i r q).1.alerts = (if (s.recipeOf r).policy = .recheckOnly then
            (s.raise { kind := .unexpectedRetest, cell := some r.cell, slot := some i, key := some r.key,
                       index := some q.site.val }).alerts
          else s.alerts)) ∧
      (q.x < 512 → ∀ x y, x < 512 → (x, y) ≠ (q.x, q.y) →
        (s.resolveResult i r q).1.die f x y = s.die f x y) ∧
      (∀ g, g ≠ f → (s.resolveResult i r q).1.frame g = s.frame g) ∧
      (∀ p, (s.resolveResult i r q).1.tag p ≠ some i) ∧ s.slotsKeptBut (s.resolveResult i r q).1 i

/-- The zone of a die is the first enabled entry, Z1 to Z8, in whose aligned blocks the die lies on both axes; Z0 when
there is none. -/
def Obligations.ZoneLookupTakesTheFirstMatch : Prop :=
  ∀ (k : Bank) (x y : Nat) (hit : Fin 8 → Prop),
    (∀ z, hit z ↔ k.zones[z].enabled = true ∧
      x / 2 ^ (9 - k.zones[z].xBits.toNat) = k.zones[z].xCompare.toNat / 2 ^ (9 - k.zones[z].xBits.toNat) ∧
      y / 2 ^ (9 - k.zones[z].yBits.toNat) = k.zones[z].yCompare.toNat / 2 ^ (9 - k.zones[z].yBits.toNat)) →
    (∀ z, hit z → (∀ z', z' < z → ¬ hit z') → (k.zoneOf x y).val = z.val + 1) ∧
    ((∀ z, ¬ hit z) → k.zoneOf x y = 0)

/-! ## Yields and site runs -/

/-- A ratio is absent when its denominator is 0. Otherwise it is the count of whole basis points, rounded toward zero,
capped at 10000, and the cap applies exactly when the count exceeds the denominator. -/
def Obligations.RatioRoundsDownAndCaps : Prop :=
  ∀ n d : Nat, (ratio n d = none ↔ d = 0) ∧
    ∀ q, ratio n d = some q → q ≤ 10000 ∧ (n ≤ d → q * d ≤ n * 10000 ∧ n * 10000 < (q + 1) * d) ∧
      (d < n → q = 10000)

/-- The checkpoint test: OVER_GROSS is set under GROSS when P is above G, and never cleared; with an interval of 0 it
raises nothing; a crossing moves the index to floor(T / K), and with T at the minimum sample or above raises, in order,
YIELD_LOW, ZONE_YIELD_LOW for each zone with that many tested dies, and BIN_LIMIT for each bin, as their yields and shares
break their limits; below the minimum sample it raises nothing; without a crossing the index stays and nothing is raised.
Nothing else of the record changes. -/
def Obligations.CheckpointCrossingMovesTheIndex : Prop :=
  ∀ (s : State) (i : SlotId) (r : Record), s.record i = some r →
    ∃ r', (s.checkpointTest i).record i = some r' ∧ r'.counts = r.counts ∧
      s.changesOnly (s.checkpointTest i) [.cells, .dir, .alerts] ∧
      ((s.recipeOf r).interval = 0 → r'.checkpoint = r.checkpoint ∧ (s.checkpointTest i).alerts = s.alerts) ∧
      ((s.recipeOf r).interval ≠ 0 →
        r'.checkpoint.toNat = max r.checkpoint.toNat (r.counts.t.toNat / (s.recipeOf r).interval.toNat)) ∧
      (r.counts.t.toNat / (s.recipeOf r).interval.toNat ≤ r.checkpoint.toNat →
        (s.checkpointTest i).alerts = s.alerts) ∧
      (r.counts.t.toNat < (s.recipeOf r).minSample.toNat → (s.checkpointTest i).alerts = s.alerts) ∧
      r' = { r with
        checkpoint := r'.checkpoint
        flags := { r.flags with overGross := r.flags.overGross || r.isOverGross (s.recipeOf r) } } ∧
      s.slotsKeptBut (s.checkpointTest i) i ∧
      ((s.recipeOf r).interval ≠ 0 →
        r.checkpoint.toNat < r.counts.t.toNat / (s.recipeOf r).interval.toNat →
        (s.recipeOf r).minSample.toNat ≤ r.counts.t.toNat →
        (s.checkpointTest i).alerts =
            (s.raiseAll (r.checkpointNotices i (s.recipeOf r) (s.bank r.bank))).alerts ∧
          ∀ c, (s.checkpointTest i).cell c =
            (s.raiseAll (r.checkpointNotices i (s.recipeOf r) (s.bank r.bank))).cell c)

/-- A FAIL or RECHECK result adds 1 to the run counter of its cell and site, saturating at 255, and raises SITE_RUN and
sets the mark when the counter is at the limit or above with the mark clear; a PASS clears both; a VOID moves
neither. -/
def Obligations.SiteRunFollowsTheClass : Prop :=
  ∀ (s : State) (c : CellId) (k : Fin 16) (cls : BinClass) (limit : Nat) (n : Byte),
    n = BitVec.ofNat 8 (min ((s.cell c).runs[k.val].toNat + 1) 255) →
    (cls = .void → s.siteRun c k cls limit = s) ∧
    (cls = .pass → ((s.siteRun c k cls limit).cell c).runs = (s.cell c).runs.set k.val 0 ∧
      ((s.siteRun c k cls limit).cell c).suspects = (s.cell c).suspects.set k.val false ∧
      s.changesOnly (s.siteRun c k cls limit) [.cells]) ∧
    (cls = .fail ∨ cls = .recheck → ((s.siteRun c k cls limit).cell c).runs = (s.cell c).runs.set k.val n ∧
      (if 0 < limit ∧ limit ≤ n.toNat ∧ (s.cell c).suspects[k.val] = false then
        ((s.siteRun c k cls limit).cell c).suspects = (s.cell c).suspects.set k.val true ∧
        (s.siteRun c k cls limit).alerts = (s.raise
          { kind := .siteRun, cell := some c, index := some k.val, value := some (n.setWidth 16) }).alerts
      else ((s.siteRun c k cls limit).cell c).suspects = (s.cell c).suspects ∧
        (s.siteRun c k cls limit).alerts = s.alerts)) ∧
    s.cellsKeptBut (s.siteRun c k cls limit) c

/-! ## Alerts -/

/-- Raising an alert: at level 0 nothing happens. Otherwise an alert that carries a cell sets that cell's STOP latch, and
asserts its STOP line, exactly when its level is at or above the threshold. The queue folds it into the entry of its
coalescing key (kind, cell, slot and index): one more occurrence, its time, its value, and its key if it has one. While
the queue has room it goes in behind every entry of its level or higher and ahead of every lower one. At 32 entries it is
discarded when the last entry's level is its own or higher; else that entry goes, the newest of the lowest level. -/
def Obligations.RaiseStopsMergesAndInserts : Prop :=
  ∀ (s : State) (a : Alert) (l : Fin 8), l = s.alerts.levels[a.kind.index.val] →
    (l = 0 → s.raise a = s) ∧
    (l ≠ 0 → (∀ c, ((s.raise a).cell c).stopLatch = true ↔
        (s.cell c).stopLatch = true ∨ (a.cell = some c ∧ s.alerts.threshold.val ≤ l.val)) ∧
      (∀ c, (s.raise a).stopLine false c = true ↔
        s.stopLine false c = true ∨ (a.cell = some c ∧ s.alerts.threshold.val ≤ l.val)) ∧
      s.changesOnly (s.raise a) [.cells, .alerts] ∧ (s.raise a).alerts.levels = s.alerts.levels ∧
      (s.raise a).alerts.threshold = s.alerts.threshold ∧
      (∀ b : Alert, b.sameKey a = true ↔
        b.kind = a.kind ∧ b.cell = a.cell ∧ b.slot = a.slot ∧ b.index = a.index) ∧
      (∀ e : AlertEntry, e.merge a s.time = { e with
        alert := { e.alert with value := a.value, key := if a.key.isSome then a.key else e.alert.key }
        lastTime := s.time
        occ := BitVec.ofNat 16 (min (e.occ.toNat + 1) 65535) }) ∧
      ((∃ e ∈ s.alerts.queue, e.alert.sameKey a = true) →
        (s.raise a).alerts.queue = s.alerts.queue.map fun e => if e.alert.sameKey a then e.merge a s.time else e) ∧
      ((∀ e ∈ s.alerts.queue, e.alert.sameKey a = false) → s.alerts.queue.length < 32 →
        s.alerts.queue.Pairwise (fun x y => y.level ≤ x.level) →
        ∃ before after, s.alerts.queue = before ++ after ∧ (∀ e ∈ before, l ≤ e.level) ∧
          (∀ e ∈ after, e.level < l) ∧
          (s.raise a).alerts.queue = before ++
            { alert := a, level := l, firstTime := s.time, lastTime := s.time, occ := 1 } :: after) ∧
      (∀ init last, (∀ e ∈ s.alerts.queue, e.alert.sameKey a = false) → 32 ≤ s.alerts.queue.length →
        s.alerts.queue.Pairwise (fun x y => y.level ≤ x.level) → s.alerts.queue = init ++ [last] →
        (l ≤ last.level → (s.raise a).alerts.queue = s.alerts.queue) ∧
        (last.level < l → ∃ before after, init = before ++ after ∧ (∀ e ∈ before, l ≤ e.level) ∧
          (∀ e ∈ after, e.level < l) ∧
          (s.raise a).alerts.queue = before ++
            { alert := a, level := l, firstTime := s.time, lastTime := s.time, occ := 1 } :: after)))

/-! ## The hall link -/

/-- A request frame addressed to the part joins the tail of the receive FIFO while that holds fewer than 4, and is
counted as an overrun when it holds 4; one addressed elsewhere is ignored; a frame whose CRC differs is counted, and so, as
framing faults, are bytes that are no frame, a frame of a class other than REQUEST, and a REQUEST without its name code
and tag. -/
def Obligations.HallFramesAreChecked : Prop :=
  ∀ (s : State) (name : Byte) (rq : Request) (bytes : List Byte), rq.args.length ≤ 1022 →
    (s.addressed rq.route = true → s.hall.rx.fifo.length < 4 →
      exec (.hallFrameReception (requestFrame name rq).wire) s = .next (s.setRx { s.hall.rx with
        isOpen := false, fifo := s.hall.rx.fifo ++ [{ name := name, rq := rq }] })) ∧
    (s.addressed rq.route = true → 4 ≤ s.hall.rx.fifo.length →
      exec (.hallFrameReception (requestFrame name rq).wire) s = .next (s.setRx { s.hall.rx with
        isOpen := false, overrun := BitVec.ofNat 16 (min (s.hall.rx.overrun.toNat + 1) 65535) })) ∧
    (s.addressed rq.route = false →
      exec (.hallFrameReception (requestFrame name rq).wire) s = .next (s.setRx { s.hall.rx with isOpen := false })) ∧
    (checkFrame bytes = .crc → exec (.hallFrameReception bytes) s = .next (s.setRx { s.hall.rx with
      isOpen := false, crc := BitVec.ofNat 16 (min (s.hall.rx.crc.toNat + 1) 65535) })) ∧
    (∀ cls route p, checkFrame bytes = .good cls route p → cls ≠ 0x31 →
      exec (.hallFrameReception bytes) s = .next (s.setRx { s.hall.rx with
        isOpen := false, framing := BitVec.ofNat 16 (min (s.hall.rx.framing.toNat + 1) 65535) })) ∧
    ((framingFault bytes ∨ ∃ f : OutFrame, f.payload.length ≤ 1024 ∧ bytes = f.wire ∧
        (f.cls ≠ 0x31 ∨ f.payload.length < 2)) →
      exec (.hallFrameReception bytes) s = .next (s.setRx { s.hall.rx with
        isOpen := false, framing := BitVec.ofNat 16 (min (s.hall.rx.framing.toNat + 1) 65535) }))

/-- PAUSE and RESUME set the pause state and nothing else. That a RESUME's grant is the next TRANSMIT_TAKE, and not part of
the RESUME, is the model's choice (notes/assumptions/7.md). While the state is PAUSED no frame is taken, and the frame in
transmission still completes: one whose completion acts on nothing leaves the link idle and changes nothing else. -/
def Obligations.PauseHoldsTheLink : Prop :=
  ∀ s : State, exec .pause s = .next { s with hall := { s.hall with paused := true } } ∧
    exec .resumeSymbol s = .next { s with hall := { s.hall with paused := false } } ∧
    (s.hall.paused = true → exec .transmitTake s = .next s) ∧
    (∀ st f, s.hall.tx = some { stream := st, frame := f, action := .nothing } →
      exec .transmitCompletion s =
        .next { s with hall := { s.hall with tx := none }, sent := s.sent ++ [.frame f.wire] })

/-- At a frame boundary the arbiter grants the highest priority that a ready stream holds; among the ready streams of
that level the winner is MAP while a dump holds the level by burst, and else the first in the order RESP, ALERT, FWD, SUM,
MAP after the stream the level's pointer names; that pointer then names the winner, the others stay, and the winner's
frame is taken. Away from a boundary nothing is taken.
What a take sends and what it leaves: the head reply; the head alert entry; the head forwarded frame; the summary of the
head SUM entry, built as the record stands, the first owed record's FINAL then filling the place; of a dump, the MAP_ROW
of its next row, or at its end the MAP_END. At the take of the MAP_END a dump with changes behind it begins again at row 0
while it has restarts left, and after the third is UNSTABLE, with DUMP_UNSTABLE; the next pending dump then starts. That
DUMP_UNSTABLE is raised at that take, and the dirty-behind flag cleared there, is the model's reading
(notes/assumptions/20.md); so are the MAP_END's key, of the record then in the slot, and its serial, present only while the
record dumped holds the frame (notes/assumptions/17.md). -/
def Obligations.GrantGoesToTheHighestPriority : Prop :=
  (∀ (s : State) (st0 : Stream), s.hall.tx = none → s.hall.paused = false → s.isReady st0 = true →
    ∃ t st, exec .transmitTake s = .next t ∧ t = (s.pointTo st).takeStream st ∧ s.isReady st = true ∧
      (∀ st', s.isReady st' = true → s.hall.prioOf st' ≤ s.hall.prioOf st) ∧
      ((s.inBurst = false ∨ s.hall.prioOf .map ≠ s.hall.prioOf st) →
        ∀ st', s.isReady st' = true → s.hall.prioOf st' = s.hall.prioOf st →
          (streamsAfter s.hall.rr[(s.hall.prioOf st).val]).idxOf st ≤
            (streamsAfter s.hall.rr[(s.hall.prioOf st).val]).idxOf st') ∧
      (s.inBurst = true → s.hall.prioOf .map = s.hall.prioOf st → st = .map) ∧
      t.hall.rr = s.hall.rr.set (s.hall.prioOf st).val st ∧ t.hall.prio = s.hall.prio ∧
      s.pointTo st = s.withHall { s.hall with rr := t.hall.rr }) ∧
  (∀ s : State, (s.hall.tx ≠ none ∨ s.hall.paused = true ∨ ∀ st, s.isReady st = false) →
    exec .transmitTake s = .next s) ∧
  ∀ s : State,
    (∀ f rest, s.hall.resp = f :: rest → s.takeStream .resp = s.withHall
      { s.hall with resp := rest, tx := some { stream := .resp, frame := f, action := .nothing } }) ∧
    (∀ f rest, s.hall.fwd = f :: rest → s.takeStream .fwd = s.withHall
      { s.hall with fwd := rest, tx := some { stream := .fwd, frame := f, action := .nothing } }) ∧
    (∀ e rest, s.alerts.queue = e :: rest → s.takeStream .alert =
      (s.withAlerts { s.alerts with queue := rest }).withHall (s.nowSending .alert 0x21 e.bytes .nothing)) ∧
    (∀ i k rest r, s.xport.sumQ = (i, k) :: rest → s.record i = some r →
      ∃ p, s.isSummaryOf (if k = .final then 1 else 2) i r p ∧
        (s.takeStream .sum).hall = s.nowSending .sum 0x22 p (if k = .final then .final i else .nothing) ∧
        (s.xport.owed = [] → (s.takeStream .sum).xport = { s.xport with sumQ := rest } ∧
          (s.takeStream .sum).dir = s.dir) ∧
        (∀ j js q, s.xport.owed = j :: js → s.record j = some q →
          (s.takeStream .sum).xport = { s.xport with sumQ := rest ++ [(j, .final)], owed := js } ∧
          (s.takeStream .sum).record j = some { q with flags := { q.flags with summaryOwed := false } } ∧
          s.slotsKeptBut (s.takeStream .sum) j) ∧
        s.changesOnly (s.takeStream .sum) [.dir, .xport, .hall]) ∧
    ∀ d, s.xport.dump = some d →
      (∀ n, d.aborted = false →
        ((d.nextRow < d.rows ∧ n = d.nextRow) ∨ (d.rows ≤ d.nextRow ∧ d.dirty = true ∧ d.restarts < 3 ∧ n = 0)) →
        ∃ k, k = (if d.nextRow < d.rows then d.restarts else d.restarts + 1) ∧
          (s.takeStream .map).hall = s.nowSending .map 0x23 ([natByte d.slot.val] ++ natHalf n ++ [natByte k]
            ++ natHalf d.width ++ (List.range d.width).map fun x => (s.die d.frame x n).byte) .mapRow ∧
          (s.takeStream .map).xport = { s.xport with dump := some { d with
            nextRow := n + 1
            restarts := k
            dirty := if d.nextRow < d.rows then d.dirty else false
            begun := true } } ∧
          s.changesOnly (s.takeStream .map) [.xport, .hall]) ∧
      ((d.aborted = true ∨ (d.rows ≤ d.nextRow ∧ (d.dirty = false ∨ 3 ≤ d.restarts))) →
        ∃ (unstable : Bool) (p : List Byte),
          unstable = (d.unstable || (!d.aborted && d.dirty)) ∧
          (s.takeStream .map).hall = s.nowSending .map 0x24 p
            (if d.origin = .chain ∧ d.gone = false then .mapEnd d.slot d.aborted else .nothing) ∧
          p = [natByte d.slot.val, if d.aborted then 3 else if unstable then 2 else 1, natByte d.restarts,
              bitsByte [d.live, (s.record d.slot).isSome, (s.dumpSerial d).isSome]]
            ++ keyBytes ((s.record d.slot).map fun r => r.key) ++ natHalf d.rows ++ timeBytes (s.dumpSerial d) ∧
          (s.takeStream .map).alerts = (if d.aborted = false ∧ d.dirty = true ∧ d.unstable = false then
              (s.raise { kind := .dumpUnstable, slot := some d.slot,
                         key := (s.record d.slot).map fun r => r.key }).alerts
            else s.alerts) ∧
          (s.xport.mapQ = [] → (s.takeStream .map).xport = { s.xport with dump := none }) ∧
          (∀ i o es r f, s.xport.mapQ = (i, o) :: es → s.record i = some r → r.frame = some f →
            (s.takeStream .map).xport = { s.xport with
              mapQ := es
              dump := some (newDump i o r f (s.recipeOf r)) }) ∧
          s.changesOnly (s.takeStream .map) [.alerts, .xport, .hall])

/-- The completion of a FINAL of a CLOSED record that owes no map makes it EXPORTED, at the tail of the export order
list, and leaves the rest of the record and every other slot alone; for an EXPORTED record it does nothing. Where the
record copy asks for the map and the record holds a frame, the slot joins the map pending list with origin CHAIN instead,
and its dump starts if nothing is pending and none runs.
The completion of a MAP_ROW of a dump with changes behind it begins the dump again from row 0 while it has restarts left;
after the third it marks it UNSTABLE and raises DUMP_UNSTABLE, the first time; with none behind, or once ABORTED, it does
nothing. The completion of a chained MAP_END makes a CLOSED record EXPORTED, or, after an ABORTED dump, queues its map
again; a record in any other state is left alone. Where the slot is on the map pending list already, its entry then becomes
CHAIN in its place, as R168 has it, and does not join the tail, as R173 has it: that is the model's reading
(notes/assumptions/16.md). -/
def Obligations.FinalCompletionExports : Prop :=
  (∀ (s : State) (f : OutFrame) (i : SlotId) (r : Record),
    s.hall.tx = some { stream := .sum, frame := f, action := .final i } → s.record i = some r → r.state = .closed →
    ((s.recipeOf r).exporting = .summary ∨ r.frame = none) →
    ∃ t, exec .transmitCompletion s = .next t ∧ t.record i = some { r with state := .exported } ∧
      t.dir.exportOrder = s.dir.exportOrder ++ [i] ∧ t.hall = { s.hall with tx := none } ∧
      t.sent = s.sent ++ [.frame f.wire] ∧ s.slotsKeptBut t i ∧ s.changesOnly t [.dir, .hall, .sent]) ∧
  ∀ (s : State) (st : Stream) (f : OutFrame) (i : SlotId) (r : Record), s.record i = some r →
    (s.hall.tx = some { stream := st, frame := f, action := .final i } →
      (∀ g, (r.state = .closed ∨ r.state = .exported) → (s.recipeOf r).exporting = .summaryMap → r.frame = some g →
        ∃ t, exec .transmitCompletion s = .next t ∧ s.chainsMap t i r g ∧ t.hall = { s.hall with tx := none } ∧
          t.sent = s.sent ++ [.frame f.wire] ∧ s.changesOnly t [.xport, .hall, .sent]) ∧
      (r.state = .exported → ((s.recipeOf r).exporting = .summary ∨ r.frame = none) →
        exec .transmitCompletion s =
          .next { s with hall := { s.hall with tx := none }, sent := s.sent ++ [.frame f.wire] })) ∧
    (∀ d, s.hall.tx = some { stream := st, frame := f, action := .mapRow } → s.xport.dump = some d →
      ∃ t, exec .transmitCompletion s = .next t ∧ t.hall = { s.hall with tx := none } ∧
        t.sent = s.sent ++ [.frame f.wire] ∧
        t.xport = { s.xport with dump := some (
          if d.dirty = false ∨ d.aborted = true then d
          else if d.restarts < 3 then { d with restarts := d.restarts + 1, nextRow := 0, dirty := false }
          else { d with unstable := true, dirty := false }) } ∧
        t.alerts = (if d.dirty = true ∧ d.aborted = false ∧ 3 ≤ d.restarts ∧ d.unstable = false then
            (s.raise { kind := .dumpUnstable, slot := some d.slot,
                       key := (s.record d.slot).map fun x => x.key }).alerts
          else s.alerts) ∧ s.changesOnly t [.alerts, .xport, .hall, .sent]) ∧
    (∀ aborted, s.hall.tx = some { stream := st, frame := f, action := .mapEnd i aborted } →
      ∃ t, exec .transmitCompletion s = .next t ∧ t.hall = { s.hall with tx := none } ∧
        t.sent = s.sent ++ [.frame f.wire] ∧
        (r.state ≠ .closed → s.changesOnly t [.hall, .sent]) ∧
        (r.state = .closed → aborted = false → t.record i = some { r with state := .exported } ∧
          t.dir.exportOrder = s.dir.exportOrder ++ [i] ∧ s.slotsKeptBut t i ∧ s.changesOnly t [.dir, .hall, .sent]) ∧
        (∀ g, r.state = .closed → aborted = true → r.frame = some g →
          s.chainsMap t i r g ∧ s.changesOnly t [.xport, .hall, .sent]))

/-! ## Requests: the part, its time and its cells -/

/-- The requests that read change nothing but their own take and reply, whatever the state; each returns the data its
layout gives. In that data the codes of absent values in IDENT and CELL_READ are notes/assumptions/18.md, the bytes of
BANK_READ's translation and bins parts notes/assumptions/19.md, and the polarity of CELL_READ's level bits
notes/assumptions/31.md: the model's readings. -/
def Obligations.ReadsChangeNothing : Prop :=
  ∀ (s : State) (rq : Request),
    (s.takesNow 0x01 rq → rq.args = [] → s.onlyReplies (.ident rq) 0x01 rq (okReply s.identBytes)) ∧
    (s.takesNow 0x03 rq → rq.args = [] → s.onlyReplies (.timeRead rq) 0x03 rq (okReply (wordBytes s.time))) ∧
    (s.takesNow 0x40 rq → rq.args = [] → s.onlyReplies (.waferList rq) 0x40 rq (okReply s.tableBytes)) ∧
    (∀ b i, s.takesNow 0x41 rq → rq.args = [b] → slotOfByte b = some i →
      s.onlyReplies (.waferRead rq) 0x41 rq (okReply (s.readBytes i))) ∧
    (∀ b c, s.takesNow 0x11 rq → rq.args = [b, 0] → cellOfByte b = some c →
      s.onlyReplies (.cellRead rq) 0x11 rq (okReply ((s.cell c).readBytes c))) ∧
    (∀ b lb p, s.takesNow 0x28 rq → rq.args.length = 6 → rq.args.head? = some b → bankOfByte b = some lb →
      (s.bank lb).part rq.args = some p →
      s.onlyReplies (.bankRead rq) 0x28 rq (okReply ((s.bank lb).headerBytes ++ p)))

/-- CELL_SET stores each setting its mask selects, clamping the recipe to 7 and the filter to 16 ms, and keeps the
others; a change to OFF sets the tracker to none yet; a change from OFF sends the symbol of the flow state. A code its
mask selects that names nothing refuses the whole request. That bit 7 of the mask, which names no setting, is ignored is the
model's choice (notes/assumptions/29.md). -/
def Obligations.CellSetStoresTheSettings : Prop :=
  ∀ (s : State) (rq : Request) (c : CellId) (m b2 b3 b4 b5 b6 b7 b8 : Byte) (mode : Mode) (order : ByteOrder)
    (lp up : Polarity), s.takesNow 0x10 rq → rq.args = [natByte c.val, m, b2, b3, b4, b5, b6, b7, b8] →
    ((if m.getLsbD 0 then modeOfByte b2 = some mode else mode = (s.cell c).cfg.mode) →
      (if m.getLsbD 1 then orderOfByte b3 = some order else order = (s.cell c).cfg.order) →
      (if m.getLsbD 4 then polarityOfByte b6 = some lp else lp = (s.cell c).cfg.loadPol) →
      (if m.getLsbD 5 then polarityOfByte b7 = some up else up = (s.cell c).cfg.unloadPol) →
      ∃ t g, exec (.cellSet rq) s = .next t ∧ (t.cell c).cfg = g ∧ g.mode = mode ∧ g.order = order ∧
        g.loadPol = lp ∧ g.unloadPol = up ∧
        g.recipe.val = (if m.getLsbD 2 then min b4.toNat 7 else (s.cell c).cfg.recipe.val) ∧
        g.grace = (if m.getLsbD 3 then b5 else (s.cell c).cfg.grace) ∧
        g.filter = (if m.getLsbD 6 then filterOfByte b8 else (s.cell c).cfg.filter) ∧
        (t.cell c).tracker =
          (if mode = .off ∧ (s.cell c).cfg.mode ≠ .off then none else (s.cell c).tracker) ∧
        (t.cell c).fifo = (s.cell c).fifo ∧ (t.cell c).flow = (s.cell c).flow ∧
        (t.cell c).counts = (s.cell c).counts ∧ (t.cell c).graceTimer = (s.cell c).graceTimer ∧
        t.sent = s.sent ++
          (if (s.cell c).cfg.mode = .off ∧ mode ≠ .off then [.flow c (s.cell c).flow] else []) ∧
        t.hall = s.answered 0x10 rq { status := .ok, data := natByte c.val :: g.bytes } ∧
        s.cellsKeptBut t c ∧ s.changesOnly t [.cells, .sent, .hall]) ∧
    ((m.getLsbD 0 = true ∧ modeOfByte b2 = none) ∨ (m.getLsbD 1 = true ∧ orderOfByte b3 = none) ∨
      (m.getLsbD 4 = true ∧ polarityOfByte b6 = none) ∨ (m.getLsbD 5 = true ∧ polarityOfByte b7 = none) →
      s.onlyReplies (.cellSet rq) 0x10 rq { status := .badArgument, data := [] })

/-- TIME_SET loads the time count with its value, most significant byte first, and returns it: no stamp, no timer and no
candidate moves. A clearing CELL_READ returns the six counts as they stood and sets them to 0, and nothing else of the cell; a
STOP_CLEAR returns the latch as it stood, clears it and deasserts the STOP line, and nothing else. In the CELL_READ's data
the codes of absent values are notes/assumptions/18.md and the polarity of the level bits notes/assumptions/31.md: the
model's readings. -/
def Obligations.SmallWritesTouchWhatTheyName : Prop :=
  ∀ (s : State) (rq : Request) (c : CellId),
    (∀ w : Word, s.takesNow 0x02 rq → rq.args = wordBytes w →
      exec (.timeSet rq) s =
        .next { s with time := w, hall := s.answered 0x02 rq { status := .ok, data := wordBytes w } }) ∧
    (s.takesNow 0x11 rq → rq.args = [natByte c.val, 1] →
      ∃ t, exec (.cellRead rq) s = .next t ∧
        t.cell c = { s.cell c with
          counts := { crc := 0, framing := 0, overrun := 0, duplicate := 0, gap := 0, late := 0 } } ∧
        t.hall = s.answered 0x11 rq { status := .ok, data := (s.cell c).readBytes c } ∧
        s.cellsKeptBut t c ∧ s.changesOnly t [.cells, .hall]) ∧
    (s.takesNow 0x13 rq → rq.args = [natByte c.val] →
      ∃ t, exec (.stopClear rq) s = .next t ∧ t.cell c = { s.cell c with stopLatch := false } ∧
        t.stopLine false c = false ∧
        t.hall = s.answered 0x13 rq { status := .ok, data := [if (s.cell c).stopLatch then 1 else 0] } ∧
        s.cellsKeptBut t c ∧ s.changesOnly t [.cells, .hall])

/-- CELL_RESTART of a cell empties its FIFO, sets its flow state to GO, sending GO if that was HOLD and the mode is not
OFF, its tracker to none yet, its counts and run counters to 0, its stamps absent and its suspect marks clear, keeps its
configuration and recognized levels, and seals its CLOSING and OPEN records with reason RESTART; the reply names them. -/
def Obligations.CellRestartFlushesAndSeals : Prop :=
  ∀ (s : State) (rq : Request) (c : CellId), s.takesNow 0x12 rq → rq.args = [natByte c.val] →
    ∃ t, exec (.cellRestart rq) s = .next t ∧ (t.cell c).fifo = [] ∧ (t.cell c).flow = .go ∧
      (t.cell c).tracker = none ∧ (t.cell c).counts = .zero ∧ (t.cell c).cfg = (s.cell c).cfg ∧
      (t.cell c).loadLine = (s.cell c).loadLine ∧ (t.cell c).unloadLine = (s.cell c).unloadLine ∧
      (t.cell c).pendingLoad = none ∧ (t.cell c).lastUnload = none ∧
      (∀ k : Fin 16, (t.cell c).runs[k] = 0 ∧ (t.cell c).suspects[k] = false) ∧
      (∀ i r, (s.closingOn c = some i ∨ s.openOn c = some i) → s.record i = some r →
        ∃ r', t.record i = some r' ∧ r'.state = .closed ∧ r'.reason = some .restart ∧ r'.key = r.key ∧
          r'.sealTime = some s.time ∧ r'.counts = r.counts) ∧
      t.sent = s.sent ++
        (if (s.cell c).flow = .hold ∧ (s.cell c).cfg.mode ≠ .off then [.flow c .go] else []) ∧
      t.hall = s.answered 0x12 rq
        { status := .ok, data := [indexByte (s.closingOn c), indexByte (s.openOn c)] } ∧
      (s.closingOn c = none → s.openOn c = none →
        (t.cell c).stopLatch = false ∧ t.stopLine false c = false ∧ s.cellsKeptBut t c ∧ s.changesOnly t [.cells, .hall, .sent])

/-! ## Requests: the banks -/

/-- BANK_OPEN of an IDLE or READY bank makes it LOADING with the requester as owner, keeping its contents with KEEP and
setting all of them to the CLEAR values with CLEAR; in any other state it is refused whatever its option. BANK_DROP of a
LOADING bank, from any requester, makes it IDLE and keeps its contents; in any other state it is refused. BANK_CLOSE by
the owner makes a bank that passes both commit checks READY, and answers LOAD_INVALID with no change otherwise. -/
def Obligations.BankLoadsOpenCloseAndDrop : Prop :=
  ∀ (s : State) (rq : Request) (lb : BankId) (opt : Byte),
    (s.takesNow 0x20 rq → rq.args = [lb.code, opt] →
      (((s.bank lb).state = .idle ∨ (s.bank lb).state = .ready) → opt = 0 ∨ opt = 1 →
        ∃ t, exec (.bankOpen rq) s = .next t ∧
          t.bank lb = { s.bank lb with
            state := .loading
            owner := some (requesterOf rq)
            recipes := if opt = 1 then .replicate 8 .clear else (s.bank lb).recipes
            xlate := if opt = 1 then [] else (s.bank lb).xlate
            bins := if opt = 1 then .replicate 64 { cls := .fail, limit := 10000 } else (s.bank lb).bins
            zones := if opt = 1 then .replicate 8 .clear else (s.bank lb).zones } ∧
          t.bank lb.other = s.bank lb.other ∧ t.banks.genCount = s.banks.genCount ∧
          t.hall = s.answered 0x20 rq { status := .ok, data := [] } ∧ s.changesOnly t [.banks, .hall]) ∧
      ((s.bank lb).state ≠ .idle → (s.bank lb).state ≠ .ready →
        s.onlyReplies (.bankOpen rq) 0x20 rq { status := .refusedState, data := [] })) ∧
    (s.takesNow 0x26 rq → rq.args = [lb.code] →
      ((s.bank lb).state = .loading →
        ∃ t, exec (.bankDrop rq) s = .next t ∧ t.bank lb = { s.bank lb with state := .idle, owner := none } ∧
          t.bank lb.other = s.bank lb.other ∧ t.banks.genCount = s.banks.genCount ∧
          t.hall = s.answered 0x26 rq { status := .ok, data := [] } ∧ s.changesOnly t [.banks, .hall]) ∧
      ((s.bank lb).state ≠ .loading →
        s.onlyReplies (.bankDrop rq) 0x26 rq { status := .refusedState, data := [] })) ∧
    (s.takesNow 0x25 rq → rq.args = [lb.code] → (s.bank lb).state = .loading →
      (s.bank lb).owner = some (requesterOf rq) →
      ((∃ r : Fin 8, (s.bank lb).recipes[r.val].inUse = true) →
        (∀ r : Fin 8, (s.bank lb).recipes[r.val].inUse = true →
          (s.bank lb).bins[(s.bank lb).recipes[r.val].unknownBin.val].cls ≠ .pass) →
        ∃ t, exec (.bankClose rq) s = .next t ∧ t.bank lb = { s.bank lb with state := .ready, owner := none } ∧
          t.bank lb.other = s.bank lb.other ∧ t.banks.genCount = s.banks.genCount ∧
          t.hall = s.answered 0x25 rq { status := .ok, data := [] } ∧ s.changesOnly t [.banks, .hall]) ∧
      ((∀ r : Fin 8, (s.bank lb).recipes[r.val].inUse = false) →
        s.onlyReplies (.bankClose rq) 0x25 rq { status := .loadInvalid, data := [0xFF] }) ∧
      (∀ r : Fin 8, (s.bank lb).recipes[r.val].inUse = true →
        (s.bank lb).bins[(s.bank lb).recipes[r.val].unknownBin.val].cls = .pass →
        (∀ r' : Fin 8, r' < r → (s.bank lb).recipes[r'.val].inUse = true →
          (s.bank lb).bins[(s.bank lb).recipes[r'.val].unknownBin.val].cls ≠ .pass) →
        s.onlyReplies (.bankClose rq) 0x25 rq { status := .loadInvalid, data := [natByte r.val] }))

/-- A bank write, and a BANK_CLOSE, of a bank that is not LOADING, or from a requester that is not its load owner, is
refused with REFUSED_STATE and writes nothing. -/
def Obligations.BankWritesNeedTheOwner : Prop :=
  ∀ (i : Instr) (s : State) (rq : Request) (name : Byte) (lb : BankId), i.nameCode = some name → i.request = some rq →
    i ∈ [.bankRecipe rq, .bankXlate rq, .bankClass rq, .bankZone rq, .bankClose rq] →
    (i = .bankRecipe rq → rq.args.length = 24) → (i = .bankZone rq → rq.args.length = 11) →
    (i = .bankClose rq → rq.args.length = 1) →
    (i = .bankXlate rq → rq.args.length = 5 + (rq.args.getD 4 0).toNat) →
    (i = .bankClass rq → rq.args.length = 3 + 3 * (rq.args.getD 2 0).toNat) →
    s.takesNow name rq → rq.args.head? = some lb.code →
    ((s.bank lb).state ≠ .loading ∨ (s.bank lb).owner ≠ some (requesterOf rq)) →
    s.onlyReplies i name rq { status := .refusedState, data := [] }

/-- The owner's BANK_RECIPE stores all fourteen fields of one recipe with the manual's clamps, G against the stored
product of W and H, returns what it stored, and changes nothing else of the bank. -/
def Obligations.BankRecipeStoresWithClamps : Prop :=
  ∀ (s : State) (rq : Request) (lb : BankId) (r : Fin 8) (use pol den ex sites run unk per : Byte)
    (w h lim k m : Half) (g : Word) (inUse : Bool) (policy : Policy) (denom : Denominator) (exporting : ExportOption),
    s.takesNow 0x21 rq → (s.bank lb).state = .loading → (s.bank lb).owner = some (requesterOf rq) →
    rq.args = [lb.code, natByte r.val, use] ++ halfBytes w ++ halfBytes h ++ wordBytes g ++ [sites, pol, den]
      ++ halfBytes lim ++ halfBytes k ++ halfBytes m ++ [run, unk, ex, per] →
    boolOfByte use = some inUse → policyOfByte pol = some policy → denominatorOfByte den = some denom →
    exportOfByte ex = some exporting →
    ∃ t rc, exec (.bankRecipe rq) s = .next t ∧
      t.bank lb = { s.bank lb with recipes := (s.bank lb).recipes.set r.val rc } ∧
      rc.inUse = inUse ∧ rc.width.toNat = max 1 (min w.toNat 512) ∧ rc.height.toNat = max 1 (min h.toNat 512) ∧
      rc.gross.toNat = max 1 (min g.toNat (rc.width.toNat * rc.height.toNat)) ∧
      rc.siteCount.toNat = max 1 (min sites.toNat 16) ∧ rc.policy = policy ∧ rc.denominator = denom ∧
      rc.yieldLimit.toNat = min lim.toNat 10000 ∧ rc.interval = k ∧ rc.minSample = m ∧ rc.runLimit = run ∧
      rc.unknownBin.val = min unk.toNat 63 ∧ rc.exporting = exporting ∧ rc.period = per ∧
      t.bank lb.other = s.bank lb.other ∧ t.banks.genCount = s.banks.genCount ∧
      t.hall = s.answered 0x21 rq { status := .ok, data := natByte r.val :: rc.bytes } ∧
      s.changesOnly t [.banks, .hall]

/-- The owner's BANK_XLATE writes its list into one recipe's translation row, upward from the first soft bin, a value
above 63 as UNASSIGNED, stops past soft bin 511, reports the count written, and leaves every other entry alone. -/
def Obligations.BankXlateWritesTheRow : Prop :=
  ∀ (s : State) (rq : Request) (lb : BankId) (r : Fin 8) (first : Half) (vs : List Byte), s.takesNow 0x22 rq →
    s.storesCanonical → (s.bank lb).state = .loading → (s.bank lb).owner = some (requesterOf rq) → vs.length ≤ 64 →
    rq.args = [lb.code, natByte r.val] ++ halfBytes first ++ [natByte vs.length] ++ vs →
    ∃ t, exec (.bankXlate rq) s = .next t ∧
      (∀ n, n < vs.length → first.toNat + n ≤ 511 → storeRead unassigned (t.bank lb).xlate
        (512 * r.val + (first.toNat + n)) = (if 63 < (vs.getD n 0).toNat then 0xFF else vs.getD n 0)) ∧
      (∀ a, (∀ n, n < vs.length → first.toNat + n ≤ 511 → a ≠ 512 * r.val + (first.toNat + n)) →
        storeRead unassigned (t.bank lb).xlate a = storeRead unassigned (s.bank lb).xlate a) ∧
      t.bank lb = { s.bank lb with xlate := (t.bank lb).xlate } ∧ t.bank lb.other = s.bank lb.other ∧
      t.banks.genCount = s.banks.genCount ∧
      t.hall = s.answered 0x22 rq
        { status := .ok, data := [natByte (min vs.length (512 - first.toNat))] } ∧
      s.changesOnly t [.banks, .hall]

/-- The owner's BANK_CLASS writes its entries into the hall bin table, upward from the first bin, a limit above 10000 as
10000, stops past B63, reports the count written, and leaves every other bin alone; one bad class code anywhere refuses
it. -/
def Obligations.BankClassWritesTheBins : Prop :=
  ∀ (s : State) (rq : Request) (lb : BankId) (first : Byte) (es : List (Byte × Half)), s.takesNow 0x23 rq →
    (s.bank lb).state = .loading → (s.bank lb).owner = some (requesterOf rq) → es.length ≤ 16 →
    rq.args = [lb.code, first, natByte es.length] ++ es.flatMap (fun e => e.1 :: halfBytes e.2) →
    ((∀ e ∈ es, classOfByte e.1 ≠ none) →
      ∃ t, exec (.bankClass rq) s = .next t ∧
        (∀ (n : Nat) (b : Fin 64) (e : Byte × Half), es[n]? = some e → b.val = first.toNat + n →
          some (t.bank lb).bins[b.val].cls = classOfByte e.1 ∧
          (t.bank lb).bins[b.val].limit.toNat = min e.2.toNat 10000) ∧
        (∀ b : Fin 64, (∀ n, n < es.length → b.val ≠ first.toNat + n) →
          (t.bank lb).bins[b.val] = (s.bank lb).bins[b.val]) ∧
        t.bank lb = { s.bank lb with bins := (t.bank lb).bins } ∧ t.bank lb.other = s.bank lb.other ∧
        t.banks.genCount = s.banks.genCount ∧
        t.hall = s.answered 0x23 rq { status := .ok, data := [natByte (min es.length (64 - first.toNat))] } ∧
        s.changesOnly t [.banks, .hall]) ∧
    ((∃ e ∈ es, classOfByte e.1 = none) →
      s.onlyReplies (.bankClass rq) 0x23 rq { status := .badArgument, data := [] })

/-- The owner's BANK_ZONE stores all six fields of one zone entry with the manual's clamps, returns what it stored, and
changes nothing else of the bank; zone 0 and zones above 8 are refused. -/
def Obligations.BankZoneStoresWithClamps : Prop :=
  ∀ (s : State) (rq : Request) (lb : BankId) (z en nx ny : Byte) (x y lim : Half) (on : Bool), s.takesNow 0x24 rq →
    (s.bank lb).state = .loading → (s.bank lb).owner = some (requesterOf rq) →
    rq.args = [lb.code, z, en] ++ halfBytes x ++ [nx] ++ halfBytes y ++ [ny] ++ halfBytes lim →
    boolOfByte en = some on →
    (∀ k : Fin 8, z = natByte (k.val + 1) →
      ∃ t v, exec (.bankZone rq) s = .next t ∧
        t.bank lb = { s.bank lb with zones := (s.bank lb).zones.set k.val v } ∧ v.enabled = on ∧
        v.xCompare.toNat = min x.toNat 511 ∧ v.xBits.toNat = min nx.toNat 9 ∧ v.yCompare.toNat = min y.toNat 511 ∧
        v.yBits.toNat = min ny.toNat 9 ∧ v.limit.toNat = min lim.toNat 10000 ∧
        t.bank lb.other = s.bank lb.other ∧ t.banks.genCount = s.banks.genCount ∧
        t.hall = s.answered 0x24 rq { status := .ok, data := z :: v.bytes } ∧ s.changesOnly t [.banks, .hall]) ∧
    (z = 0 ∨ 8 < z.toNat → s.onlyReplies (.bankZone rq) 0x24 rq { status := .badArgument, data := [] })

/-- BANK_LIVE of a READY bank raises the generation counter by 1, or to 1 after 4,294,967,295, gives the new value to
the bank, makes it LIVE and sends a LIVE other bank to RETIRING, or to IDLE when nothing is bound to it; no record and no
content changes. In any other state it is refused. -/
def Obligations.BankLiveActivates : Prop :=
  ∀ (s : State) (rq : Request) (lb : BankId) (g : Word), s.takesNow 0x27 rq → rq.args = [lb.code] →
    g = (if s.banks.genCount = 0xFFFFFFFF then 1 else s.banks.genCount + 1) →
    ((s.bank lb).state = .ready →
      ∃ t, exec (.bankLive rq) s = .next t ∧ t.banks.genCount = g ∧
        t.bank lb = { s.bank lb with state := .live, gen := g } ∧
        t.bank lb.other = { s.bank lb.other with
          state := if (s.bank lb.other).state = .live then
              (if (s.bank lb.other).bound = 0 then .idle else .retiring) else (s.bank lb.other).state } ∧
        t.hall = s.answered 0x27 rq { status := .ok, data := wordBytes g } ∧ s.changesOnly t [.banks, .hall]) ∧
    ((s.bank lb).state ≠ .ready → s.onlyReplies (.bankLive rq) 0x27 rq { status := .refusedState, data := [] })

/-! ## Requests: alerts, streams, the link -/

/-- ALERT_SET stores the levels of its pairs in list order, a level above 7 as 7, and, when its mask says so, the stop
threshold, 0 as 1 and above 8 as 8; it moves no entry of the queue and no latch. STREAM_SET stores the priorities its
mask selects, above 3 as 3, and the burst setting, and moves no pointer and no frame. That the mask bits which name no
setting (bits 1 to 7 of ALERT_SET's, bits 6 and 7 of STREAM_SET's) are ignored is the model's choice
(notes/assumptions/29.md). -/
def Obligations.AlertAndStreamSettingsAreStored : Prop :=
  ∀ (s : State) (rq : Request) (m : Byte),
    (∀ (th : Byte) (ps : List (AlertKind × Byte)), s.takesNow 0x30 rq → ps.length ≤ 15 →
      rq.args = [m, th, natByte ps.length] ++ ps.flatMap (fun p => [p.1.code, p.2]) →
      ∃ t, exec (.alertSet rq) s = .next t ∧ t.alerts.queue = s.alerts.queue ∧
        (∀ k : AlertKind, (t.alerts.levels[k.index.val]).val =
          (match (ps.reverse.find? fun p => p.1 == k) with
            | none => (s.alerts.levels[k.index.val]).val
            | some p => min p.2.toNat 7)) ∧
        t.alerts.threshold.val =
          (if m.getLsbD 0 then max 1 (min th.toNat 8) else s.alerts.threshold.val) ∧
        t.hall = s.answered 0x30 rq { status := .ok, data := t.alerts.tableBytes } ∧
        s.changesOnly t [.alerts, .hall]) ∧
    (∀ (p0 p1 p2 p3 p4 b : Byte) (on : Bool), s.takesNow 0x31 rq → rq.args = [m, p0, p1, p2, p3, p4, b] →
      (if m.getLsbD 5 then boolOfByte b = some on else on = s.hall.burst) →
      ∃ t, exec (.streamSet rq) s = .next t ∧
        (∀ st : Stream, (t.hall.prioOf st).val =
          (if m.getLsbD st.index.val then min ([p0, p1, p2, p3, p4].getD st.index.val 0).toNat 3
            else (s.hall.prioOf st).val)) ∧
        t.hall = { s.answered 0x31 rq { status := .ok, data :=
            [natByte (t.hall.prioOf .resp).val, natByte (t.hall.prioOf .alert).val, natByte (t.hall.prioOf .fwd).val,
              natByte (t.hall.prioOf .sum).val, natByte (t.hall.prioOf .map).val, if on then 1 else 0] } with
          prio := t.hall.prio, burst := on } ∧
        s.changesOnly t [.hall])

/-- LINK_READ returns the receive counts, the pause state, the occupancies (the RESP one without its own reply) and the
dump in progress; with its clear option it sets the three receive counts to 0; it changes nothing else of the part. That
the receive FIFO's occupancy is reported without the request itself is the model's reading (notes/assumptions/25.md). Its
reply's eight bytes for a dump that is not in progress are a free value of the model (notes/assumptions/4.md), so nothing
is said of them. -/
def Obligations.LinkReadReportsAndClears : Prop :=
  ∀ (s : State) (rq : Request) (clear : Bool) (p : Reply), s.takesNow 0x60 rq →
    rq.args = [if clear then 1 else 0] →
    p = { status := .ok,
          data := (s.setRx { s.hall.rx with fifo := s.hall.rx.fifo.tail }).linkBytes ++ s.dumpBytes } →
    ∃ t, exec (.linkRead rq) s = .next t ∧
      t.hall = { s.hall with
        resp := s.hall.resp ++ s.repliesTo 0x60 rq p
        rx := { fifo := s.hall.rx.fifo.tail, isOpen := s.hall.rx.isOpen
                crc := if clear then 0 else s.hall.rx.crc
                framing := if clear then 0 else s.hall.rx.framing
                overrun := if clear then 0 else s.hall.rx.overrun } } ∧
      s.changesOnly t [.hall, .draws]

/-! ## Requests: wafer records and maps -/

/-- WAFER_MARK puts the requester's tag on the record, wherever it was before, returns the record with that tag among
the holders, and changes nothing else; for a FREE slot it is answered NO_WAFER, for a slot above 23 BAD_ARGUMENT, and
the tag stays. -/
def Obligations.WaferMarkMovesTheTag : Prop :=
  ∀ (s : State) (rq : Request), s.takesNow 0x42 rq →
    (∀ i : SlotId, rq.args = [natByte i.val] →
      ((s.record i).isSome = true →
        ∃ t, exec (.waferMark rq) s = .next t ∧ t.tag (requesterOf rq) = some i ∧
          (∀ q, q ≠ requesterOf rq → t.tag q = s.tag q) ∧
          t.hall = s.answered 0x42 rq { status := .ok, data := t.readBytes i } ∧ s.changesOnly t [.tags, .hall]) ∧
      (s.record i = none → s.onlyReplies (.waferMark rq) 0x42 rq { status := .noWafer, data := [] })) ∧
    (∀ b : Byte, rq.args = [b] → 23 < b.toNat →
      s.onlyReplies (.waferMark rq) 0x42 rq { status := .badArgument, data := [] })

/-- WAFER_SEAL by the holder of a tag on an OPEN or CLOSING record seals it with reason HOST and returns its results.
For any other slot from 0 to 23 it is answered CHANGED and only the requester's tag is cleared; in every such case that
tag becomes absent. A slot above 23 is answered BAD_ARGUMENT and the tag stays. -/
def Obligations.WaferSealNeedsTheTag : Prop :=
  ∀ (s : State) (rq : Request), s.takesNow 0x43 rq →
    (∀ i : SlotId, rq.args = [natByte i.val] →
      (∀ r, s.tag (requesterOf rq) = some i → s.record i = some r → (r.state = .opened ∨ r.state = .closing) →
        ∃ t r', exec (.waferSeal rq) s = .next t ∧ t.record i = some r' ∧ r'.state = .closed ∧
          r'.reason = some .host ∧ r'.sealTime = some s.time ∧
          r'.closeStart = (if r.state = .closing then r.closeStart else some s.time) ∧ r'.counts = r.counts ∧
          (∀ q, t.tag q ≠ some i) ∧ t.tag (requesterOf rq) = none ∧
          (r.state = .closing → (t.cell r.cell).graceTimer = none) ∧
          t.hall = s.answered 0x43 rq { status := .ok, data := r'.sealBytes } ∧
          s.changesOnly t [.cells, .banks, .dir, .alerts, .xport, .tags, .hall]) ∧
      ((s.tag (requesterOf rq) ≠ some i ∨ (∀ r, s.record i = some r → r.state = .closed ∨ r.state = .exported)) →
        ∃ t, exec (.waferSeal rq) s = .next t ∧ t.tag (requesterOf rq) = none ∧
          (∀ q, q ≠ requesterOf rq → t.tag q = s.tag q) ∧
          t.hall = s.answered 0x43 rq { status := .changed, data := [] } ∧ s.changesOnly t [.tags, .hall])) ∧
    (∀ b : Byte, rq.args = [b] → 23 < b.toNat →
      s.onlyReplies (.waferSeal rq) 0x43 rq { status := .badArgument, data := [] })

/-- WAFER_DROP frees the record in a slot in any state, WAFER_FREE only an EXPORTED one: the slot becomes FREE, its
frame goes to the tail of the free-frame list, no tag is left on it, and the reply gives its key and the state it had. Its
dump ends ABORTED, and a frame of it in transmission acts on nothing; it leaves the SUM queue, the owed list and the map
pending list, and the place its FINAL leaves goes to the first record that is owed one; a CLOSING record's grace timer
stops; the bound count falls, and a RETIRING bank whose count falls to 0 becomes IDLE. Every other record stays as it is,
but for SUMMARY_OWED of the one queued.
A FREE slot is answered NO_WAFER, and WAFER_FREE refuses any other state. -/
def Obligations.DropAndFreeEmptyTheSlot : Prop :=
  ∀ (s : State) (rq : Request) (i : SlotId) (i' : Instr) (name : Byte), s.takesNow name rq →
    rq.args = [natByte i.val] → ((i' = .waferDrop rq ∧ name = 0x44) ∨ (i' = .waferFree rq ∧ name = 0x45)) →
    (s.record i = none → s.onlyReplies i' name rq { status := .noWafer, data := [] }) ∧
    (∀ r, s.record i = some r → name = 0x45 → r.state ≠ .exported →
      s.onlyReplies i' name rq { status := .refusedState, data := [] }) ∧
    (∀ r, s.record i = some r → (name = 0x44 ∨ r.state = .exported) →
      ∃ t, exec i' s = .next t ∧ t.record i = none ∧ (∀ q, t.tag q ≠ some i) ∧ s.freed t i r ∧
        t.hall = { s.answered name rq { status := .ok, data := wordBytes r.key.lot ++ [r.key.wafer, r.state.code] } with
          tx := t.hall.tx } ∧
        s.changesOnly t [.cells, .banks, .dir, .maps, .xport, .hall, .tags])

/-- WAFER_SEND of a CLOSED or EXPORTED record answers PRESENT and adds nothing when its FINAL is queued or owed;
otherwise the FINAL joins the tail of the SUM queue while that has room, or takes the place of the oldest PROGRESS entry
at a full queue, and the answer is QUEUED; with 8 FINAL entries queued the record gets SUMMARY_OWED and joins the tail of
the owed list, and the answer is OWED. For an OPEN or CLOSING record it is refused, and for a FREE slot it is NO_WAFER. -/
def Obligations.WaferSendQueuesTheFinal : Prop :=
  ∀ (s : State) (rq : Request) (i : SlotId), s.takesNow 0x46 rq → rq.args = [natByte i.val] →
    (s.record i = none → s.onlyReplies (.waferSend rq) 0x46 rq { status := .noWafer, data := [] }) ∧
    (∀ r, s.record i = some r → (r.state = .opened ∨ r.state = .closing) →
      s.onlyReplies (.waferSend rq) 0x46 rq { status := .refusedState, data := [] }) ∧
    (∀ r, s.record i = some r → (r.state = .closed ∨ r.state = .exported) →
      (((i, SumKind.final) ∈ s.xport.sumQ ∨ i ∈ s.xport.owed) →
        s.onlyReplies (.waferSend rq) 0x46 rq { status := .ok, data := [2] }) ∧
      ((i, SumKind.final) ∉ s.xport.sumQ → i ∉ s.xport.owed → s.xport.sumQ.length < 8 →
        ∃ t, exec (.waferSend rq) s = .next t ∧
          t.xport = { s.xport with sumQ := s.xport.sumQ ++ [(i, .final)] } ∧
          t.hall = s.answered 0x46 rq { status := .ok, data := [1] } ∧ s.changesOnly t [.xport, .hall]) ∧
      (∀ before j after, (i, SumKind.final) ∉ s.xport.sumQ → i ∉ s.xport.owed → 8 ≤ s.xport.sumQ.length →
        s.xport.sumQ = before ++ (j, .progress) :: after → (∀ e ∈ before, e.2 = .final) →
        ∃ t, exec (.waferSend rq) s = .next t ∧
          t.xport = { s.xport with sumQ := before ++ after ++ [(i, .final)] } ∧
          t.hall = s.answered 0x46 rq { status := .ok, data := [1] } ∧ s.changesOnly t [.xport, .hall]) ∧
      ((i, SumKind.final) ∉ s.xport.sumQ → i ∉ s.xport.owed → 8 ≤ s.xport.sumQ.length →
        (∀ e ∈ s.xport.sumQ, e.2 = .final) →
        ∃ t, exec (.waferSend rq) s = .next t ∧ t.xport = { s.xport with owed := s.xport.owed ++ [i] } ∧
          t.record i = some { r with flags := { r.flags with summaryOwed := true } } ∧ s.slotsKeptBut t i ∧
          t.dir.exportOrder = s.dir.exportOrder ∧ t.dir.sealOrder = s.dir.sealOrder ∧
          t.hall = s.answered 0x46 rq { status := .ok, data := [3] } ∧ s.changesOnly t [.dir, .xport, .hall]))

/-- MAP_SEND of a record that holds a frame starts its dump at once, from row 0 with its recipe's grid, when no dump
runs and the list is empty, and else puts it at the tail of the map pending list, once; without a frame it is refused,
and a FREE slot is NO_WAFER. MAP_STOP marks the dump in progress ABORTED and names its slot, or changes nothing. -/
def Obligations.MapRequestsStartAndStopDumps : Prop :=
  ∀ (s : State) (rq : Request),
    (∀ i : SlotId, s.takesNow 0x50 rq → rq.args = [natByte i.val] →
      (s.record i = none → s.onlyReplies (.mapSend rq) 0x50 rq { status := .noWafer, data := [] }) ∧
      (∀ r, s.record i = some r → r.frame = none →
        s.onlyReplies (.mapSend rq) 0x50 rq { status := .refusedState, data := [] }) ∧
      (∀ r f, s.record i = some r → r.frame = some f →
        ((∃ e ∈ s.xport.mapQ, e.1 = i) →
          s.onlyReplies (.mapSend rq) 0x50 rq { status := .ok, data := [2] }) ∧
        (s.xport.mapQ = [] → s.xport.dump = none →
          ∃ t d, exec (.mapSend rq) s = .next t ∧ t.xport = { s.xport with dump := some d } ∧ d.slot = i ∧
            d.frame = f ∧ d.origin = .request ∧ d.nextRow = 0 ∧ d.rows = (s.recipeOf r).height.toNat ∧
            d.width = (s.recipeOf r).width.toNat ∧ d.restarts = 0 ∧
            (d.live = true ↔ r.state = .opened ∨ r.state = .closing) ∧ d.dirty = false ∧ d.unstable = false ∧
            d.aborted = false ∧ t.hall = s.answered 0x50 rq { status := .ok, data := [3] } ∧
            s.changesOnly t [.xport, .hall]) ∧
        ((∀ e ∈ s.xport.mapQ, e.1 ≠ i) → s.xport.dump ≠ none →
          ∃ t, exec (.mapSend rq) s = .next t ∧
            t.xport = { s.xport with mapQ := s.xport.mapQ ++ [(i, .request)] } ∧
            t.hall = s.answered 0x50 rq { status := .ok, data := [1] } ∧ s.changesOnly t [.xport, .hall]))) ∧
    (s.takesNow 0x51 rq → rq.args = [] →
      (s.xport.dump = none → s.onlyReplies (.mapStop rq) 0x51 rq { status := .ok, data := [0xFF] }) ∧
      (∀ d, s.xport.dump = some d →
        ∃ t, exec (.mapStop rq) s = .next t ∧ t.xport = { s.xport with dump := some { d with aborted := true } } ∧
          t.hall = s.answered 0x51 rq { status := .ok, data := [natByte d.slot.val] } ∧
          s.changesOnly t [.xport, .hall]))
end

