-- ==== Sys2Proof/Laws/State.lean ====
section
/-! SUPPORT. What each whole-block update does to each block of the state: one lemma for each field of each update, true
by unfolding, so that no later proof unfolds a record update. -/

namespace Sys2Proof.Machine

variable (s : State)

@[simp] theorem State.withCells_cells (v : Vector Cell 8) : (s.withCells v).cells = v := rfl
@[simp] theorem State.withCells_engine (v : Vector Cell 8) : (s.withCells v).engine = s.engine := rfl
@[simp] theorem State.withCells_time (v : Vector Cell 8) : (s.withCells v).time = s.time := rfl
@[simp] theorem State.withCells_banks (v : Vector Cell 8) : (s.withCells v).banks = s.banks := rfl
@[simp] theorem State.withCells_dir (v : Vector Cell 8) : (s.withCells v).dir = s.dir := rfl
@[simp] theorem State.withCells_maps (v : Vector Cell 8) : (s.withCells v).maps = s.maps := rfl
@[simp] theorem State.withCells_alerts (v : Vector Cell 8) : (s.withCells v).alerts = s.alerts := rfl
@[simp] theorem State.withCells_xport (v : Vector Cell 8) : (s.withCells v).xport = s.xport := rfl
@[simp] theorem State.withCells_hall (v : Vector Cell 8) : (s.withCells v).hall = s.hall := rfl
@[simp] theorem State.withCells_tags (v : Vector Cell 8) : (s.withCells v).tags = s.tags := rfl
@[simp] theorem State.withCells_node (v : Vector Cell 8) : (s.withCells v).node = s.node := rfl
@[simp] theorem State.withCells_straps (v : Vector Cell 8) : (s.withCells v).straps = s.straps := rfl
@[simp] theorem State.withCells_draws (v : Vector Cell 8) : (s.withCells v).draws = s.draws := rfl
@[simp] theorem State.withCells_sent (v : Vector Cell 8) : (s.withCells v).sent = s.sent := rfl
@[simp] theorem State.withCells_pending (v : Vector Cell 8) : (s.withCells v).pending = s.pending := rfl

@[simp] theorem State.withEngine_cells (v : CellId) : (s.withEngine v).cells = s.cells := rfl
@[simp] theorem State.withEngine_engine (v : CellId) : (s.withEngine v).engine = v := rfl
@[simp] theorem State.withEngine_time (v : CellId) : (s.withEngine v).time = s.time := rfl
@[simp] theorem State.withEngine_banks (v : CellId) : (s.withEngine v).banks = s.banks := rfl
@[simp] theorem State.withEngine_dir (v : CellId) : (s.withEngine v).dir = s.dir := rfl
@[simp] theorem State.withEngine_maps (v : CellId) : (s.withEngine v).maps = s.maps := rfl
@[simp] theorem State.withEngine_alerts (v : CellId) : (s.withEngine v).alerts = s.alerts := rfl
@[simp] theorem State.withEngine_xport (v : CellId) : (s.withEngine v).xport = s.xport := rfl
@[simp] theorem State.withEngine_hall (v : CellId) : (s.withEngine v).hall = s.hall := rfl
@[simp] theorem State.withEngine_tags (v : CellId) : (s.withEngine v).tags = s.tags := rfl
@[simp] theorem State.withEngine_node (v : CellId) : (s.withEngine v).node = s.node := rfl
@[simp] theorem State.withEngine_straps (v : CellId) : (s.withEngine v).straps = s.straps := rfl
@[simp] theorem State.withEngine_draws (v : CellId) : (s.withEngine v).draws = s.draws := rfl
@[simp] theorem State.withEngine_sent (v : CellId) : (s.withEngine v).sent = s.sent := rfl
@[simp] theorem State.withEngine_pending (v : CellId) : (s.withEngine v).pending = s.pending := rfl

@[simp] theorem State.withTime_cells (v : Word) : (s.withTime v).cells = s.cells := rfl
@[simp] theorem State.withTime_engine (v : Word) : (s.withTime v).engine = s.engine := rfl
@[simp] theorem State.withTime_time (v : Word) : (s.withTime v).time = v := rfl
@[simp] theorem State.withTime_banks (v : Word) : (s.withTime v).banks = s.banks := rfl
@[simp] theorem State.withTime_dir (v : Word) : (s.withTime v).dir = s.dir := rfl
@[simp] theorem State.withTime_maps (v : Word) : (s.withTime v).maps = s.maps := rfl
@[simp] theorem State.withTime_alerts (v : Word) : (s.withTime v).alerts = s.alerts := rfl
@[simp] theorem State.withTime_xport (v : Word) : (s.withTime v).xport = s.xport := rfl
@[simp] theorem State.withTime_hall (v : Word) : (s.withTime v).hall = s.hall := rfl
@[simp] theorem State.withTime_tags (v : Word) : (s.withTime v).tags = s.tags := rfl
@[simp] theorem State.withTime_node (v : Word) : (s.withTime v).node = s.node := rfl
@[simp] theorem State.withTime_straps (v : Word) : (s.withTime v).straps = s.straps := rfl
@[simp] theorem State.withTime_draws (v : Word) : (s.withTime v).draws = s.draws := rfl
@[simp] theorem State.withTime_sent (v : Word) : (s.withTime v).sent = s.sent := rfl
@[simp] theorem State.withTime_pending (v : Word) : (s.withTime v).pending = s.pending := rfl

@[simp] theorem State.withBanks_cells (v : BankStore) : (s.withBanks v).cells = s.cells := rfl
@[simp] theorem State.withBanks_engine (v : BankStore) : (s.withBanks v).engine = s.engine := rfl
@[simp] theorem State.withBanks_time (v : BankStore) : (s.withBanks v).time = s.time := rfl
@[simp] theorem State.withBanks_banks (v : BankStore) : (s.withBanks v).banks = v := rfl
@[simp] theorem State.withBanks_dir (v : BankStore) : (s.withBanks v).dir = s.dir := rfl
@[simp] theorem State.withBanks_maps (v : BankStore) : (s.withBanks v).maps = s.maps := rfl
@[simp] theorem State.withBanks_alerts (v : BankStore) : (s.withBanks v).alerts = s.alerts := rfl
@[simp] theorem State.withBanks_xport (v : BankStore) : (s.withBanks v).xport = s.xport := rfl
@[simp] theorem State.withBanks_hall (v : BankStore) : (s.withBanks v).hall = s.hall := rfl
@[simp] theorem State.withBanks_tags (v : BankStore) : (s.withBanks v).tags = s.tags := rfl
@[simp] theorem State.withBanks_node (v : BankStore) : (s.withBanks v).node = s.node := rfl
@[simp] theorem State.withBanks_straps (v : BankStore) : (s.withBanks v).straps = s.straps := rfl
@[simp] theorem State.withBanks_draws (v : BankStore) : (s.withBanks v).draws = s.draws := rfl
@[simp] theorem State.withBanks_sent (v : BankStore) : (s.withBanks v).sent = s.sent := rfl
@[simp] theorem State.withBanks_pending (v : BankStore) : (s.withBanks v).pending = s.pending := rfl

@[simp] theorem State.withDir_cells (v : Directory) : (s.withDir v).cells = s.cells := rfl
@[simp] theorem State.withDir_engine (v : Directory) : (s.withDir v).engine = s.engine := rfl
@[simp] theorem State.withDir_time (v : Directory) : (s.withDir v).time = s.time := rfl
@[simp] theorem State.withDir_banks (v : Directory) : (s.withDir v).banks = s.banks := rfl
@[simp] theorem State.withDir_dir (v : Directory) : (s.withDir v).dir = v := rfl
@[simp] theorem State.withDir_maps (v : Directory) : (s.withDir v).maps = s.maps := rfl
@[simp] theorem State.withDir_alerts (v : Directory) : (s.withDir v).alerts = s.alerts := rfl
@[simp] theorem State.withDir_xport (v : Directory) : (s.withDir v).xport = s.xport := rfl
@[simp] theorem State.withDir_hall (v : Directory) : (s.withDir v).hall = s.hall := rfl
@[simp] theorem State.withDir_tags (v : Directory) : (s.withDir v).tags = s.tags := rfl
@[simp] theorem State.withDir_node (v : Directory) : (s.withDir v).node = s.node := rfl
@[simp] theorem State.withDir_straps (v : Directory) : (s.withDir v).straps = s.straps := rfl
@[simp] theorem State.withDir_draws (v : Directory) : (s.withDir v).draws = s.draws := rfl
@[simp] theorem State.withDir_sent (v : Directory) : (s.withDir v).sent = s.sent := rfl
@[simp] theorem State.withDir_pending (v : Directory) : (s.withDir v).pending = s.pending := rfl

@[simp] theorem State.withMaps_cells (v : MapStore) : (s.withMaps v).cells = s.cells := rfl
@[simp] theorem State.withMaps_engine (v : MapStore) : (s.withMaps v).engine = s.engine := rfl
@[simp] theorem State.withMaps_time (v : MapStore) : (s.withMaps v).time = s.time := rfl
@[simp] theorem State.withMaps_banks (v : MapStore) : (s.withMaps v).banks = s.banks := rfl
@[simp] theorem State.withMaps_dir (v : MapStore) : (s.withMaps v).dir = s.dir := rfl
@[simp] theorem State.withMaps_maps (v : MapStore) : (s.withMaps v).maps = v := rfl
@[simp] theorem State.withMaps_alerts (v : MapStore) : (s.withMaps v).alerts = s.alerts := rfl
@[simp] theorem State.withMaps_xport (v : MapStore) : (s.withMaps v).xport = s.xport := rfl
@[simp] theorem State.withMaps_hall (v : MapStore) : (s.withMaps v).hall = s.hall := rfl
@[simp] theorem State.withMaps_tags (v : MapStore) : (s.withMaps v).tags = s.tags := rfl
@[simp] theorem State.withMaps_node (v : MapStore) : (s.withMaps v).node = s.node := rfl
@[simp] theorem State.withMaps_straps (v : MapStore) : (s.withMaps v).straps = s.straps := rfl
@[simp] theorem State.withMaps_draws (v : MapStore) : (s.withMaps v).draws = s.draws := rfl
@[simp] theorem State.withMaps_sent (v : MapStore) : (s.withMaps v).sent = s.sent := rfl
@[simp] theorem State.withMaps_pending (v : MapStore) : (s.withMaps v).pending = s.pending := rfl

@[simp] theorem State.withAlerts_cells (v : AlertUnit) : (s.withAlerts v).cells = s.cells := rfl
@[simp] theorem State.withAlerts_engine (v : AlertUnit) : (s.withAlerts v).engine = s.engine := rfl
@[simp] theorem State.withAlerts_time (v : AlertUnit) : (s.withAlerts v).time = s.time := rfl
@[simp] theorem State.withAlerts_banks (v : AlertUnit) : (s.withAlerts v).banks = s.banks := rfl
@[simp] theorem State.withAlerts_dir (v : AlertUnit) : (s.withAlerts v).dir = s.dir := rfl
@[simp] theorem State.withAlerts_maps (v : AlertUnit) : (s.withAlerts v).maps = s.maps := rfl
@[simp] theorem State.withAlerts_alerts (v : AlertUnit) : (s.withAlerts v).alerts = v := rfl
@[simp] theorem State.withAlerts_xport (v : AlertUnit) : (s.withAlerts v).xport = s.xport := rfl
@[simp] theorem State.withAlerts_hall (v : AlertUnit) : (s.withAlerts v).hall = s.hall := rfl
@[simp] theorem State.withAlerts_tags (v : AlertUnit) : (s.withAlerts v).tags = s.tags := rfl
@[simp] theorem State.withAlerts_node (v : AlertUnit) : (s.withAlerts v).node = s.node := rfl
@[simp] theorem State.withAlerts_straps (v : AlertUnit) : (s.withAlerts v).straps = s.straps := rfl
@[simp] theorem State.withAlerts_draws (v : AlertUnit) : (s.withAlerts v).draws = s.draws := rfl
@[simp] theorem State.withAlerts_sent (v : AlertUnit) : (s.withAlerts v).sent = s.sent := rfl
@[simp] theorem State.withAlerts_pending (v : AlertUnit) : (s.withAlerts v).pending = s.pending := rfl

@[simp] theorem State.withXport_cells (v : ExportEngine) : (s.withXport v).cells = s.cells := rfl
@[simp] theorem State.withXport_engine (v : ExportEngine) : (s.withXport v).engine = s.engine := rfl
@[simp] theorem State.withXport_time (v : ExportEngine) : (s.withXport v).time = s.time := rfl
@[simp] theorem State.withXport_banks (v : ExportEngine) : (s.withXport v).banks = s.banks := rfl
@[simp] theorem State.withXport_dir (v : ExportEngine) : (s.withXport v).dir = s.dir := rfl
@[simp] theorem State.withXport_maps (v : ExportEngine) : (s.withXport v).maps = s.maps := rfl
@[simp] theorem State.withXport_alerts (v : ExportEngine) : (s.withXport v).alerts = s.alerts := rfl
@[simp] theorem State.withXport_xport (v : ExportEngine) : (s.withXport v).xport = v := rfl
@[simp] theorem State.withXport_hall (v : ExportEngine) : (s.withXport v).hall = s.hall := rfl
@[simp] theorem State.withXport_tags (v : ExportEngine) : (s.withXport v).tags = s.tags := rfl
@[simp] theorem State.withXport_node (v : ExportEngine) : (s.withXport v).node = s.node := rfl
@[simp] theorem State.withXport_straps (v : ExportEngine) : (s.withXport v).straps = s.straps := rfl
@[simp] theorem State.withXport_draws (v : ExportEngine) : (s.withXport v).draws = s.draws := rfl
@[simp] theorem State.withXport_sent (v : ExportEngine) : (s.withXport v).sent = s.sent := rfl
@[simp] theorem State.withXport_pending (v : ExportEngine) : (s.withXport v).pending = s.pending := rfl

@[simp] theorem State.withHall_cells (v : HallPort) : (s.withHall v).cells = s.cells := rfl
@[simp] theorem State.withHall_engine (v : HallPort) : (s.withHall v).engine = s.engine := rfl
@[simp] theorem State.withHall_time (v : HallPort) : (s.withHall v).time = s.time := rfl
@[simp] theorem State.withHall_banks (v : HallPort) : (s.withHall v).banks = s.banks := rfl
@[simp] theorem State.withHall_dir (v : HallPort) : (s.withHall v).dir = s.dir := rfl
@[simp] theorem State.withHall_maps (v : HallPort) : (s.withHall v).maps = s.maps := rfl
@[simp] theorem State.withHall_alerts (v : HallPort) : (s.withHall v).alerts = s.alerts := rfl
@[simp] theorem State.withHall_xport (v : HallPort) : (s.withHall v).xport = s.xport := rfl
@[simp] theorem State.withHall_hall (v : HallPort) : (s.withHall v).hall = v := rfl
@[simp] theorem State.withHall_tags (v : HallPort) : (s.withHall v).tags = s.tags := rfl
@[simp] theorem State.withHall_node (v : HallPort) : (s.withHall v).node = s.node := rfl
@[simp] theorem State.withHall_straps (v : HallPort) : (s.withHall v).straps = s.straps := rfl
@[simp] theorem State.withHall_draws (v : HallPort) : (s.withHall v).draws = s.draws := rfl
@[simp] theorem State.withHall_sent (v : HallPort) : (s.withHall v).sent = s.sent := rfl
@[simp] theorem State.withHall_pending (v : HallPort) : (s.withHall v).pending = s.pending := rfl

@[simp] theorem State.withTags_cells (v : Vector (Option SlotId) 4) : (s.withTags v).cells = s.cells := rfl
@[simp] theorem State.withTags_engine (v : Vector (Option SlotId) 4) : (s.withTags v).engine = s.engine := rfl
@[simp] theorem State.withTags_time (v : Vector (Option SlotId) 4) : (s.withTags v).time = s.time := rfl
@[simp] theorem State.withTags_banks (v : Vector (Option SlotId) 4) : (s.withTags v).banks = s.banks := rfl
@[simp] theorem State.withTags_dir (v : Vector (Option SlotId) 4) : (s.withTags v).dir = s.dir := rfl
@[simp] theorem State.withTags_maps (v : Vector (Option SlotId) 4) : (s.withTags v).maps = s.maps := rfl
@[simp] theorem State.withTags_alerts (v : Vector (Option SlotId) 4) : (s.withTags v).alerts = s.alerts := rfl
@[simp] theorem State.withTags_xport (v : Vector (Option SlotId) 4) : (s.withTags v).xport = s.xport := rfl
@[simp] theorem State.withTags_hall (v : Vector (Option SlotId) 4) : (s.withTags v).hall = s.hall := rfl
@[simp] theorem State.withTags_tags (v : Vector (Option SlotId) 4) : (s.withTags v).tags = v := rfl
@[simp] theorem State.withTags_node (v : Vector (Option SlotId) 4) : (s.withTags v).node = s.node := rfl
@[simp] theorem State.withTags_straps (v : Vector (Option SlotId) 4) : (s.withTags v).straps = s.straps := rfl
@[simp] theorem State.withTags_draws (v : Vector (Option SlotId) 4) : (s.withTags v).draws = s.draws := rfl
@[simp] theorem State.withTags_sent (v : Vector (Option SlotId) 4) : (s.withTags v).sent = s.sent := rfl
@[simp] theorem State.withTags_pending (v : Vector (Option SlotId) 4) : (s.withTags v).pending = s.pending := rfl

@[simp] theorem State.withNode_cells (v : BitVec 4) : (s.withNode v).cells = s.cells := rfl
@[simp] theorem State.withNode_engine (v : BitVec 4) : (s.withNode v).engine = s.engine := rfl
@[simp] theorem State.withNode_time (v : BitVec 4) : (s.withNode v).time = s.time := rfl
@[simp] theorem State.withNode_banks (v : BitVec 4) : (s.withNode v).banks = s.banks := rfl
@[simp] theorem State.withNode_dir (v : BitVec 4) : (s.withNode v).dir = s.dir := rfl
@[simp] theorem State.withNode_maps (v : BitVec 4) : (s.withNode v).maps = s.maps := rfl
@[simp] theorem State.withNode_alerts (v : BitVec 4) : (s.withNode v).alerts = s.alerts := rfl
@[simp] theorem State.withNode_xport (v : BitVec 4) : (s.withNode v).xport = s.xport := rfl
@[simp] theorem State.withNode_hall (v : BitVec 4) : (s.withNode v).hall = s.hall := rfl
@[simp] theorem State.withNode_tags (v : BitVec 4) : (s.withNode v).tags = s.tags := rfl
@[simp] theorem State.withNode_node (v : BitVec 4) : (s.withNode v).node = v := rfl
@[simp] theorem State.withNode_straps (v : BitVec 4) : (s.withNode v).straps = s.straps := rfl
@[simp] theorem State.withNode_draws (v : BitVec 4) : (s.withNode v).draws = s.draws := rfl
@[simp] theorem State.withNode_sent (v : BitVec 4) : (s.withNode v).sent = s.sent := rfl
@[simp] theorem State.withNode_pending (v : BitVec 4) : (s.withNode v).pending = s.pending := rfl

@[simp] theorem State.withStraps_cells (v : BitVec 4) : (s.withStraps v).cells = s.cells := rfl
@[simp] theorem State.withStraps_engine (v : BitVec 4) : (s.withStraps v).engine = s.engine := rfl
@[simp] theorem State.withStraps_time (v : BitVec 4) : (s.withStraps v).time = s.time := rfl
@[simp] theorem State.withStraps_banks (v : BitVec 4) : (s.withStraps v).banks = s.banks := rfl
@[simp] theorem State.withStraps_dir (v : BitVec 4) : (s.withStraps v).dir = s.dir := rfl
@[simp] theorem State.withStraps_maps (v : BitVec 4) : (s.withStraps v).maps = s.maps := rfl
@[simp] theorem State.withStraps_alerts (v : BitVec 4) : (s.withStraps v).alerts = s.alerts := rfl
@[simp] theorem State.withStraps_xport (v : BitVec 4) : (s.withStraps v).xport = s.xport := rfl
@[simp] theorem State.withStraps_hall (v : BitVec 4) : (s.withStraps v).hall = s.hall := rfl
@[simp] theorem State.withStraps_tags (v : BitVec 4) : (s.withStraps v).tags = s.tags := rfl
@[simp] theorem State.withStraps_node (v : BitVec 4) : (s.withStraps v).node = s.node := rfl
@[simp] theorem State.withStraps_straps (v : BitVec 4) : (s.withStraps v).straps = v := rfl
@[simp] theorem State.withStraps_draws (v : BitVec 4) : (s.withStraps v).draws = s.draws := rfl
@[simp] theorem State.withStraps_sent (v : BitVec 4) : (s.withStraps v).sent = s.sent := rfl
@[simp] theorem State.withStraps_pending (v : BitVec 4) : (s.withStraps v).pending = s.pending := rfl

@[simp] theorem State.withDraws_cells (v : Nat) : (s.withDraws v).cells = s.cells := rfl
@[simp] theorem State.withDraws_engine (v : Nat) : (s.withDraws v).engine = s.engine := rfl
@[simp] theorem State.withDraws_time (v : Nat) : (s.withDraws v).time = s.time := rfl
@[simp] theorem State.withDraws_banks (v : Nat) : (s.withDraws v).banks = s.banks := rfl
@[simp] theorem State.withDraws_dir (v : Nat) : (s.withDraws v).dir = s.dir := rfl
@[simp] theorem State.withDraws_maps (v : Nat) : (s.withDraws v).maps = s.maps := rfl
@[simp] theorem State.withDraws_alerts (v : Nat) : (s.withDraws v).alerts = s.alerts := rfl
@[simp] theorem State.withDraws_xport (v : Nat) : (s.withDraws v).xport = s.xport := rfl
@[simp] theorem State.withDraws_hall (v : Nat) : (s.withDraws v).hall = s.hall := rfl
@[simp] theorem State.withDraws_tags (v : Nat) : (s.withDraws v).tags = s.tags := rfl
@[simp] theorem State.withDraws_node (v : Nat) : (s.withDraws v).node = s.node := rfl
@[simp] theorem State.withDraws_straps (v : Nat) : (s.withDraws v).straps = s.straps := rfl
@[simp] theorem State.withDraws_draws (v : Nat) : (s.withDraws v).draws = v := rfl
@[simp] theorem State.withDraws_sent (v : Nat) : (s.withDraws v).sent = s.sent := rfl
@[simp] theorem State.withDraws_pending (v : Nat) : (s.withDraws v).pending = s.pending := rfl

@[simp] theorem State.withSent_cells (v : List Sent) : (s.withSent v).cells = s.cells := rfl
@[simp] theorem State.withSent_engine (v : List Sent) : (s.withSent v).engine = s.engine := rfl
@[simp] theorem State.withSent_time (v : List Sent) : (s.withSent v).time = s.time := rfl
@[simp] theorem State.withSent_banks (v : List Sent) : (s.withSent v).banks = s.banks := rfl
@[simp] theorem State.withSent_dir (v : List Sent) : (s.withSent v).dir = s.dir := rfl
@[simp] theorem State.withSent_maps (v : List Sent) : (s.withSent v).maps = s.maps := rfl
@[simp] theorem State.withSent_alerts (v : List Sent) : (s.withSent v).alerts = s.alerts := rfl
@[simp] theorem State.withSent_xport (v : List Sent) : (s.withSent v).xport = s.xport := rfl
@[simp] theorem State.withSent_hall (v : List Sent) : (s.withSent v).hall = s.hall := rfl
@[simp] theorem State.withSent_tags (v : List Sent) : (s.withSent v).tags = s.tags := rfl
@[simp] theorem State.withSent_node (v : List Sent) : (s.withSent v).node = s.node := rfl
@[simp] theorem State.withSent_straps (v : List Sent) : (s.withSent v).straps = s.straps := rfl
@[simp] theorem State.withSent_draws (v : List Sent) : (s.withSent v).draws = s.draws := rfl
@[simp] theorem State.withSent_sent (v : List Sent) : (s.withSent v).sent = v := rfl
@[simp] theorem State.withSent_pending (v : List Sent) : (s.withSent v).pending = s.pending := rfl

@[simp] theorem State.withPending_cells (v : List Instr) : (s.withPending v).cells = s.cells := rfl
@[simp] theorem State.withPending_engine (v : List Instr) : (s.withPending v).engine = s.engine := rfl
@[simp] theorem State.withPending_time (v : List Instr) : (s.withPending v).time = s.time := rfl
@[simp] theorem State.withPending_banks (v : List Instr) : (s.withPending v).banks = s.banks := rfl
@[simp] theorem State.withPending_dir (v : List Instr) : (s.withPending v).dir = s.dir := rfl
@[simp] theorem State.withPending_maps (v : List Instr) : (s.withPending v).maps = s.maps := rfl
@[simp] theorem State.withPending_alerts (v : List Instr) : (s.withPending v).alerts = s.alerts := rfl
@[simp] theorem State.withPending_xport (v : List Instr) : (s.withPending v).xport = s.xport := rfl
@[simp] theorem State.withPending_hall (v : List Instr) : (s.withPending v).hall = s.hall := rfl
@[simp] theorem State.withPending_tags (v : List Instr) : (s.withPending v).tags = s.tags := rfl
@[simp] theorem State.withPending_node (v : List Instr) : (s.withPending v).node = s.node := rfl
@[simp] theorem State.withPending_straps (v : List Instr) : (s.withPending v).straps = s.straps := rfl
@[simp] theorem State.withPending_draws (v : List Instr) : (s.withPending v).draws = s.draws := rfl
@[simp] theorem State.withPending_sent (v : List Instr) : (s.withPending v).sent = s.sent := rfl
@[simp] theorem State.withPending_pending (v : List Instr) : (s.withPending v).pending = v := rfl

end Sys2Proof.Machine
end

