-- ==== Sys2Proof/Laws/Ops.lean ====
section
/-! SUPPORT. The laws of the lookups and updates of cells, banks, slots, frames and tags, and of the sparse byte
stores: what is read back, what is left alone, and that the canonical form is kept. -/

namespace Sys2Proof.Machine

/-! ## Cells, banks, slots, frames and tags -/

@[simp] theorem State.cell_setCell_same (s : State) (c : CellId) (v : Cell) : (s.setCell c v).cell c = v := by
  simp [State.setCell, State.cell]

theorem State.cell_setCell_other (s : State) {c d : CellId} (v : Cell) (h : d ≠ c) :
    (s.setCell c v).cell d = s.cell d := by
  simp [State.setCell, State.cell, Vector.getElem_set_ne _ _ (fun h' => h (Fin.ext h').symm)]

@[simp] theorem State.cell_modCell_same (s : State) (c : CellId) (f : Cell → Cell) :
    (s.modCell c f).cell c = f (s.cell c) := by
  simp [State.modCell]

theorem State.cell_modCell_other (s : State) {c d : CellId} (f : Cell → Cell) (h : d ≠ c) :
    (s.modCell c f).cell d = s.cell d := s.cell_setCell_other _ h

@[simp] theorem State.bank_setBank_same (s : State) (i : BankId) (v : Bank) : (s.setBank i v).bank i = v := by
  cases i <;> rfl

@[simp] theorem State.bank_setBank_other (s : State) (i : BankId) (v : Bank) :
    (s.setBank i v).bank i.other = s.bank i.other := by
  cases i <;> rfl

@[simp] theorem State.record_setSlot_same (s : State) (i : SlotId) (v : Option Record) :
    (s.setSlot i v).record i = v := by
  simp [State.setSlot, State.record]

theorem State.record_setSlot_other (s : State) {i j : SlotId} (v : Option Record) (h : j ≠ i) :
    (s.setSlot i v).record j = s.record j := by
  simp [State.setSlot, State.record, Vector.getElem_set_ne _ _ (fun h' => h (Fin.ext h').symm)]

theorem State.record_modRecord_same (s : State) (i : SlotId) (f : Record → Record) :
    (s.modRecord i f).record i = (s.record i).map f := by
  unfold State.modRecord
  split
  · rename_i h; simp [h]
  · rename_i r h; simp [h]

theorem State.record_modRecord_other (s : State) {i j : SlotId} (f : Record → Record) (h : j ≠ i) :
    (s.modRecord i f).record j = s.record j := by
  unfold State.modRecord
  split
  · rfl
  · exact s.record_setSlot_other _ h

@[simp] theorem State.frame_setFrame_same (s : State) (f : FrameId) (v : MapFrame) : (s.setFrame f v).frame f = v := by
  simp [State.setFrame, State.frame]

theorem State.frame_setFrame_other (s : State) {f g : FrameId} (v : MapFrame) (h : g ≠ f) :
    (s.setFrame f v).frame g = s.frame g := by
  simp [State.setFrame, State.frame, Vector.getElem_set_ne _ _ (fun h' => h (Fin.ext h').symm)]

@[simp] theorem State.tag_setTag_same (s : State) (q : Fin 4) (v : Option SlotId) : (s.setTag q v).tag q = v := by
  simp [State.setTag, State.tag]

theorem State.tag_setTag_other (s : State) {q p : Fin 4} (v : Option SlotId) (h : p ≠ q) :
    (s.setTag q v).tag p = s.tag p := by
  simp [State.setTag, State.tag, Vector.getElem_set_ne _ _ (fun h' => h (Fin.ext h').symm)]

/-- After the tags on a slot are cleared, a requester's tag is absent if it was there and as it was if not. -/
theorem State.tag_clearTagsOn (s : State) (i : SlotId) (q : Fin 4) :
    (s.clearTagsOn i).tag q = if s.tag q = some i then none else s.tag q := by
  show (s.tags.map _)[q.val] = _
  rw [Vector.getElem_map]
  rfl

/-! ## Sparse stores -/

/-- A byte written is read back. -/
theorem storeRead_storeWrite_same (d : Byte) (m : List Host.Cell) (a : Nat) (v : Byte) (h : storeWf d m) :
    storeRead d (storeWrite d m a v) a = v := by
  induction m with
  | nil => unfold storeWrite; split <;> simp_all [storeRead]
  | cons x m ih =>
    obtain ⟨k, y⟩ := x
    have hm : storeWf d m := ⟨h.1.of_cons, fun x hx => h.2 x (List.mem_cons_of_mem _ hx)⟩
    have hlt : ∀ x ∈ m, k < x.1 := fun x hx => List.rel_of_pairwise_cons h.1 hx
    have hun : ∀ (n : List Host.Cell), (∀ x ∈ n, a < x.1) → storeRead d n a = d := by
      intro n
      induction n with
      | nil => simp [storeRead]
      | cons z n ihn =>
        intro hz
        have := hz z (by simp)
        obtain ⟨z1, z2⟩ := z
        have hne : z1 ≠ a := by simp at this; omega
        simp [storeRead, hne, ihn fun x hx => hz x (List.mem_cons_of_mem _ hx)]
    unfold storeWrite
    split
    · rename_i hak
      split
      · rename_i hv
        have hne : k ≠ a := by omega
        simp [storeRead, hne, hv, hun m fun x hx => lt_trans hak (hlt x hx)]
      · simp [storeRead]
    · split
      · rename_i hka
        split
        · rename_i hv
          rw [hv]; exact hun m (hka ▸ hlt)
        · simp [storeRead]
      · rename_i hka
        simp [storeRead, hka, ih hm]

/-- A write leaves every other address alone. -/
theorem storeRead_storeWrite_other (d : Byte) (m : List Host.Cell) {a b : Nat} (v : Byte) (h : b ≠ a)
    (hm : storeWf d m) : storeRead d (storeWrite d m a v) b = storeRead d m b := by
  induction m with
  | nil => unfold storeWrite; split <;> simp [storeRead, Ne.symm h]
  | cons x m ih =>
    obtain ⟨k, y⟩ := x
    have hm' : storeWf d m := ⟨hm.1.of_cons, fun x hx => hm.2 x (List.mem_cons_of_mem _ hx)⟩
    have hlt : ∀ x ∈ m, k < x.1 := fun x hx => List.rel_of_pairwise_cons hm.1 hx
    unfold storeWrite
    split
    · split
      · rfl
      · simp [storeRead, Ne.symm h]
    · split
      · rename_i hka
        subst hka
        split <;> simp [storeRead, Ne.symm h]
      · simp only [storeRead, ih hm']

/-- The addresses of a store after a write are its own and the one written. -/
theorem mem_storeWrite (d : Byte) (m : List Host.Cell) (a : Nat) (v : Byte) (x : Host.Cell)
    (h : x ∈ storeWrite d m a v) : x ∈ m ∨ (x = (a, v) ∧ v ≠ d) := by
  induction m with
  | nil => unfold storeWrite at h; split at h <;> simp_all
  | cons y m ih =>
    obtain ⟨k, z⟩ := y
    unfold storeWrite at h
    split at h
    · split at h
      · exact Or.inl h
      · rename_i hv; simp only [List.mem_cons] at h ⊢; tauto
    · split at h
      · split at h
        · exact Or.inl (List.mem_cons_of_mem _ h)
        · rename_i hv; simp only [List.mem_cons] at h ⊢; tauto
      · simp only [List.mem_cons] at h ⊢
        rcases h with h | h
        · tauto
        · rcases ih h with h | h <;> tauto

/-- A write keeps the canonical form. -/
theorem storeWrite_wf (d : Byte) (m : List Host.Cell) (a : Nat) (v : Byte) (h : storeWf d m) :
    storeWf d (storeWrite d m a v) := by
  refine ⟨?_, fun x hx => ?_⟩
  · induction m with
    | nil => unfold storeWrite; split <;> simp
    | cons x m ih =>
      obtain ⟨k, y⟩ := x
      have hm : storeWf d m := ⟨h.1.of_cons, fun x hx => h.2 x (List.mem_cons_of_mem _ hx)⟩
      have hlt : ∀ x ∈ m, k < x.1 := fun x hx => List.rel_of_pairwise_cons h.1 hx
      unfold storeWrite
      split
      · rename_i hak
        split
        · exact h.1
        · refine List.Pairwise.cons (fun z hz => ?_) h.1
          rcases List.mem_cons.1 hz with rfl | hz
          · exact hak
          · exact lt_trans hak (hlt z hz)
      · split
        · rename_i hka
          split
          · exact h.1.of_cons
          · exact List.Pairwise.cons (fun z hz => hka ▸ hlt z hz) h.1.of_cons
        · refine List.Pairwise.cons (fun z hz => ?_) (ih hm)
          rcases mem_storeWrite d m a v z hz with hz | ⟨rfl, -⟩
          · exact hlt z hz
          · simp only; omega
  · rcases mem_storeWrite d m a v x hx with hx | ⟨rfl, hv⟩
    · exact h.2 x hx
    · exact hv

end Sys2Proof.Machine
end

