-- ==== Sys2Proof/Laws/Frames.lean ====
section
/-! SUPPORT. The frame of every shared operation, said once: the blocks it may change. A fact about another block of a
composite follows by `State.changesOnly` at that block, with no unfolding. -/

set_option Elab.async false

namespace Sys2Proof.Machine

/-! ## The relation -/

theorem State.changesOnly.refl (s : State) (bs : List Block) : s.changesOnly s bs := by
  intro b _; cases b <;> rfl

theorem State.changesOnly.trans {s t u : State} {bs : List Block} (h : s.changesOnly t bs) (k : t.changesOnly u bs) :
    s.changesOnly u bs := by
  intro b hb
  have h1 := h b hb
  have h2 := k b hb
  cases b <;> exact Eq.trans h2 h1

theorem State.changesOnly.mono {s t : State} {bs cs : List Block} (h : s.changesOnly t bs)
    (hc : ∀ b ∈ bs, b ∈ cs := by decide) : s.changesOnly t cs := fun b hb => h b fun hb' => hb (hc b hb')

/-- One change after another, within the blocks of both. -/
theorem State.changesOnly.seq {s t u : State} {bs cs ds : List Block} (h : s.changesOnly t bs)
    (k : t.changesOnly u cs) (hb : ∀ b ∈ bs, b ∈ ds := by decide) (hc : ∀ b ∈ cs, b ∈ ds := by decide) :
    s.changesOnly u ds := (h.mono hb).trans (k.mono hc)

/-! ## Whole-block updates -/

theorem State.withCells_changes (s : State) (v : Vector Cell 8) : s.changesOnly (s.withCells v) [.cells] := by
  intro b hb; cases b <;> first | rfl | simp at hb
theorem State.withEngine_changes (s : State) (v : CellId) : s.changesOnly (s.withEngine v) [.engine] := by
  intro b hb; cases b <;> first | rfl | simp at hb
theorem State.withTime_changes (s : State) (v : Word) : s.changesOnly (s.withTime v) [.time] := by
  intro b hb; cases b <;> first | rfl | simp at hb
theorem State.withBanks_changes (s : State) (v : BankStore) : s.changesOnly (s.withBanks v) [.banks] := by
  intro b hb; cases b <;> first | rfl | simp at hb
theorem State.withDir_changes (s : State) (v : Directory) : s.changesOnly (s.withDir v) [.dir] := by
  intro b hb; cases b <;> first | rfl | simp at hb
theorem State.withMaps_changes (s : State) (v : MapStore) : s.changesOnly (s.withMaps v) [.maps] := by
  intro b hb; cases b <;> first | rfl | simp at hb
theorem State.withAlerts_changes (s : State) (v : AlertUnit) : s.changesOnly (s.withAlerts v) [.alerts] := by
  intro b hb; cases b <;> first | rfl | simp at hb
theorem State.withXport_changes (s : State) (v : ExportEngine) : s.changesOnly (s.withXport v) [.xport] := by
  intro b hb; cases b <;> first | rfl | simp at hb
theorem State.withHall_changes (s : State) (v : HallPort) : s.changesOnly (s.withHall v) [.hall] := by
  intro b hb; cases b <;> first | rfl | simp at hb
theorem State.withTags_changes (s : State) (v : Vector (Option SlotId) 4) : s.changesOnly (s.withTags v) [.tags] := by
  intro b hb; cases b <;> first | rfl | simp at hb
theorem State.withDraws_changes (s : State) (v : Nat) : s.changesOnly (s.withDraws v) [.draws] := by
  intro b hb; cases b <;> first | rfl | simp at hb
theorem State.emit_changes (s : State) (o : Sent) : s.changesOnly (s.emit o) [.sent] := by
  intro b hb; cases b <;> first | rfl | simp at hb

/-! ## Cells, banks, slots, frames, tags -/

theorem State.modCell_changes (s : State) (c : CellId) (f : Cell → Cell) : s.changesOnly (s.modCell c f) [.cells] :=
  s.withCells_changes _
theorem State.setBank_changes (s : State) (i : BankId) (v : Bank) : s.changesOnly (s.setBank i v) [.banks] := by
  cases i <;> exact s.withBanks_changes _
theorem State.setSlot_changes (s : State) (i : SlotId) (v : Option Record) : s.changesOnly (s.setSlot i v) [.dir] :=
  s.withDir_changes _
theorem State.modRecord_changes (s : State) (i : SlotId) (f : Record → Record) :
    s.changesOnly (s.modRecord i f) [.dir] := by
  unfold State.modRecord; split
  · exact .refl s _
  · exact s.setSlot_changes _ _
theorem State.setFrame_changes (s : State) (f : FrameId) (v : MapFrame) : s.changesOnly (s.setFrame f v) [.maps] :=
  s.withMaps_changes _
theorem State.setTag_changes (s : State) (q : Fin 4) (v : Option SlotId) : s.changesOnly (s.setTag q v) [.tags] :=
  s.withTags_changes _
theorem State.clearTagsOn_changes (s : State) (i : SlotId) : s.changesOnly (s.clearTagsOn i) [.tags] :=
  s.withTags_changes _

/-! ## Alerts and the tally unit -/

theorem State.stopTest_changes (s : State) (a : Alert) (l : Fin 8) : s.changesOnly (s.stopTest a l) [.cells] := by
  unfold State.stopTest; split
  · exact .refl s _
  · split
    · exact s.modCell_changes _ _
    · exact .refl s _
theorem State.raise_changes (s : State) (a : Alert) : s.changesOnly (s.raise a) [.cells, .alerts] := by
  unfold State.raise; split
  · exact .refl s _
  · exact (s.stopTest_changes _ _).seq (State.withAlerts_changes _ _)
theorem State.raiseAll_changes (s : State) (as : List Alert) : s.changesOnly (s.raiseAll as) [.cells, .alerts] := by
  unfold State.raiseAll
  induction as generalizing s with
  | nil => exact .refl s _
  | cons a as ih => exact (s.raise_changes a).trans (ih (s.raise a))
theorem State.checkpointTest_changes (s : State) (i : SlotId) :
    s.changesOnly (s.checkpointTest i) [.cells, .dir, .alerts] := by
  unfold State.checkpointTest; split
  · exact .refl s _
  · dsimp only; split
    · exact (s.setSlot_changes _ _).mono
    · split
      · exact (s.setSlot_changes _ _).mono
      · split
        · exact (s.setSlot_changes _ _).seq (State.raiseAll_changes _ _)
        · exact (s.setSlot_changes _ _).mono
theorem State.finalEvaluation_changes (s : State) (i : SlotId) :
    s.changesOnly (s.finalEvaluation i) [.cells, .dir, .alerts] := by
  unfold State.finalEvaluation; split
  · exact .refl s _
  · exact (s.setSlot_changes _ _).seq (State.raiseAll_changes _ _)
theorem State.siteRun_changes (s : State) (c : CellId) (i : Fin 16) (k : BinClass) (n : Nat) :
    s.changesOnly (s.siteRun c i k n) [.cells, .alerts] := by
  unfold State.siteRun
  split
  · exact .refl s _
  · exact (s.modCell_changes _ _).mono
  all_goals
    dsimp only; split
    · exact ((s.modCell_changes _ _).trans (State.modCell_changes _ _ _)).seq (State.raise_changes _ _)
    · exact (s.modCell_changes _ _).mono

/-! ## The export engine -/

theorem State.setOwedFlag_changes (s : State) (i : SlotId) (b : Bool) : s.changesOnly (s.setOwedFlag i b) [.dir] :=
  s.modRecord_changes _ _
theorem State.dropOwed_changes (s : State) (i : SlotId) : s.changesOnly (s.dropOwed i) [.dir, .xport] := by
  unfold State.dropOwed; split
  · exact (s.setOwedFlag_changes _ _).seq (State.withXport_changes _ _)
  · exact .refl s _
theorem State.fillPlace_changes (s : State) : s.changesOnly s.fillPlace [.dir, .xport] := by
  unfold State.fillPlace; split
  · exact .refl s _
  · exact (s.setOwedFlag_changes _ _).seq (State.withXport_changes _ _)
theorem State.removeSum_changes (s : State) (e : SlotId × SumKind) : s.changesOnly (s.removeSum e) [.dir, .xport] := by
  unfold State.removeSum; split
  · exact (s.withXport_changes _).seq (State.fillPlace_changes _)
  · exact .refl s _
theorem State.queueFinal_changes (s : State) (i : SlotId) : s.changesOnly (s.queueFinal i) [.dir, .xport] := by
  unfold State.queueFinal; split
  · exact .refl s _
  · split
    · exact (s.withXport_changes _).mono
    · split
      · exact (s.withXport_changes _).mono
      · exact (s.setOwedFlag_changes _ _).seq (State.withXport_changes _ _)
theorem State.handToExport_changes (s : State) (i : SlotId) : s.changesOnly (s.handToExport i) [.dir, .xport] :=
  (s.removeSum_changes _).trans (State.queueFinal_changes _ _)
theorem State.requestProgress_changes (s : State) (i : SlotId) : s.changesOnly (s.requestProgress i) [.xport] := by
  unfold State.requestProgress; split
  · exact .refl s _
  · split
    · exact s.withXport_changes _
    · exact .refl s _
theorem State.setProgress_changes (s : State) (i : SlotId) (t : Option Timer) :
    s.changesOnly (s.setProgress i t) [.xport] := s.withXport_changes _
theorem State.startProgress_changes (s : State) (i : SlotId) : s.changesOnly (s.startProgress i) [.xport] := by
  unfold State.startProgress; split
  · exact .refl s _
  · exact s.setProgress_changes _ _
theorem State.modDump_changes (s : State) (f : Dump → Dump) : s.changesOnly (s.modDump f) [.xport] :=
  s.withXport_changes _
theorem State.startDump_changes (s : State) : s.changesOnly s.startDump [.xport] := by
  unfold State.startDump; split
  · exact s.withXport_changes _
  · exact .refl s _
theorem State.chainMap_changes (s : State) (i : SlotId) : s.changesOnly (s.chainMap i) [.xport] := by
  unfold State.chainMap; split
  · exact s.withXport_changes _
  · exact (s.withXport_changes _).trans (State.startDump_changes _)
theorem State.requestMap_changes (s : State) (i : SlotId) : s.changesOnly (s.requestMap i) [.xport] := by
  unfold State.requestMap; split
  · exact .refl s _
  · exact (s.withXport_changes _).trans (State.startDump_changes _)
theorem State.removePending_changes (s : State) (i : SlotId) : s.changesOnly (s.removePending i) [.xport] :=
  s.withXport_changes _
theorem State.changeNotice_changes (s : State) (i : SlotId) (f : FrameId) (y : Nat) :
    s.changesOnly (s.changeNotice i f y) [.xport] := s.modDump_changes _
theorem State.cancelTx_changes (s : State) (i : SlotId) : s.changesOnly (s.cancelTx i) [.hall] :=
  s.withHall_changes _

/-! ## The wafer directory -/

theorem State.bindBank_changes (s : State) (i : BankId) : s.changesOnly (s.bindBank i) [.banks] :=
  s.setBank_changes _ _
theorem State.unbindBank_changes (s : State) (i : BankId) : s.changesOnly (s.unbindBank i) [.banks] :=
  s.setBank_changes _ _
theorem State.stopGrace_changes (s : State) (c : CellId) : s.changesOnly (s.stopGrace c) [.cells] :=
  s.modCell_changes _ _
theorem State.sealRecord_changes (s : State) (i : SlotId) (r : Record) (w : Option CloseReason) :
    s.changesOnly (s.sealRecord i r w) [.cells, .dir, .xport] := by
  have h : s.changesOnly (((s.setSlot i (some (r.sealed w s.time (s.recipeOf r)))).withDir
      { (s.setSlot i (some (r.sealed w s.time (s.recipeOf r)))).dir with
        sealOrder := (s.setSlot i (some (r.sealed w s.time (s.recipeOf r)))).dir.sealOrder.erase i ++ [i] }).setProgress
          i none) [.cells, .dir, .xport] :=
    ((s.setSlot_changes _ _).trans (State.withDir_changes _ _)).seq (State.setProgress_changes _ _ _)
  unfold State.sealRecord
  dsimp only
  split
  · exact h.seq (State.stopGrace_changes _ _)
  · exact h

/-- The blocks a seal may change. -/
def sealBlocks : List Block := [.cells, .banks, .dir, .alerts, .xport, .tags]

theorem State.sealSlot_changes (s : State) (i : SlotId) (w : Option CloseReason) :
    s.changesOnly (s.sealSlot i w) sealBlocks := by
  unfold State.sealSlot; split
  · exact .refl s _
  · split
    · exact ((((s.sealRecord_changes _ _ _).seq (State.finalEvaluation_changes _ _)
        (ds := [.cells, .dir, .alerts, .xport])).seq (State.clearTagsOn_changes _ _)
        (ds := [.cells, .dir, .alerts, .xport, .tags])).seq (State.handToExport_changes _ _)
        (ds := [.cells, .dir, .alerts, .xport, .tags])).seq (State.unbindBank_changes _ _)
    · exact .refl s _
theorem State.sealIf_changes (s : State) (i : Option SlotId) (w : CloseReason) :
    s.changesOnly (s.sealIf i w) sealBlocks := by
  unfold State.sealIf; split
  · exact .refl s _
  · exact s.sealSlot_changes _ _
theorem State.returnFrame_changes (s : State) (f : Option FrameId) : s.changesOnly (s.returnFrame f) [.maps] := by
  unfold State.returnFrame; split
  · exact .refl s _
  · exact s.withMaps_changes _
theorem State.emptySlot_changes (s : State) (i : SlotId) : s.changesOnly (s.emptySlot i) [.dir] :=
  s.withDir_changes _

/-- The blocks the freeing of a record, or an opening, may change. -/
def directoryBlocks : List Block := [.cells, .banks, .dir, .maps, .alerts, .xport, .hall, .tags]

theorem State.freeRecord_changes (s : State) (i : SlotId) :
    s.changesOnly (s.freeRecord i) [.cells, .banks, .dir, .maps, .xport, .hall, .tags] := by
  unfold State.freeRecord; split
  · exact .refl s _
  · rename_i r _
    dsimp only
    have h1 : s.changesOnly (if r.state = .closing then s.stopGrace r.cell else s)
        [.cells, .banks, .dir, .maps, .xport, .hall, .tags] := by
      split
      · exact (s.stopGrace_changes _).mono
      · exact .refl s _
    have h2 : ∀ t : State, t.changesOnly (if r.isActive then t.unbindBank r.bank else t)
        [.cells, .banks, .dir, .maps, .xport, .hall, .tags] := by
      intro t; split
      · exact (t.unbindBank_changes _).mono
      · exact .refl t _
    exact ((((((((((h1.trans (h2 _)).trans (State.dropOwed_changes _ _).mono).trans
      (State.emptySlot_changes _ _).mono).trans (State.setProgress_changes _ _ _).mono).trans
      (State.returnFrame_changes _ _).mono).trans (State.removeSum_changes _ _).mono).trans
      (State.removeSum_changes _ _).mono).trans ((State.removePending_changes _ _).seq
      (State.modDump_changes _ _))).trans (State.cancelTx_changes _ _).mono).trans
      (State.clearTagsOn_changes _ _).mono)
theorem State.startGrace_changes (s : State) (i : SlotId) (c : CellId) :
    s.changesOnly (s.startGrace i c) sealBlocks := by
  unfold State.startGrace; split
  · exact s.sealSlot_changes _ _
  · exact (s.modCell_changes _ _).mono
theorem State.moveToClosing_changes (s : State) (i : SlotId) (w : CloseReason) (t : Word) :
    s.changesOnly (s.moveToClosing i w t) sealBlocks := by
  unfold State.moveToClosing; split
  · exact .refl s _
  · dsimp only
    exact ((s.sealIf_changes _ _).trans ((State.modRecord_changes _ _ _).seq
      (State.setProgress_changes _ _ _))).trans (State.startGrace_changes _ _ _)
theorem State.closeOpen_changes (s : State) (c : CellId) (w : CloseReason) (t : Word) :
    s.changesOnly (s.closeOpen c w t) sealBlocks := by
  unfold State.closeOpen; split
  · exact .refl s _
  · exact s.moveToClosing_changes _ _ _
theorem State.resumeSlot_changes (s : State) (i : SlotId) (c : CellId) :
    s.changesOnly (s.resumeSlot i c) [.banks, .dir, .xport, .hall] := by
  unfold State.resumeSlot; split
  · exact .refl s _
  · dsimp only
    exact (((((s.dropOwed_changes _).trans (State.removeSum_changes _ _)).seq
      ((State.removePending_changes _ _).trans (State.modDump_changes _ _)) (ds := [.dir, .xport])).seq
      (State.cancelTx_changes _ _) (ds := [.dir, .xport, .hall])).seq ((State.withDir_changes _ _).trans
      (State.modRecord_changes _ _ _)) (ds := [.dir, .xport, .hall])).seq ((State.bindBank_changes _ _).seq
      (State.startProgress_changes _ _) (ds := [.banks, .xport]))
theorem State.freeExportedWith_changes (s : State) (k : Key) :
    s.changesOnly (s.freeExportedWith k) directoryBlocks := by
  unfold State.freeExportedWith
  generalize allSlots = is
  induction is generalizing s with
  | nil => exact .refl s _
  | cons i is ih =>
    refine State.changesOnly.trans (t := _) ?_ (ih _)
    dsimp only
    split
    · exact .refl s _
    · split
      · exact (s.freeRecord_changes _).mono
      · exact .refl s _
theorem State.takeSlot_changes (s : State) : s.changesOnly s.takeSlot.1 directoryBlocks := by
  unfold State.takeSlot; split
  · exact .refl s _
  · split
    · exact .refl s _
    · exact (s.freeRecord_changes _).mono
theorem State.takeFrame_changes (s : State) : s.changesOnly s.takeFrame.1 directoryBlocks := by
  unfold State.takeFrame; split
  · exact (s.withMaps_changes _).mono
  · split
    · exact .refl s _
    · exact (s.modRecord_changes _ _).seq ((State.modDump_changes _ _).trans (State.removePending_changes _ _))
theorem State.clearFrame_changes (s : State) (f : Option FrameId) : s.changesOnly (s.clearFrame f) [.maps] := by
  unfold State.clearFrame; split
  · exact .refl s _
  · exact s.setFrame_changes _ _
theorem State.openIn_changes (s : State) (i : SlotId) (f : Option FrameId) (c : CellId) (k : Key) (p : Fin 8)
    (lb : BankId) : s.changesOnly (s.openIn i f c k p lb) directoryBlocks := by
  unfold State.openIn
  have h0 : s.changesOnly (if f.isNone then
      s.raise { kind := .noFrame, cell := some c, slot := some i, key := some k } else s) directoryBlocks := by
    split
    · exact (s.raise_changes _).mono
    · exact .refl s _
  exact (((h0.trans (State.clearFrame_changes _ _).mono).trans (State.setSlot_changes _ _ _).mono).trans
    (State.modCell_changes _ _ _).mono).trans ((State.bindBank_changes _ _).seq (State.startProgress_changes _ _))
theorem State.openFresh_changes (s : State) (c : CellId) (k : Key) (w : Option (Fin 8)) (lb : BankId) :
    s.changesOnly (s.openFresh c k w lb).1 directoryBlocks := by
  unfold State.openFresh
  have h1 := s.freeExportedWith_changes k
  generalize s.freeExportedWith k = s1 at h1
  have h2 := h1.trans s1.takeSlot_changes
  dsimp only
  split
  · exact h1.trans (s1.raise_changes _).mono
  · generalize s1.takeSlot = out at h2
    obtain ⟨s2, i⟩ := out
    dsimp only at h2
    cases i with
    | none => exact h2.trans (s2.raise_changes _).mono
    | some i => exact (h2.trans s2.takeFrame_changes).trans (s2.takeFrame.1.openIn_changes i _ c k _ lb)
theorem State.openWafer_changes (s : State) (c : CellId) (k : Key) (w : Option (Fin 8)) (lb : BankId) :
    s.changesOnly (s.openWafer c k w lb).1 directoryBlocks := by
  unfold State.openWafer
  dsimp only
  have h := (s.sealIf_changes (s.closingOn c) .forced).trans
    (State.closeOpen_changes (s.sealIf (s.closingOn c) .forced) c .nextWafer
      (s.sealIf (s.closingOn c) .forced).time)
  split
  · exact h.seq (State.resumeSlot_changes _ _ _)
  · exact h.seq (State.openFresh_changes _ _ _ _ _)
theorem State.endMarker_changes (s : State) (c : CellId) (k : Key) :
    s.changesOnly (s.endMarker c k).1 sealBlocks := by
  unfold State.endMarker; split
  · exact .refl s _
  · exact s.moveToClosing_changes _ _ _
theorem State.lotEndMarker_changes (s : State) (c : CellId) (lot : Word) :
    s.changesOnly (s.lotEndMarker c lot).1 sealBlocks := by
  unfold State.lotEndMarker; split
  · exact .refl s _
  · exact s.moveToClosing_changes _ _ _
theorem State.returnToOpen_changes (s : State) (c : CellId) (i : SlotId) :
    s.changesOnly (s.returnToOpen c i) sealBlocks := by
  unfold State.returnToOpen
  dsimp only
  refine State.changesOnly.trans (t := _) ?_ (State.startProgress_changes _ _).mono
  split
  · exact (s.stopGrace_changes _).seq (State.modRecord_changes _ _ _)
  · exact ((s.stopGrace_changes _).seq (State.modRecord_changes _ _ _)).trans (State.moveToClosing_changes _ _ _ _)
theorem State.beginMarker_changes (s : State) (c : CellId) (k : Key) (w : Option (Fin 8)) (lb : BankId) :
    s.changesOnly (s.beginMarker c k w lb).1 directoryBlocks := by
  unfold State.beginMarker; split
  · split
    · exact .refl s _
    · split
      · exact (s.raise_changes _).mono
      · split
        · exact .refl s _
        · exact (s.returnToOpen_changes _ _).mono
  · exact s.openWafer_changes _ _ _ _
theorem State.resolveKey_changes (s : State) (c : CellId) (k : Key) (lb : BankId) :
    s.changesOnly (s.resolveKey c k lb).1 directoryBlocks := by
  unfold State.resolveKey; split
  · split
    · exact .refl s _
    · split
      · exact .refl s _
      · exact (s.raise_changes _).mono
  · split
    · exact (s.modCell_changes _ _).seq (State.raise_changes _ _)
    · exact s.openWafer_changes _ _ _ _

/-! ## The map store and the collation engine -/

theorem State.countChange_changes (s : State) (i : SlotId) (f : FrameId) (y : Nat) :
    s.changesOnly (s.countChange i f y) [.maps, .xport] :=
  (s.setFrame_changes _ _).seq (State.changeNotice_changes _ _ _ _)
theorem State.setDie_changes (s : State) (f : FrameId) (x y : Nat) (d : DieCell) :
    s.changesOnly (s.setDie f x y d) [.maps] := s.setFrame_changes _ _

/-- The blocks the resolution of a result may change. -/
def resolveBlocks : List Block := [.cells, .dir, .maps, .alerts, .xport, .tags]

theorem State.resolveRetest_changes (s : State) (i : SlotId) (r : Record) (f : FrameId) (q : SiteResult) (b0 : Fin 64)
    (n : Nat) : s.changesOnly (s.resolveRetest i r f q b0 n).1 resolveBlocks := by
  unfold State.resolveRetest
  dsimp only
  split
  · exact ((s.setSlot_changes _ _).seq (State.setDie_changes _ _ _ _ _) (ds := [.dir, .maps])).seq
      (State.countChange_changes _ _ _ _)
  · have h : s.changesOnly ((s.setSlot i (some (r.countKeep q))).setDie f q.x q.y (.tested b0 (min (n + 1) 3)))
        resolveBlocks := (s.setSlot_changes _ _).seq (State.setDie_changes _ _ _ _ _)
    split
    · exact h.trans (State.raise_changes _ _).mono
    · exact h
theorem State.resolveResult_changes (s : State) (i : SlotId) (r : Record) (q : SiteResult) :
    s.changesOnly (s.resolveResult i r q).1 resolveBlocks := by
  unfold State.resolveResult
  split
  · exact (s.setSlot_changes _ _).mono
  · dsimp only
    have h0 := s.clearTagsOn_changes i
    split
    · exact h0.seq (State.setSlot_changes _ _ _)
    · split
      · exact (h0.seq ((State.setSlot_changes _ _ _).seq (State.setDie_changes _ _ _ _ _) (ds := [.dir, .maps]))
          (ds := [.tags, .dir, .maps])).seq (State.countChange_changes _ _ _ _)
      · exact h0.seq (State.resolveRetest_changes _ _ _ _ _ _ _)
theorem Progress.entry_changes (c : CellId) (i : SlotId) (p : Progress) (e : SiteEntry) :
    p.state.changesOnly (Progress.entry c i p e).state resolveBlocks := by
  unfold Progress.entry; split
  · exact .refl _ _
  · dsimp only; split
    · exact (State.setSlot_changes _ _ _).mono
    · exact (State.resolveResult_changes _ _ _ _).seq (State.siteRun_changes _ _ _ _ _)
theorem State.collate_changes (s : State) (c : CellId) (i : SlotId) (td : Touchdown) (gap : Half) :
    s.changesOnly (s.collate c i td gap).state resolveBlocks := by
  unfold State.collate
  have h0 : s.changesOnly (s.addGap i gap) resolveBlocks := (s.modRecord_changes _ _).mono
  generalize ([] : List SiteNote) = ns
  generalize ([] : List (Half × Half)) = ds
  generalize s.addGap i gap = t at h0
  induction td.entries generalizing t ds ns with
  | nil => exact h0
  | cons e es ih =>
    have h1 := h0.trans (Progress.entry_changes c i { state := t, dies := ds, notes := ns } e)
    exact ih _ _ _ h1
theorem State.sealAtCap_changes (s : State) (i : SlotId) : s.changesOnly (s.sealAtCap i) sealBlocks := by
  unfold State.sealAtCap; split
  · exact .refl s _
  · split
    · exact s.sealSlot_changes _ _
    · exact .refl s _
theorem State.boundTouchdown_changes (s : State) (c : CellId) (i : SlotId) (b : Bool) (route : Byte) (td : Touchdown)
    (gap : Half) : s.changesOnly (s.boundTouchdown c i b route td gap) directoryBlocks := by
  unfold State.boundTouchdown
  dsimp only
  have h := ((s.collate_changes c i td gap).seq (State.checkpointTest_changes _ i) (ds := directoryBlocks)).seq
    (State.sealAtCap_changes _ i) (ds := directoryBlocks)
  split
  · exact h.trans (State.withHall_changes _ _).mono
  · exact h
theorem State.unboundTouchdown_changes (s : State) (c : CellId) (b : Bool) (route : Byte) (td : Touchdown)
    (v : Verdict) : s.changesOnly (s.unboundTouchdown c b route td v) [.hall] := by
  unfold State.unboundTouchdown; split
  · exact s.withHall_changes _
  · exact .refl s _
theorem State.forwardMarker_changes (s : State) (c : CellId) (b : Bool) (route : Byte) (m : Marker)
    (i : Option SlotId) : s.changesOnly (s.forwardMarker c b route m i) [.hall] := by
  unfold State.forwardMarker; split
  · exact s.withHall_changes _
  · exact .refl s _
theorem State.deliver_changes (s : State) (c : CellId) (lb : BankId) (m : Marker) :
    s.changesOnly (s.deliver c lb m).1 directoryBlocks := by
  unfold State.deliver; split
  · exact s.beginMarker_changes _ _ _ _
  · split
    · exact (s.endMarker_changes _ _).mono
    · split
      · exact (s.lotEndMarker_changes _ _).mono
      · exact .refl s _
theorem State.handleFrame_changes (s : State) (c : CellId) (m : Mode) (e : FifoEntry) :
    s.changesOnly (s.handleFrame c m e) directoryBlocks := by
  unfold State.handleFrame; split
  · split
    · exact (s.unboundTouchdown_changes _ _ _ _ _).mono
    · unfold State.classifyTouchdown
      dsimp only
      split
      · exact (s.resolveKey_changes _ _ _).trans (State.boundTouchdown_changes _ _ _ _ _ _ _)
      · exact (s.resolveKey_changes _ _ _).seq (State.unboundTouchdown_changes _ _ _ _ _ _)
  · split
    · exact (s.forwardMarker_changes _ _ _ _ _).mono
    · exact (s.deliver_changes _ _ _).seq (State.forwardMarker_changes _ _ _ _ _ _)
theorem State.setFlow_changes (s : State) (c : CellId) (f : Flow) : s.changesOnly (s.setFlow c f) [.cells, .sent] := by
  unfold State.setFlow; split
  · exact .refl s _
  · dsimp only; split
    · exact (s.modCell_changes _ _).mono
    · exact (s.modCell_changes _ _).seq (State.emit_changes _ _)
theorem State.popFifo_changes (s : State) (c : CellId) : s.changesOnly (s.popFifo c) [.cells, .sent] := by
  unfold State.popFifo; dsimp only; split
  · exact (s.modCell_changes _ _).seq (State.setFlow_changes _ _ _)
  · exact (s.modCell_changes _ _).mono
theorem State.takeFrom_changes (s : State) (c : CellId) :
    s.changesOnly (s.takeFrom c) (.engine :: .sent :: directoryBlocks) := by
  unfold State.takeFrom; split
  · exact .refl s _
  · exact ((s.popFifo_changes _).seq (State.withEngine_changes _ _) (ds := [.cells, .sent, .engine])).seq
      (State.handleFrame_changes _ _ _ _)

/-! ## Cell ports and the line unit -/

theorem State.setFaultCounts_changes (s : State) (c : CellId) (v : PortCounts) :
    s.changesOnly (s.setFaultCounts c v) [.cells, .alerts] := by
  unfold State.setFaultCounts; dsimp only; split
  · exact (s.modCell_changes _ _).seq (State.raise_changes _ _)
  · exact (s.modCell_changes _ _).mono
theorem State.pushFifo_changes (s : State) (c : CellId) (e : FifoEntry) :
    s.changesOnly (s.pushFifo c e) [.cells, .sent] := by
  unfold State.pushFifo; dsimp only; split
  · exact (s.modCell_changes _ _).seq (State.setFlow_changes _ _ _)
  · exact (s.modCell_changes _ _).mono
theorem State.offer_changes (s : State) (c : CellId) (route : Byte) (f : TesterFrame) :
    s.changesOnly (s.offer c route f) [.cells, .alerts, .sent] := by
  unfold State.offer; split
  · exact (s.modCell_changes _ _).seq (State.raise_changes _ _)
  · split
    · exact (s.pushFifo_changes _ _).mono
    · split
      · exact (s.modCell_changes _ _).mono
      · unfold State.admitTouchdown
        dsimp only
        have h : ∀ e f, s.changesOnly ((s.pushFifo c e).modCell c f) [.cells, .sent] := fun e f =>
          (s.pushFifo_changes _ e).seq (State.modCell_changes _ _ f)
        split
        · exact (h _ _).mono
        · exact (h _ _).seq ((State.modCell_changes _ _ _).seq (State.raise_changes _ _) (ds := [.cells, .alerts]))
theorem State.receiveCell_changes (s : State) (c : CellId) (bs : List Byte) :
    s.changesOnly (s.receiveCell c bs) [.cells, .alerts, .sent] := by
  unfold State.receiveCell; split
  · exact (s.setFaultCounts_changes _ _).mono
  · exact (s.setFaultCounts_changes _ _).mono
  · split
    · exact (s.setFaultCounts_changes _ _).mono
    · exact s.offer_changes _ _ _
theorem State.activeEdge_changes (s : State) (c : CellId) (l : Line) : s.changesOnly (s.activeEdge c l) sealBlocks := by
  unfold State.activeEdge; split
  · exact (s.modCell_changes _ _).mono
  · exact (s.modCell_changes _ _).seq (State.closeOpen_changes _ _ _ _)
theorem State.recognize_changes (s : State) (c : CellId) (l : Line) (v : Level) :
    s.changesOnly (s.recognize c l v) sealBlocks := by
  unfold State.recognize; dsimp only; split
  · exact (s.modCell_changes _ _).seq (State.activeEdge_changes _ _ _)
  · exact (s.modCell_changes _ _).mono
theorem State.rawChange_changes (s : State) (c : CellId) (l : Line) (v : Level) :
    s.changesOnly (s.rawChange c l v) sealBlocks := by
  unfold State.rawChange; dsimp only; split
  · exact .refl s _
  · split
    · exact (s.modCell_changes _ _).mono
    · split
      · exact s.recognize_changes _ _ _
      · exact (s.modCell_changes _ _).mono
theorem State.recognizeDue_changes (s : State) (c : CellId) (l : Line) :
    s.changesOnly (s.recognizeDue c l) sealBlocks := by
  unfold State.recognizeDue; split
  · exact .refl s _
  · split
    · exact s.recognize_changes _ _ _
    · exact .refl s _
theorem State.graceDue_changes (s : State) (c : CellId) : s.changesOnly (s.graceDue c) sealBlocks := by
  unfold State.graceDue; split
  · exact .refl s _
  · split
    · unfold State.graceExpire; split
      · exact (s.stopGrace_changes _).mono
      · exact (s.stopGrace_changes _).seq (State.sealSlot_changes _ _ _)
    · exact .refl s _
theorem State.progressDue_changes (s : State) (i : SlotId) : s.changesOnly (s.progressDue i) [.xport] := by
  unfold State.progressDue; split
  · exact .refl s _
  · split
    · exact (s.requestProgress_changes _).trans (State.startProgress_changes _ _)
    · exact .refl s _

/-- A fold of updates, each within the same blocks, is within them. -/
theorem State.foldl_changes {α : Type} (f : State → α → State) (bs : List Block)
    (h : ∀ (s : State) a, s.changesOnly (f s a) bs) (as : List α) (s : State) : s.changesOnly (as.foldl f s) bs := by
  induction as generalizing s with
  | nil => exact .refl s _
  | cons a as ih => exact (h s a).trans (ih _)

theorem State.settle_changes (s : State) : s.changesOnly s.settle sealBlocks := by
  unfold State.settle
  exact ((State.foldl_changes _ sealBlocks (fun s c => (s.recognizeDue_changes c .load).trans
    (State.recognizeDue_changes _ c .unload)) _ s).trans
    (State.foldl_changes _ sealBlocks (fun s c => s.graceDue_changes c) _ _)).trans
    (State.foldl_changes _ sealBlocks (fun s i => State.changesOnly.mono (cs := sealBlocks) (s.progressDue_changes i)) _ _)
theorem State.tick_changes (s : State) : s.changesOnly s.tick [.cells, .time, .xport] :=
  ((s.withTime_changes _).seq (State.withCells_changes _ _) (ds := [.cells, .time])).seq (State.withXport_changes _ _)

/-! ## The hall port -/

theorem State.setRx_changes (s : State) (v : HallRx) : s.changesOnly (s.setRx v) [.hall] := s.withHall_changes _
theorem State.send_changes (s : State) (st : Stream) (f : OutFrame) (a : TxAction) :
    s.changesOnly (s.send st f a) [.hall] := s.withHall_changes _
theorem State.raiseUnstable_changes (s : State) (d : Dump) :
    s.changesOnly (s.raiseUnstable d) [.cells, .alerts] := by
  unfold State.raiseUnstable; split
  · exact .refl s _
  · exact s.raise_changes _
theorem State.takeRow_changes (s : State) (d : Dump) : s.changesOnly (s.takeRow d) [.xport, .hall] :=
  (s.withXport_changes _).seq (State.send_changes _ _ _ _)
theorem State.takeEnd_changes (s : State) (d : Dump) : s.changesOnly (s.takeEnd d) [.xport, .hall] :=
  ((s.withXport_changes _).trans (State.startDump_changes _)).seq (State.send_changes _ _ _ _)
theorem State.takeMap_changes (s : State) : s.changesOnly s.takeMap [.cells, .alerts, .xport, .hall] := by
  unfold State.takeMap; split
  · exact .refl s _
  · unfold State.takeMapFrame
    split
    · exact (s.takeEnd_changes _).mono
    · split
      · exact (s.takeRow_changes _).mono
      · split
        · exact (s.takeEnd_changes _).mono
        · split
          · exact (s.takeRow_changes _).mono
          · exact (s.raiseUnstable_changes _).seq (State.takeEnd_changes _ _)
theorem State.takeStream_changes (s : State) (st : Stream) :
    s.changesOnly (s.takeStream st) [.cells, .dir, .alerts, .xport, .hall] := by
  cases st
  · show s.changesOnly s.takeResp _
    unfold State.takeResp; split
    · exact .refl s _
    · exact ((s.withHall_changes _).trans (State.send_changes _ _ _ _)).mono
  · show s.changesOnly s.takeAlert _
    unfold State.takeAlert; split
    · exact .refl s _
    · exact (s.withAlerts_changes _).seq (State.send_changes _ _ _ _)
  · show s.changesOnly s.takeFwd _
    unfold State.takeFwd; split
    · exact .refl s _
    · exact ((s.withHall_changes _).trans (State.send_changes _ _ _ _)).mono
  · show s.changesOnly s.takeSum _
    unfold State.takeSum; split
    · exact .refl s _
    · exact ((s.withXport_changes _).seq (State.fillPlace_changes _) (ds := [.dir, .xport])).seq
        (State.send_changes _ _ _ _)
  · exact s.takeMap_changes.mono
theorem State.exportStep_changes (s : State) (i : SlotId) : s.changesOnly (s.exportStep i) [.dir] := by
  unfold State.exportStep; split
  · exact .refl s _
  · split
    · exact (s.setSlot_changes _ _).trans (State.withDir_changes _ _)
    · exact .refl s _
theorem State.complete_changes (s : State) (a : TxAction) :
    s.changesOnly (s.complete a) [.cells, .dir, .alerts, .xport] := by
  cases a with
  | nothing => exact .refl s _
  | final i =>
    show s.changesOnly (s.finalDone i) _
    unfold State.finalDone; split
    · exact .refl s _
    · split
      · exact .refl s _
      · split
        · exact (s.chainMap_changes _).mono
        · exact (s.exportStep_changes _).mono
  | mapRow =>
    show s.changesOnly s.rowDone _
    unfold State.rowDone; split
    · exact .refl s _
    · split
      · exact .refl s _
      · split
        · exact (s.withXport_changes _).mono
        · exact (s.raiseUnstable_changes _).seq (State.withXport_changes _ _)
  | mapEnd i b =>
    show s.changesOnly (s.endDone i b) _
    unfold State.endDone; split
    · exact .refl s _
    · split
      · exact .refl s _
      · split
        · exact (s.exportStep_changes _).mono
        · split
          · exact (s.chainMap_changes _).mono
          · exact .refl s _

/-! ## Outputs and resets -/

/-- The STOP line is deasserted while RESET_N is held, and follows the latch otherwise (R32). -/
@[simp] theorem State.stopLine_held (s : State) (c : CellId) : s.stopLine true c = false := rfl
@[simp] theorem State.stopLine_running (s : State) (c : CellId) : s.stopLine false c = (s.cell c).stopLatch := rfl
/-- A hall reset is a power-on reset with some straps, but for the model's count of draws (R192). -/
theorem State.hallReset_eq (s : State) :
    s.hallReset = (s.resetAll (Config.strapLevels s.draws)).withDraws (s.draws + 1) := rfl

end Sys2Proof.Machine
end

