-- ==== Sys2Proof/Laws/PerInstr.lean ====
section
/-! SUPPORT. One lemma for each command: the name code a well-formed request carries spells that request's command
(R178, R200). -/

/-- A well-formed command that is a request is the one its name code and request spell. -/
def Sys2Proof.Laws.OfRequest.Statement (i : Sys2Proof.Instr) : Prop :=
  ∀ name rq, i.wellFormed = true → i.nameCode = some name → i.request = some rq →
    Sys2Proof.Instr.ofRequest name rq = i

theorem Sys2Proof.Laws.OfRequest.powerOnReset (straps : BitVec 4) :
    Sys2Proof.Laws.OfRequest.Statement (.powerOnReset straps) := by
  intro n r _ hn
  cases hn

theorem Sys2Proof.Laws.OfRequest.cellFrameReception (c : Sys2Proof.CellId) (bytes : List Sys2Proof.Byte) :
    Sys2Proof.Laws.OfRequest.Statement (.cellFrameReception c bytes) := by
  intro n r _ hn
  cases hn

theorem Sys2Proof.Laws.OfRequest.lineLevelChange (c : Sys2Proof.CellId) (line : Sys2Proof.Line) (level : Sys2Proof.Level) :
    Sys2Proof.Laws.OfRequest.Statement (.lineLevelChange c line level) := by
  intro n r _ hn
  cases hn

theorem Sys2Proof.Laws.OfRequest.edgeRecognition (c : Sys2Proof.CellId) (line : Sys2Proof.Line) (level : Sys2Proof.Level) :
    Sys2Proof.Laws.OfRequest.Statement (.edgeRecognition c line level) := by
  intro n r _ hn
  cases hn

theorem Sys2Proof.Laws.OfRequest.timeCountStep :
    Sys2Proof.Laws.OfRequest.Statement (.timeCountStep) := by
  intro n r _ hn
  cases hn

theorem Sys2Proof.Laws.OfRequest.graceExpiry (c : Sys2Proof.CellId) :
    Sys2Proof.Laws.OfRequest.Statement (.graceExpiry c) := by
  intro n r _ hn
  cases hn

theorem Sys2Proof.Laws.OfRequest.progressExpiry (slot : Sys2Proof.SlotId) :
    Sys2Proof.Laws.OfRequest.Statement (.progressExpiry slot) := by
  intro n r _ hn
  cases hn

theorem Sys2Proof.Laws.OfRequest.engineTake :
    Sys2Proof.Laws.OfRequest.Statement (.engineTake) := by
  intro n r _ hn
  cases hn

theorem Sys2Proof.Laws.OfRequest.pause :
    Sys2Proof.Laws.OfRequest.Statement (.pause) := by
  intro n r _ hn
  cases hn

theorem Sys2Proof.Laws.OfRequest.resumeSymbol :
    Sys2Proof.Laws.OfRequest.Statement (.resumeSymbol) := by
  intro n r _ hn
  cases hn

theorem Sys2Proof.Laws.OfRequest.hallFrameReception (bytes : List Sys2Proof.Byte) :
    Sys2Proof.Laws.OfRequest.Statement (.hallFrameReception bytes) := by
  intro n r _ hn
  cases hn

theorem Sys2Proof.Laws.OfRequest.transmitTake :
    Sys2Proof.Laws.OfRequest.Statement (.transmitTake) := by
  intro n r _ hn
  cases hn

theorem Sys2Proof.Laws.OfRequest.transmitCompletion :
    Sys2Proof.Laws.OfRequest.Statement (.transmitCompletion) := by
  intro n r _ hn
  cases hn

theorem Sys2Proof.Laws.OfRequest.unknownRequest (name : Sys2Proof.Byte) (rq : Sys2Proof.Request) :
    Sys2Proof.Laws.OfRequest.Statement (.unknownRequest name rq) := by
  intro n r hw hn hr
  cases hn
  cases hr
  have h : Sys2Proof.knownNames.contains name = false := by
    cases hk : Sys2Proof.knownNames.contains name
    · rfl
    · simp [Sys2Proof.Instr.wellFormed] at hw
      exact absurd (List.contains_iff_mem.1 hk) hw.1
  have hne : ∀ k : Sys2Proof.Byte, Sys2Proof.knownNames.contains k = true → name ≠ k :=
    fun k hk he => Bool.noConfusion (h.symm.trans (he ▸ hk))
  unfold Sys2Proof.Instr.ofRequest
  repeat rw [if_neg (hne _ rfl)]

theorem Sys2Proof.Laws.OfRequest.ident (rq : Sys2Proof.Request) :
    Sys2Proof.Laws.OfRequest.Statement (.ident rq) := by
  intro n r _ hn hr
  cases hn
  cases hr
  rfl

theorem Sys2Proof.Laws.OfRequest.timeSet (rq : Sys2Proof.Request) :
    Sys2Proof.Laws.OfRequest.Statement (.timeSet rq) := by
  intro n r _ hn hr
  cases hn
  cases hr
  rfl

theorem Sys2Proof.Laws.OfRequest.timeRead (rq : Sys2Proof.Request) :
    Sys2Proof.Laws.OfRequest.Statement (.timeRead rq) := by
  intro n r _ hn hr
  cases hn
  cases hr
  rfl

theorem Sys2Proof.Laws.OfRequest.cellSet (rq : Sys2Proof.Request) :
    Sys2Proof.Laws.OfRequest.Statement (.cellSet rq) := by
  intro n r _ hn hr
  cases hn
  cases hr
  rfl

theorem Sys2Proof.Laws.OfRequest.cellRead (rq : Sys2Proof.Request) :
    Sys2Proof.Laws.OfRequest.Statement (.cellRead rq) := by
  intro n r _ hn hr
  cases hn
  cases hr
  rfl

theorem Sys2Proof.Laws.OfRequest.cellRestart (rq : Sys2Proof.Request) :
    Sys2Proof.Laws.OfRequest.Statement (.cellRestart rq) := by
  intro n r _ hn hr
  cases hn
  cases hr
  rfl

theorem Sys2Proof.Laws.OfRequest.stopClear (rq : Sys2Proof.Request) :
    Sys2Proof.Laws.OfRequest.Statement (.stopClear rq) := by
  intro n r _ hn hr
  cases hn
  cases hr
  rfl

theorem Sys2Proof.Laws.OfRequest.bankOpen (rq : Sys2Proof.Request) :
    Sys2Proof.Laws.OfRequest.Statement (.bankOpen rq) := by
  intro n r _ hn hr
  cases hn
  cases hr
  rfl

theorem Sys2Proof.Laws.OfRequest.bankRecipe (rq : Sys2Proof.Request) :
    Sys2Proof.Laws.OfRequest.Statement (.bankRecipe rq) := by
  intro n r _ hn hr
  cases hn
  cases hr
  rfl

theorem Sys2Proof.Laws.OfRequest.bankXlate (rq : Sys2Proof.Request) :
    Sys2Proof.Laws.OfRequest.Statement (.bankXlate rq) := by
  intro n r _ hn hr
  cases hn
  cases hr
  rfl

theorem Sys2Proof.Laws.OfRequest.bankClass (rq : Sys2Proof.Request) :
    Sys2Proof.Laws.OfRequest.Statement (.bankClass rq) := by
  intro n r _ hn hr
  cases hn
  cases hr
  rfl

theorem Sys2Proof.Laws.OfRequest.bankZone (rq : Sys2Proof.Request) :
    Sys2Proof.Laws.OfRequest.Statement (.bankZone rq) := by
  intro n r _ hn hr
  cases hn
  cases hr
  rfl

theorem Sys2Proof.Laws.OfRequest.bankClose (rq : Sys2Proof.Request) :
    Sys2Proof.Laws.OfRequest.Statement (.bankClose rq) := by
  intro n r _ hn hr
  cases hn
  cases hr
  rfl

theorem Sys2Proof.Laws.OfRequest.bankDrop (rq : Sys2Proof.Request) :
    Sys2Proof.Laws.OfRequest.Statement (.bankDrop rq) := by
  intro n r _ hn hr
  cases hn
  cases hr
  rfl

theorem Sys2Proof.Laws.OfRequest.bankLive (rq : Sys2Proof.Request) :
    Sys2Proof.Laws.OfRequest.Statement (.bankLive rq) := by
  intro n r _ hn hr
  cases hn
  cases hr
  rfl

theorem Sys2Proof.Laws.OfRequest.bankRead (rq : Sys2Proof.Request) :
    Sys2Proof.Laws.OfRequest.Statement (.bankRead rq) := by
  intro n r _ hn hr
  cases hn
  cases hr
  rfl

theorem Sys2Proof.Laws.OfRequest.alertSet (rq : Sys2Proof.Request) :
    Sys2Proof.Laws.OfRequest.Statement (.alertSet rq) := by
  intro n r _ hn hr
  cases hn
  cases hr
  rfl

theorem Sys2Proof.Laws.OfRequest.streamSet (rq : Sys2Proof.Request) :
    Sys2Proof.Laws.OfRequest.Statement (.streamSet rq) := by
  intro n r _ hn hr
  cases hn
  cases hr
  rfl

theorem Sys2Proof.Laws.OfRequest.waferList (rq : Sys2Proof.Request) :
    Sys2Proof.Laws.OfRequest.Statement (.waferList rq) := by
  intro n r _ hn hr
  cases hn
  cases hr
  rfl

theorem Sys2Proof.Laws.OfRequest.waferRead (rq : Sys2Proof.Request) :
    Sys2Proof.Laws.OfRequest.Statement (.waferRead rq) := by
  intro n r _ hn hr
  cases hn
  cases hr
  rfl

theorem Sys2Proof.Laws.OfRequest.waferMark (rq : Sys2Proof.Request) :
    Sys2Proof.Laws.OfRequest.Statement (.waferMark rq) := by
  intro n r _ hn hr
  cases hn
  cases hr
  rfl

theorem Sys2Proof.Laws.OfRequest.waferSeal (rq : Sys2Proof.Request) :
    Sys2Proof.Laws.OfRequest.Statement (.waferSeal rq) := by
  intro n r _ hn hr
  cases hn
  cases hr
  rfl

theorem Sys2Proof.Laws.OfRequest.waferDrop (rq : Sys2Proof.Request) :
    Sys2Proof.Laws.OfRequest.Statement (.waferDrop rq) := by
  intro n r _ hn hr
  cases hn
  cases hr
  rfl

theorem Sys2Proof.Laws.OfRequest.waferFree (rq : Sys2Proof.Request) :
    Sys2Proof.Laws.OfRequest.Statement (.waferFree rq) := by
  intro n r _ hn hr
  cases hn
  cases hr
  rfl

theorem Sys2Proof.Laws.OfRequest.waferSend (rq : Sys2Proof.Request) :
    Sys2Proof.Laws.OfRequest.Statement (.waferSend rq) := by
  intro n r _ hn hr
  cases hn
  cases hr
  rfl

theorem Sys2Proof.Laws.OfRequest.mapSend (rq : Sys2Proof.Request) :
    Sys2Proof.Laws.OfRequest.Statement (.mapSend rq) := by
  intro n r _ hn hr
  cases hn
  cases hr
  rfl

theorem Sys2Proof.Laws.OfRequest.mapStop (rq : Sys2Proof.Request) :
    Sys2Proof.Laws.OfRequest.Statement (.mapStop rq) := by
  intro n r _ hn hr
  cases hn
  cases hr
  rfl

theorem Sys2Proof.Laws.OfRequest.linkRead (rq : Sys2Proof.Request) :
    Sys2Proof.Laws.OfRequest.Statement (.linkRead rq) := by
  intro n r _ hn hr
  cases hn
  cases hr
  rfl

theorem Sys2Proof.Laws.OfRequest.resetAll (rq : Sys2Proof.Request) :
    Sys2Proof.Laws.OfRequest.Statement (.resetAll rq) := by
  intro n r _ hn hr
  cases hn
  cases hr
  rfl

theorem Sys2Proof.Laws.OfRequest.cellOpenFrameDiscard (c : Sys2Proof.CellId) (cause : Sys2Proof.DiscardCause) :
    Sys2Proof.Laws.OfRequest.Statement (.cellOpenFrameDiscard c cause) := by
  intro n r _ hn
  cases hn

theorem Sys2Proof.Laws.OfRequest.hallOpenFrameDiscard (cause : Sys2Proof.DiscardCause) :
    Sys2Proof.Laws.OfRequest.Statement (.hallOpenFrameDiscard cause) := by
  intro n r _ hn
  cases hn
end

