-- ==== Sys2Proof/Tests/Slice0.lean ====
section
/-! SUPPORT. Tests. Smoke tests of WellFormed; the manual's own worked examples; and one witness for the hypotheses of
each statement that has some, clause by clause. -/

set_option Elab.async false

namespace Sys2Proof.Tests

open Sys2Proof Sys2Proof.Machine

/-! ## Helpers -/

/-- A request from Q1 to node 0, the node of a part right after the model's reset, with tag 7. -/
def rqOf (args : List Byte) : Request := { route := 0x01, tag := 7, args := args }

/-- The state a command answers. -/
def after (i : Instr) (s : State) : State :=
  match exec i s with
  | .next t => t
  | .fault _ => s
  | .refused _ => s

/-- A requests's status and data, the last reply being its own. -/
def replyOf (i : Instr) (s : State) : List Byte :=
  match (after i s).hall.resp.getLast? with
  | none => []
  | some f => f.payload.drop 2

/-- Cell C0 in a mode. -/
def inMode (m : Mode) : State := State.reset.modCell 0 fun k => { k with cfg := { k.cfg with mode := m } }

/-- A key. -/
def key1 : Key := { lot := 0x00A177C0, wafer := 9 }

/-- A touchdown with one entry. -/
def td1 : Touchdown := { key := key1, seq := 104, entries := [{ site := 2, flags := 5, x := 20, y := 14, softBin := 3 }] }

/-- A marker of a kind. -/
def mk1 (kind : Byte) : Marker := { kind := kind, key := key1, recipe := 0 }

/-- A recipe in use. -/
def rc1 : Recipe := { Recipe.clear with inUse := true, period := 1 }

/-- Bank A with recipe 0 in use, in a state. -/
def bankIn (st : BankState) (owner : Option (Fin 4)) : Bank :=
  { Bank.reset with state := st, owner := owner, gen := 3, recipes := Bank.reset.recipes.set 0 rc1 }

/-- A part with bank A LIVE. -/
def live : State := (inMode .silent).setBank .a (bankIn .live none)

/-- A part with bank A LOADING, owned by Q1. -/
def loading : State := State.reset.setBank .a (bankIn .loading (some 1))

/-- A record on C0 in slot W0, with frame F0. -/
def rec1 (st : RecordState) : Record := { freshRecord key1 0 0 .a 3 (some 0) none 0 with state := st }

/-- A part with one record, in a state, in slot W0, and on the lists where that state puts it. -/
def holding (st : RecordState) : State :=
  let s := (live.setBank .a { bankIn .live none with bound := if (rec1 st).isActive then 1 else 0 }).setSlot 0
    (some (rec1 st))
  (s.withDir { s.dir with
    exportOrder := if st = .exported then [0] else []
    sealOrder := if (rec1 st).isSealed then [0] else [] }).withMaps { s.maps with free := s.maps.free.tail }

/-- A part with a record in every slot, all in one state, each with a key of its own and no frame. -/
def full (st : RecordState) : State :=
  live.withDir
    { slots := Vector.ofFn fun i => some { rec1 st with key := { lot := 1, wafer := natByte i.val }, frame := none }
      exportOrder := if st = .exported then allSlots else []
      sealOrder := allSlots }

/-- A part with no free frame and one EXPORTED record that holds F5, or no frame. -/
def outOfFrames (f : Option FrameId) : State :=
  let s := (holding .exported).setSlot 0 (some { rec1 .exported with key := { lot := 1, wafer := 1 }, frame := f })
  s.withMaps { s.maps with free := [] }

/-- A dump of the record in W0, at a row, with restarts behind it. -/
def dumpAt (row restarts : Nat) (dirty : Bool) : Dump :=
  { newDump 0 .chain (rec1 .closed) 0 rc1 with nextRow := row, restarts := restarts, dirty := dirty, begun := true }

/-- A part that dumps its record in W0. -/
def dumping (d : Dump) : State := (holding .closed).withXport { ExportEngine.reset with dump := some d }

/-- A part sending a frame that acts so at its completion. -/
def sendingWith (s : State) (a : TxAction) : State := s.send .sum ⟨0x22, 0, []⟩ a

/-- The part's SUM queue holds these entries. -/
def queued (s : State) (es : List (SlotId × SumKind)) : State := s.withXport { s.xport with sumQ := es }

/-- FINAL entries of the slots W1 to W8, and the same with W8's a PROGRESS entry. -/
def finals (last : SumKind) : List (SlotId × SumKind) :=
  [(1, .final), (2, .final), (3, .final), (4, .final), (5, .final), (6, .final), (7, .final), (8, last)]

/-- The same with an entry in C0's FIFO. -/
def fed (s : State) (e : FifoEntry) : State := s.modCell 0 fun k => { k with fifo := [e] }

/-- A candidate held for its width. -/
def due : Candidate := { level := .high, held := 4, width := 4 }

/-- The same part, whose C0 has the filter OFF. -/
def unfiltered (s : State) : State := s.modCell 0 fun k => { k with cfg := { k.cfg with filter := .off } }

/-- Two bin entries. -/
def binEntries : List (Byte × Half) := [(3, 10001), (0, 1)]

/-- A site's result on die (511, 14), of a class. -/
def resultOf (cls : BinClass) : SiteResult := { x := 511, y := 14, bin := 7, cls := cls, zone := 0, site := 2 }

/-! ## WellFormed -/

theorem test_unknownRequest_refuses_a_known_name : (Instr.unknownRequest 0x01 (rqOf [])).wellFormed = false := by
  decide
theorem test_wellFormed_refuses_an_oversize_request :
    (Instr.bankXlate (rqOf (List.replicate 1023 0))).wellFormed = false := by decide +kernel
theorem test_wellFormed_takes_the_largest_request :
    (Instr.bankXlate (rqOf (List.replicate 1022 0))).wellFormed = true := by decide +kernel

/-! ## The manual's worked examples -/

/-- The CRC of "123456789" under the generator and starting value of R194 is 0x29B1 (the published check value of that
CRC). -/
theorem test_crc_check_value : crcOf [0x31, 0x32, 0x33, 0x34, 0x35, 0x36, 0x37, 0x38, 0x39] = 0x29B1 := by
  decide +kernel

/-- R9: 101 after 100, 0 after 65535, 104 after 101, 99 after 100. -/
theorem test_gaps : [gapOf (some 100) 101, gapOf (some 65535) 0, gapOf (some 101) 104, gapOf (some 100) 99,
    gapOf none 9] = [0, 0, 2, 65534, 0] := by decide

/-- The zone table of 3.6 and its lookups. -/
theorem test_zone_lookups :
    let z (x nx y ny : Nat) : ZoneEntry := ⟨true, BitVec.ofNat 16 x, natByte nx, BitVec.ofNat 16 y, natByte ny, 0⟩
    let k := (((Bank.reset.setZone 0 (z 0 0 0 4)).setZone 1 (z 0 0 480 4)).setZone 2 (z 0 4 0 0)).setZone 3 (z 480 4 0 0)
    [k.zoneOf 10 5, k.zoneOf 10 200, k.zoneOf 300 300, k.zoneOf 500 500, k.zoneOf 500 31, k.zoneOf 500 32] =
      [1, 3, 0, 2, 1, 4] := by decide +kernel

/-- R46: W = 600, H = 0, G = 300,000 are stored as 512, 1 and 512. -/
theorem test_recipe_clamps :
    (recipeOfBytes ([0x0A, 0, 1] ++ natHalf 600 ++ natHalf 0 ++ wordBytes 300000 ++ List.replicate 13 0)).map
      (fun r => (r.width, r.height, r.gross)) = some (512, 1, 512) := by decide +kernel

/-- R47: 40 entries starting at soft bin 500 write soft bins 500 to 511 and report 12. -/
theorem test_xlate_stops_past_511 :
    replyOf (.bankXlate (rqOf ([0x0A, 2, 0x01, 0xF4, 40] ++ List.replicate 40 5))) loading = [0, 12] := by
  decide +kernel

/-- 7.9: Q(1873, 1998) = 9374, Q(271, 310) = 8741, Q(60, 1998) = 300, Q(41, 1998) = 205; 7.10: 10083 is capped. -/
theorem test_ratios : [ratio 1873 1998, ratio 271 310, ratio 60 1998, ratio 41 1998, ratio 1210 1200, ratio 0 0] =
    [some 9374, some 8741, some 300, some 205, some 10000, none] := by decide

/-- A record as 6.8 has it before its sequence, on bank A with the classes of 6.8, under a policy. -/
def w5 (p : Policy) : State :=
  let bins := ((Bank.reset.bins.set 0 ⟨.pass, 10000⟩).set 7 ⟨.recheck, 10000⟩).set 62 ⟨.void, 10000⟩
  let r := { rec1 .opened with counts := ⟨50, 44, 44, 0, 0, 0, 0, 0, 0⟩ }
  (State.reset.setBank .a
    { bankIn .live none with bins := bins, recipes := Bank.reset.recipes.set 0 { rc1 with policy := p } }).setSlot 5
      (some r)

/-- The five results of 6.8 for die (20, 14), resolved in order: the verdicts and test counts. -/
def five (p : Policy) : List (Verdict × Nat) :=
  let q (bin : Fin 64) (c : BinClass) (site : Fin 16) : SiteResult := ⟨20, 14, bin, c, 2, site⟩
  ([q 7 .recheck 1, q 62 .void 3, q 0 .pass 3, q 3 .fail 1, q 7 .recheck 1].foldl
    (fun (a : State × List (Verdict × Nat)) q => match a.1.record 5 with
      | none => a
      | some r => ((a.1.resolveResult 5 r q).1, a.2 ++ [(a.1.resolveResult 5 r q).2])) (w5 p, [])).2

/-- 6.8: one die under RECHECK_ONLY and PASS_WINS. -/
theorem test_retests_under_recheckOnly :
    five .recheckOnly = [(.new, 1), (.void, 1), (.replaced, 2), (.kept, 3), (.kept, 3)] := by decide +kernel
/-- 6.8: one die under LATEST. -/
theorem test_retests_under_latest :
    five .latest = [(.new, 1), (.void, 1), (.replaced, 2), (.replaced, 3), (.replaced, 3)] := by decide +kernel

/-- R200: the lengths the manual gives: CELL_READ 54 bytes, LINK_READ 24, a FREE slot's WAFER_READ 3. -/
theorem test_reply_lengths :
    [replyOf (.cellRead (rqOf [0, 0])) State.reset, replyOf (.linkRead (rqOf [0])) State.reset,
      replyOf (.waferRead (rqOf [0])) State.reset].map List.length = [55, 25, 4] := by decide +kernel

/-- 3.5: BANK_DROP makes a LOADING bank IDLE, from any requester. -/
theorem test_drop_from_another_requester :
    ((after (.bankDrop { rqOf [0x0A] with route := 0x02 }) loading).bank .a).state = .idle := by decide +kernel

/-- R175: a broadcast is carried out and gets no reply. -/
theorem test_broadcast_has_no_reply :
    let t := after (.timeSet { rqOf [0, 0, 1, 0] with route := 0xF2 }) State.reset
    (t.time, t.hall.resp) = (256, []) := by decide +kernel

/-- 10.9, steps 1 and 10: a mark, and the seal it allows. -/
theorem test_marked_record_seals :
    ((after (.waferSeal (rqOf [0])) (after (.waferMark (rqOf [0])) (holding .opened))).record 0).map
      (fun r => (r.state, r.reason)) = some (.closed, some .host) := by decide +kernel
/-- 10.9, step 4: without the tag nothing seals. -/
theorem test_unmarked_record_does_not_seal :
    ((after (.waferSeal (rqOf [0])) (holding .opened)).record 0).map (fun r => r.state) = some .opened := by
  decide +kernel

/-! ## Witnesses: laws and steps -/

theorem witness_StepRunsTheFrontCommand : (State.reset.withPending [.pause]).pending = .pause :: [] := rfl
theorem witness_ListLaw : (holding .opened).listLaw ∧ (full .exported).listLaw :=
  ⟨⟨by decide +kernel, by decide +kernel, by decide +kernel⟩,
    by decide +kernel, by decide +kernel, by decide +kernel⟩
theorem witness_FrameTallyAndRecordLaws :
    (holding .opened).frameLaw ∧ (holding .opened).tallyLaw ∧ (holding .opened).recordLaw := by
  refine ⟨by decide +kernel, by decide +kernel, by decide +kernel⟩
/-- A die byte moves T, its bin and its zone: the count laws hold of a record after its first result. -/
theorem witness_TallyLaw_after_a_result :
    let s := ((holding .opened).resolveResult 0 (rec1 .opened) ⟨511, 511, 63, .fail, 8, 15⟩).1
    s.tallyLaw ∧ ((s.record 0).map fun r => r.counts.t) = some 1 := by
  refine ⟨by decide +kernel, by decide +kernel⟩
theorem witness_LawsKeptByEveryStep :
    (holding .opened).withinCapacities ∧ (holding .opened).storesCanonical ∧ (holding .opened).bankLaw ∧
      (holding .opened).boundLaw ∧ (holding .opened).alertLaw ∧ ∃ t, step (holding .opened) = .next t := by
  refine ⟨by decide +kernel, by decide +kernel, by decide +kernel, by decide +kernel, by decide +kernel, ⟨_, rfl⟩⟩

/-! ## Witnesses: encodings and requests in general -/

theorem witness_FrameIsReadBack : (OutFrame.mk 0x31 0x01 (List.replicate 1024 0)).payload.length ≤ 1024 := by
  decide +kernel
theorem witness_TesterPayloadIsReadBack :
    ({ td1 with entries := List.replicate 16 ⟨0, 0, 0, 0, 0⟩ } : Touchdown).entries.length ≤ 16 := by decide
theorem witness_RequestFrameRunsItsCommand :
    (Instr.timeRead (rqOf [])).wellFormed = true ∧ (Instr.timeRead (rqOf [])).nameCode = some 0x03 ∧
      (Instr.timeRead (rqOf [])).request = some (rqOf []) ∧ State.reset.hall.rx.fifo = [] ∧
      State.reset.addressed (rqOf []).route = true ∧ State.reset.hall.resp.length < 8 := by decide +kernel
theorem witness_RequestIsAnsweredOnce :
    (Instr.ident (rqOf [])).wellFormed = true ∧ (Instr.ident (rqOf [])).nameCode = some 0x01 ∧
      (Instr.ident (rqOf [])).request = some (rqOf []) ∧ Instr.ident (rqOf []) ≠ .resetAll (rqOf []) ∧
      State.reset.takesNow 0x01 (rqOf []) := by decide +kernel
theorem witness_RequestWaits :
    8 ≤ (State.reset.withHall { HallPort.reset with resp := List.replicate 8 ⟨0x32, 0, []⟩ }).hall.resp.length := by
  decide
theorem witness_UnfitRequestsChangeNothing :
    (Instr.cellSet (rqOf [0])).argLength = some 9 ∧ (Instr.cellSet (rqOf [0])).nameCode = some 0x10 ∧
      State.reset.takesNow 0x10 (rqOf [0]) ∧ (rqOf [0]).args.length ≠ 9 ∧ (0x99 : Byte) ∉ knownNames ∧
      State.reset.takesNow 0x99 (rqOf []) := by decide +kernel
/-- A RESET_ALL with an argument, and lists that disagree with their counts. -/
theorem witness_Unfit_lists :
    (Instr.resetAll (rqOf [0])).argLength = some 0 ∧ State.reset.takesNow 0x7F (rqOf [0]) ∧
      (Instr.bankXlate (rqOf [0x0A, 0, 0, 0, 2, 1])).argLength = some 7 ∧
      (Instr.bankClass (rqOf [0x0A, 0, 1, 0, 0])).argLength = some 6 ∧
      (Instr.alertSet (rqOf [0, 0, 1, 1, 2, 3])).argLength = some 5 := by decide +kernel
/-- The values next to each selector's last, and codes past the last that names a value. -/
theorem witness_NamesNothing :
    State.reset.namesNothing (.stopClear (rqOf [8])) = true ∧ State.reset.namesNothing (.stopClear (rqOf [7])) = false ∧
      State.reset.namesNothing (.waferDrop (rqOf [24])) = true ∧ State.reset.namesNothing (.mapSend (rqOf [23])) = false ∧
      State.reset.namesNothing (.bankLive (rqOf [0x0C])) = true ∧ State.reset.namesNothing (.bankOpen (rqOf [0x0A, 2])) = true ∧
      loading.namesNothing (.bankOpen (rqOf [0x0A, 2])) = false ∧
      loading.namesNothing (.bankXlate (rqOf [0x0A, 8, 0, 0, 0])) = true ∧
      State.reset.namesNothing (.bankXlate (rqOf [0x0A, 8, 0, 0, 0])) = false ∧
      loading.namesNothing (.bankClass (rqOf [0x0A, 63, 1, 4, 0, 0])) = true ∧
      State.reset.namesNothing (.alertSet (rqOf [0, 0, 1, 16, 0])) = true ∧
      State.reset.namesNothing (.streamSet (rqOf [0x20, 0, 0, 0, 0, 0, 2])) = true ∧
      State.reset.namesNothing (.linkRead (rqOf [2])) = true ∧ State.reset.takesNow 0x60 (rqOf [2]) := by decide +kernel
theorem witness_HallResetIsPowerOnReset : State.reset.takesNow 0x7F (rqOf []) ∧ (rqOf []).args = [] := by
  decide +kernel

/-! ## Witnesses: cell links -/

theorem witness_CrcMismatchIsCounted :
    (State.reset.cell 0).cfg.mode = .off ∧ ((inMode .collate).cell 0).cfg.mode ≠ .off ∧
      checkFrame [1, 0, 0, 0, 0, 0] = .crc ∧ ((inMode .collate).cell 0).counts.crc ≠ 0xFFFF := by decide +kernel
theorem witness_TouchdownIsAdmitted :
    ((inMode .collate).cell 0).cfg.mode ≠ .off ∧ td1.entries.length ≤ 16 ∧
      ((inMode .collate).cell 0).fifo.length < 16 ∧ ((inMode .collate).cell 0).tracker ≠ some td1.seq ∧
      ((inMode .collate).cell 0).tracker = none := by decide +kernel
theorem witness_TouchdownIsAdmitted_with_a_gap :
    let s := (inMode .collate).modCell 0 fun k => { k with tracker := some 101 }
    (s.cell 0).fifo.length < 16 ∧ (s.cell 0).tracker ≠ some td1.seq ∧ (s.cell 0).tracker = some 101 ∧
      (2 : Half) = td1.seq - 101 - 1 := by decide +kernel
theorem witness_OpenFrameDiscardIsCounted : ((inMode .silent).cell 0).cfg.mode ≠ .off := by decide +kernel
/-- Five bytes; a length of 1025; a byte too many; a hall class; seven bytes of TOUCHDOWN; site count 17; eight bytes of
MARKER; a REQUEST without its tag. -/
theorem witness_FramingFaults :
    framingFault [1, 0, 0, 0, 0] ∧ framingFault [1, 0, 0x04, 0x01, 0, 0] ∧ framingFault [1, 0, 0, 0, 0, 0, 0] ∧
      contentFault ⟨0x31, 0, []⟩ ∧ contentFault ⟨0x01, 0, List.replicate 7 0⟩ ∧
      contentFault ⟨0x01, 0, List.replicate 7 0 ++ [17]⟩ ∧ contentFault ⟨0x02, 0, List.replicate 8 0⟩ ∧
      (OutFrame.mk 0x31 0 [0x01]).payload.length < 2 := by
  simp only [framingFault, contentFault]
  decide +kernel
theorem witness_DuplicatesAndOverrunsAreDiscarded :
    let s := (inMode .collate).modCell 0 fun k => { k with tracker := some 104 }
    let f := (inMode .collate).modCell 0 fun k => { k with fifo := List.replicate 16 (.marker 0 (mk1 1)) }
    (s.cell 0).fifo.length < 16 ∧ (s.cell 0).tracker = some td1.seq ∧ (f.cell 0).fifo.length = 16 ∧
      (f.cell 0).cfg.mode ≠ .off := by decide +kernel

/-! ## Witnesses: lines and time -/

theorem witness_LevelChangeOpensOrCancelsACandidate :
    let n : InputLine := { pin := .high, recognized := .low, candidate := some ⟨.high, 3, 4⟩ }
    let s := State.reset.setLine 0 .load n
    (State.reset.cell 0).cfg.filter ≠ .off ∧ ((State.reset.cell 0).line .load).pin ≠ .high ∧
      ((State.reset.cell 0).line .load).candidate = none ∧ ((State.reset.cell 0).line .load).recognized ≠ .high ∧
      ((s.cell 0).line .load).pin ≠ .low ∧ ((s.cell 0).line .load).candidate = some ⟨.high, 3, 4⟩ ∧
      ((s.cell 0).line .load).recognized = .low := by decide +kernel
/-- With the filter OFF, a level away from the recognized one and no candidate. -/
theorem witness_LevelChange_with_the_filter_off :
    let s := unfiltered State.reset
    ((s.cell 0).line .unload).pin ≠ .high ∧ (s.cell 0).cfg.filter = .off ∧ ((s.cell 0).line .unload).candidate = none ∧
      ((s.cell 0).line .unload).recognized ≠ .high := by decide +kernel
theorem witness_LoadEdgeIsStamped :
    (State.reset.setLine 0 .load { pin := .high, recognized := .low, candidate := some due }).recognizesNow
      (.edgeRecognition 0 .load .high) 0 .load .high :=
  .inl ⟨rfl, due, by decide +kernel, by decide, by decide⟩
theorem witness_UnloadEdgeClosesTheOpenRecord :
    let s := unfiltered (holding .opened)
    s.recognizesNow (.lineLevelChange 0 .unload .high) 0 .unload .high ∧ (s.cell 0).cfg.unloadPol.activeTo .high ∧
      s.openOn 0 = some 0 ∧ s.record 0 = some (rec1 .opened) ∧ s.closingOn 0 = none ∧ (s.cell 0).cfg.grace ≠ 0 ∧
      s.recordLaw := by
  refine ⟨.inr ⟨rfl, ?_⟩, ?_⟩ <;> decide +kernel
theorem witness_UnloadEdge_without_an_open_record :
    let s := unfiltered State.reset
    s.recognizesNow (.lineLevelChange 0 .unload .high) 0 .unload .high ∧
      ((s.cell 0).cfg.unloadPol.activeTo .high → s.openOn 0 = none) := by
  refine ⟨.inr ⟨rfl, ?_⟩, ?_⟩ <;> decide +kernel
theorem witness_MarkersAndTheOpenRecord :
    let s (kind : Byte) := fed (holding .opened) (.marker 0 (mk1 kind))
    (s 2).collatesNext 0 (.marker 0 (mk1 2)) [] .a ∧ (s 3).collatesNext 0 (.marker 0 (mk1 3)) [] .a ∧
      (s 4).collatesNext 0 (.marker 0 (mk1 4)) [] .a ∧ (s 2).recordLaw ∧ (s 2).openOn 0 = some 0 ∧
      (s 2).record 0 = some (rec1 .opened) ∧ (rec1 .opened).key = (mk1 2).key ∧ (s 2).closingOn 0 = none ∧
      ((s 2).cell 0).cfg.grace ≠ 0 := by decide +kernel
theorem witness_TimeCountAdvances :
    (∀ c l d, ((State.reset.cell c).line l).candidate = some d → d.held < d.width) ∧
      (∀ c m, (State.reset.cell c).graceTimer = some m → m.elapsed < m.length) ∧
      (∀ i m, State.reset.progressTimer i = some m → m.elapsed < m.length) := by
  have hc : ∀ c, (State.reset.cell c).loadLine.candidate = none ∧ (State.reset.cell c).unloadLine.candidate = none ∧
      (State.reset.cell c).graceTimer = none := by decide +kernel
  have hp : ∀ i, State.reset.progressTimer i = none := by decide +kernel
  refine ⟨fun c l d h => ?_, fun c m h => ?_, fun i m h => ?_⟩
  · cases l
    · exact absurd ((hc c).1.symm.trans h) (by simp)
    · exact absurd ((hc c).2.1.symm.trans h) (by simp)
  · exact absurd ((hc c).2.2.symm.trans h) (by simp)
  · exact absurd ((hp i).symm.trans h) (by simp)
/-- A grace timer at the end of its length, and one a millisecond short of it. -/
theorem witness_GraceExpirySealsTheClosingRecord :
    let s (n : Nat) := (holding .closing).modCell 0 fun k => { k with graceTimer := some ⟨n, 500⟩ }
    ((s 500).cell 0).graceTimer = some ⟨500, 500⟩ ∧ (s 500).closingOn 0 = some 0 ∧
      (s 500).record 0 = some (rec1 .closing) ∧ ((s 499).cell 0).graceTimer = some ⟨499, 500⟩ ∧
      (State.reset.cell 0).graceTimer = none := by decide +kernel
/-- A seal with room, over the oldest PROGRESS entry, with its own PROGRESS entry queued, and at a queue of FINALs. -/
theorem witness_SealEffects :
    let s (es : List (SlotId × SumKind)) := queued (holding .closing) es
    (0, SumKind.progress) ∉ (s []).xport.sumQ ∧ (s []).xport.sumQ.length < 8 ∧
      8 ≤ (s (finals .progress)).xport.sumQ.length ∧
      (s (finals .progress)).xport.sumQ = (finals .final).take 7 ++ (8, .progress) :: [] ∧
      (∀ e ∈ (finals .final).take 7, e.2 = .final) ∧ (0, SumKind.progress) ∈ (s [(0, .progress)]).xport.sumQ ∧
      (s [(0, .progress)]).xport.owed = [] ∧ (∀ e ∈ (s (finals .final)).xport.sumQ, e.2 = .final) := by decide +kernel
theorem witness_ProgressExpiryRequestsASummary :
    let s := (holding .opened).setProgress 0 (some ⟨1000, 1000⟩)
    s.progressTimer 0 = some ⟨1000, 1000⟩ ∧ s.record 0 = some (rec1 .opened) ∧
      (s.recipeOf (rec1 .opened)).period ≠ 0 := by decide +kernel

/-! ## Witnesses: the collation engine and the map store -/

theorem witness_EngineServesCellsInTurn :
    let s := fed live (.marker 0 (mk1 1))
    s.eligible (s.engine + 1 + 0) = true ∧ (∀ c, State.reset.eligible c = false) := by decide +kernel
theorem witness_UncollatedFramesAreForwardedOrDiscarded :
    let e := FifoEntry.touchdown 0x33 td1 0
    (fed (inMode .forward) e).nextCell = some 0 ∧ ((fed (inMode .forward) e).cell 0).fifo = [e] ∧
      ((fed (inMode .forward) e).cell 0).cfg.mode = .forward ∧ (fed (inMode .collate) e).nextCell = some 0 ∧
      (fed (inMode .collate) e).liveBank = none ∧ (fed State.reset e).nextCell = some 0 ∧
      ((fed State.reset e).cell 0).cfg.mode = .off := by decide +kernel
theorem witness_UncollatedMarkers :
    let e := FifoEntry.marker 0x33 (mk1 1)
    (fed (inMode .forward) e).nextCell = some 0 ∧ ((fed (inMode .forward) e).cell 0).fifo = [e] ∧
      (fed (inMode .silent) e).nextCell = some 0 ∧ ((fed (inMode .silent) e).cell 0).cfg.mode = .silent ∧
      (fed (inMode .silent) e).liveBank = none := by decide +kernel
/-- A key OPEN on the cell, CLOSING on it, and OPEN on another. -/
theorem witness_Begin_of_an_active_key :
    let s (st : RecordState) (c : CellId) := fed ((holding st).modRecord 0 fun r => { r with cell := c }) (.marker 0 (mk1 1))
    (s .opened 0).collatesNext 0 (.marker 0 (mk1 1)) [] .a ∧ (s .opened 0).activeWith (mk1 1).key = some 0 ∧
      (s .opened 0).record 0 = some (rec1 .opened) ∧ (s .closing 0).activeWith (mk1 1).key = some 0 ∧
      (s .closing 0).record 0 = some (rec1 .closing) ∧ (s .closing 0).recordLaw ∧ (s .closing 0).openOn 0 = none ∧
      (s .opened 7).activeWith (mk1 1).key = some 0 ∧ ((s .opened 7).record 0).map (fun r => r.cell) = some 7 := by
  decide +kernel
theorem witness_Begin_of_a_closing_key_listLaw : (fed (holding .closing) (.marker 0 (mk1 1))).listLaw :=
  ⟨by decide +kernel, by decide +kernel, by decide +kernel⟩
/-- A record that may be resumed, and a cell with no OPEN and no CLOSING record. -/
theorem witness_Begin_resumes :
    let s := fed (holding .closed) (.marker 0 (mk1 1))
    s.collatesNext 0 (.marker 0 (mk1 1)) [] .a ∧ s.activeWith (mk1 1).key = none ∧ s.recordLaw ∧ s.openOn 0 = none ∧
      s.closingOn 0 = none ∧ s.mayResume (mk1 1).key .a (rec1 .closed) := by
  refine ⟨by decide +kernel, by decide +kernel, by decide +kernel, by decide +kernel, by decide +kernel, ?_⟩
  unfold State.mayResume
  decide +kernel
theorem witness_Begin_resumes_listLaw : (fed (holding .closed) (.marker 0 (mk1 1))).listLaw :=
  ⟨by decide +kernel, by decide +kernel, by decide +kernel⟩
/-- Another wafer OPEN on the cell. -/
theorem witness_Begin_moves_the_open_record :
    let k : Marker := { mk1 1 with key := { lot := 1, wafer := 1 } }
    let s := fed (holding .opened) (.marker 0 k)
    s.collatesNext 0 (.marker 0 k) [] .a ∧ s.activeWith k.key = none ∧ s.recordLaw ∧ s.openOn 0 = some 0 := by
  decide +kernel
/-- The recipes of the LIVE bank: recipe 0, named or the default, is in use; or none is. -/
theorem witness_Begin_chooses :
    let s := fed live (.marker 0 (mk1 1))
    let n := s.setBank .a { Bank.reset with state := .live }
    s.choosesRecipe 0 .a 0 0 ∧ s.choosesRecipe 0 .a 0xFF 0 ∧ n.noRecipeFor 0 .a 0 ∧ n.noRecipeFor 0 .a 0xFF ∧
      s.lowestFree 0 := by
  simp only [State.choosesRecipe, State.noRecipeFor, State.lowestFree]
  decide +kernel
/-- No slot and no exported record; the oldest exported record's slot; the oldest exported frame; no frame at all. -/
theorem witness_Begin_reclaims :
    let k := (mk1 1).key
    (∀ j, (full .closed).record j ≠ none) ∧ (full .closed).dir.exportOrder = [] ∧ (full .closed).activeWith k = none ∧
      (full .closed).recordLaw ∧ (∀ j, (full .exported).record j ≠ none) ∧
      (full .exported).dir.exportOrder = 0 :: allSlots.tail ∧ (full .exported).maps.free = 0 :: MapStore.reset.free.tail ∧
      (outOfFrames (some 5)).maps.free = [] ∧ (outOfFrames (some 5)).dir.exportOrder = [] ++ 0 :: [] ∧
      ((outOfFrames (some 5)).record 0).map (fun r => r.frame) = some (some 5) ∧
      (outOfFrames (some 5)).record 1 = none ∧ ((outOfFrames none).record 0).map (fun r => r.frame) = some none := by
  decide +kernel
theorem witness_Begin_reclaims_listLaw : (full .closed).listLaw ∧ (outOfFrames (some 5)).listLaw :=
  ⟨⟨by decide +kernel, by decide +kernel, by decide +kernel⟩,
    by decide +kernel, by decide +kernel, by decide +kernel⟩
/-- A late touchdown, one whose key is OPEN elsewhere, and one whose key no record has. -/
theorem witness_Touchdown_binds_to_no_record :
    let e := FifoEntry.touchdown 0 td1 0
    let o := fed ((holding .opened).modRecord 0 fun r => { r with cell := 7 }) e
    (fed (holding .closed) e).collatesNext 0 e [] .a ∧ (holding .closed).activeWith td1.key = none ∧
      (holding .closed).dir.sealOrder = [] ++ 0 :: [] ∧ (rec1 .closed).key = td1.key ∧ o.collatesNext 0 e [] .a ∧
      o.activeWith td1.key = some 0 ∧ (o.record 0).map (fun r => r.cell) = some 7 ∧
      (fed live e).collatesNext 0 e [] .a ∧ (∀ j, (fed live e).record j = none) ∧ (fed live e).recordLaw ∧
      (fed live e).openOn 0 = none ∧ (fed live e).maps.free = 0 :: live.maps.free.tail ∧
      ((live.bank .a).recipes[0]).inRange = true := by decide +kernel
theorem witness_Touchdown_listLaw : (fed (holding .closed) (.touchdown 0 td1 0)).listLaw ∧ live.listLaw :=
  ⟨⟨by decide +kernel, by decide +kernel, by decide +kernel⟩,
    by decide +kernel, by decide +kernel, by decide +kernel⟩
theorem witness_BoundTouchdown :
    let s := fed (holding .opened) (.touchdown 0 td1 0)
    s.collatesNext 0 (.touchdown 0 td1 0) [] .a ∧ s.activeWith td1.key = some 0 ∧ s.record 0 = some (rec1 .opened) ∧
      (rec1 .opened).cell = 0 ∧ (s.recipeOf (rec1 .opened)).inRange = true := by decide +kernel
theorem witness_BeginOpensAFreshRecord :
    let s := fed live (.marker 0 (mk1 1))
    s.nextCell = some 0 ∧ (s.cell 0).cfg.mode = .silent ∧ s.liveBank = some .a ∧ (mk1 1).kind = 0x01 ∧
      (mk1 1).recipe = natByte (0 : Fin 8).val ∧ (s.bank .a).recipes[(0 : Fin 8).val].inUse = true ∧
      (∀ j, s.record j = none) ∧ s.openOn 0 = none ∧ s.closingOn 0 = none ∧ s.maps.free = 0 :: s.maps.free.tail := by
  decide +kernel
theorem witness_LateTouchdownTouchesNoRecord :
    let s := fed (holding .closed) (.touchdown 0 td1 0)
    s.nextCell = some 0 ∧ (s.cell 0).cfg.mode = .silent ∧ s.liveBank = some .a ∧ s.activeWith td1.key = none ∧
      s.record 0 = some (rec1 .closed) ∧ (rec1 .closed).key = td1.key := by decide +kernel
theorem witness_SiteChecksApplyInOrder :
    rc1.siteCount.toNat ≤ 16 ∧ rc1.width.toNat ≤ 512 ∧ rc1.height.toNat ≤ 512 := by decide
theorem witness_VoidResultCountsOnlyV :
    (resultOf .void).cls = .void ∧ (rec1 .opened).flags.tallyOnly = false ∧ (rec1 .opened).frame = some 0 ∧
      (holding .opened).die 0 511 14 = .untested ∧
      ((holding .opened).setDie 0 511 14 (.tested 63 3)).die 0 511 14 = .tested 63 3 ∧
      (freshRecord key1 0 0 .a 3 none none 0).flags.tallyOnly = true := by decide +kernel
/-- A die at the last column, UNTESTED in the frame of an OPEN record; and a TALLY_ONLY record. -/
theorem witness_FirstResultIsNewOrCounted :
    (holding .opened).storesCanonical ∧ (rec1 .opened).flags.tallyOnly = false ∧ (rec1 .opened).frame = some 0 ∧
      (resultOf .fail).cls ≠ .void ∧ (resultOf .fail).x < 512 ∧ (resultOf .fail).y < (dumpAt 15 0 false).nextRow ∧
      (holding .opened).die 0 (resultOf .fail).x (resultOf .fail).y = .untested ∧
      (freshRecord key1 0 0 .a 3 none none 0).flags.tallyOnly = true := by decide +kernel
theorem witness_RetestFollowsThePolicy :
    let s := (holding .opened).setDie 0 511 14 (.tested 7 3)
    s.storesCanonical ∧ (resultOf .fail).cls ≠ .void ∧ (rec1 .opened).flags.tallyOnly = false ∧ (rec1 .opened).frame = some 0 ∧
      s.die 0 (resultOf .fail).x (resultOf .fail).y = .tested 7 3 ∧ (s.bank (rec1 .opened).bank).bins[(7 : Fin 64).val].cls = .fail := by
  decide +kernel
/-- A zone entry that a die hits, behind one it does not. -/
theorem witness_ZoneLookupTakesTheFirstMatch :
    let k := (Bank.reset.setZone 0 ⟨true, 480, 4, 0, 0, 0⟩).setZone 1 ⟨true, 0, 4, 511, 9, 0⟩
    k.zones[1].enabled = true ∧ 31 / 2 ^ (9 - k.zones[1].xBits.toNat) = k.zones[1].xCompare.toNat / 2 ^ (9 - 4) ∧
      511 / 2 ^ (9 - k.zones[1].yBits.toNat) = k.zones[1].yCompare.toNat ∧
      31 / 2 ^ (9 - k.zones[0].xBits.toNat) ≠ k.zones[0].xCompare.toNat / 2 ^ (9 - 4) ∧
      (k.zoneOf 31 511).val = 2 := by decide +kernel
/-- The limit is reached on the counter's last value, with the mark clear. -/
theorem witness_SiteRunFollowsTheClass :
    let s := State.reset.modCell 0 fun k => { k with runs := k.runs.set 15 254 }
    (255 : Byte) = BitVec.ofNat 8 (min ((s.cell 0).runs[(15 : Fin 16).val].toNat + 1) 255) ∧
      (s.cell 0).suspects[(15 : Fin 16).val] = false := by decide +kernel
theorem witness_RatioRoundsDownAndCaps : ratio 3 3 = some 10000 ∧ ratio 4 3 = some 10000 := by decide
theorem witness_CheckpointCrossingMovesTheIndex : (holding .opened).record 0 = some (rec1 .opened) := by
  decide +kernel
/-- T = 6 with an interval of 3, a minimum sample of 6 and the index at 1. -/
theorem witness_Checkpoint_evaluation :
    let r : Record := { rec1 .opened with counts := ⟨6, 0, 0, 0, 0, 0, 0, 0, 0⟩, checkpoint := 1 }
    let rc : Recipe := { rc1 with interval := 3, minSample := 6 }
    let s := ((holding .opened).setBank .a { bankIn .live none with recipes := Bank.reset.recipes.set 0 rc }).setSlot 0 (some r)
    s.record 0 = some r ∧ (s.recipeOf r).interval ≠ 0 ∧
      r.checkpoint.toNat < r.counts.t.toNat / (s.recipeOf r).interval.toNat ∧
      (s.recipeOf r).minSample.toNat ≤ r.counts.t.toNat := by decide +kernel
/-- A queue of 32 entries whose last is of level 4: SITE_RUN is above it, YIELD_LOW with level 5 above it too. -/
theorem witness_Raise_evicts :
    let e (n : Nat) : AlertEntry := ⟨{ kind := .binLimit, index := some n }, 4, 0, 0, 1⟩
    let s := State.reset.withAlerts { AlertUnit.reset with queue := (List.range 31).map e ++ [e 31] }
    let a : Alert := { kind := .siteRun, cell := some 0, index := some 4 }
    32 ≤ s.alerts.queue.length ∧ (∀ x ∈ s.alerts.queue, x.alert.sameKey a = false) ∧
      s.alerts.queue.Pairwise (fun x y => y.level ≤ x.level) ∧ s.alerts.queue = (List.range 31).map e ++ [e 31] ∧
      s.alerts.levels[a.kind.index.val] = 6 ∧ (e 31).level = 4 := by decide +kernel
/-- An insertion among equals, and a merge. -/
theorem witness_RaiseStopsMergesAndInserts :
    let a : Alert := { kind := .siteRun, cell := some 0, index := some 4 }
    let s := State.reset.raise { a with index := some 5 }
    s.alerts.queue.length < 32 ∧ (∀ e ∈ s.alerts.queue, e.alert.sameKey a = false) ∧
      s.alerts.queue.Pairwise (fun x y => y.level ≤ x.level) ∧
      (∃ e ∈ (s.raise a).alerts.queue, e.alert.sameKey a = true) := by decide +kernel

/-! ## Witnesses: the hall link -/

theorem witness_HallFramesAreChecked :
    (rqOf []).args.length ≤ 1022 ∧ State.reset.addressed 0xF0 = true ∧ State.reset.addressed 0x10 = false ∧
      checkFrame [0x31, 0, 0, 0, 0, 0] = .crc ∧
      checkFrame (OutFrame.mk 0x32 0 [1, 2]).wire = .good 0x32 0 [1, 2] := by decide +kernel
theorem witness_PauseHoldsTheLink : (after .pause State.reset).hall.paused = true := by decide +kernel
theorem witness_GrantGoesToTheHighestPriority :
    let s := State.reset.withHall { HallPort.reset with fwd := [⟨0x11, 0, []⟩], resp := [⟨0x32, 0, []⟩] }
    s.hall.tx = none ∧ s.hall.paused = false ∧ s.isReady .fwd = true ∧ s.inBurst = false := by decide +kernel
theorem witness_Takes :
    let s := queued (holding .closed) [(0, .final)]
    let o := s.withXport { s.xport with owed := [0] }
    s.xport.sumQ = (0, .final) :: [] ∧ s.record 0 = some (rec1 .closed) ∧ s.xport.owed = [] ∧
      o.xport.owed = 0 :: [] ∧ State.reset.hall.resp = [] ∧ (State.reset.raise { kind := .noSlot }).alerts.queue ≠ [] := by
  decide +kernel
/-- A dump at its first row, at its last, restarting at its end, ending, out of restarts, and stopped. -/
theorem witness_MapTakes :
    (dumping (dumpAt 0 0 false)).xport.dump = some (dumpAt 0 0 false) ∧ (dumpAt 511 0 false).nextRow < (dumpAt 511 0 false).rows ∧
      (dumpAt 512 2 true).rows ≤ (dumpAt 512 2 true).nextRow ∧ (dumpAt 512 2 true).restarts < 3 ∧
      (dumpAt 512 3 true).rows ≤ (dumpAt 512 3 true).nextRow ∧ 3 ≤ (dumpAt 512 3 true).restarts ∧
      (dumpAt 512 0 false).dirty = false ∧ (dumping (dumpAt 512 0 false)).xport.mapQ = [] ∧
      (rec1 .closed).frame = some 0 := by decide +kernel
theorem witness_Completions :
    let m := ((holding .closed).setBank .a { bankIn .live none with
      recipes := Bank.reset.recipes.set 0 { rc1 with exporting := .summaryMap } })
    (sendingWith m (.final 0)).hall.tx = some ⟨.sum, ⟨0x22, 0, []⟩, .final 0⟩ ∧
      (m.recipeOf (rec1 .closed)).exporting = .summaryMap ∧ m.xport.mapQ = [] ∧ m.xport.dump = none ∧
      (sendingWith (holding .exported) (.final 0)).record 0 = some (rec1 .exported) ∧
      (sendingWith (dumping (dumpAt 5 3 true)) .mapRow).xport.dump = some (dumpAt 5 3 true) ∧
      (sendingWith (holding .closed) (.mapEnd 0 true)).record 0 = some (rec1 .closed) := by decide +kernel
theorem witness_FinalCompletionExports :
    let s := (holding .closed).send .sum ⟨0x22, 0, []⟩ (.final 0)
    s.hall.tx = some ⟨.sum, ⟨0x22, 0, []⟩, .final 0⟩ ∧ s.record 0 = some (rec1 .closed) ∧
      (rec1 .closed).state = .closed ∧ (s.recipeOf (rec1 .closed)).exporting = .summary := by decide +kernel

/-! ## Witnesses: requests -/

theorem witness_ReadsChangeNothing :
    State.reset.takesNow 0x41 (rqOf [23]) ∧ slotOfByte 23 = some 23 ∧ State.reset.takesNow 0x11 (rqOf [7, 0]) ∧
      cellOfByte 7 = some 7 ∧ State.reset.takesNow 0x28 (rqOf [0x0B, 4, 8, 0, 0, 0]) ∧ bankOfByte 0x0B = some .b ∧
      ((State.reset.bank .b).part [0x0B, 4, 8, 0, 0, 0]).isSome = true := by decide +kernel
theorem witness_CellSetStoresTheSettings :
    State.reset.takesNow 0x10 (rqOf [0, 0x7F, 3, 1, 9, 0, 1, 1, 9]) ∧ (0x7F : Byte).getLsbD 0 = true ∧
      modeOfByte 3 = some .silent ∧ orderOfByte 1 = some .little ∧ polarityOfByte 1 = some .falling ∧
      modeOfByte 4 = none := by decide +kernel
theorem witness_SmallWritesTouchWhatTheyName :
    State.reset.takesNow 0x02 (rqOf (wordBytes 0xFFFFFFFF)) ∧ State.reset.takesNow 0x11 (rqOf [0, 1]) ∧
      State.reset.takesNow 0x13 (rqOf [7]) := by decide +kernel
theorem witness_CellRestartFlushesAndSeals :
    (holding .closing).takesNow 0x12 (rqOf [0]) ∧ (holding .closing).closingOn 0 = some 0 ∧
      (holding .opened).openOn 0 = some 0 := by decide +kernel
theorem witness_BankLoadsOpenCloseAndDrop :
    State.reset.takesNow 0x20 (rqOf [0x0A, 1]) ∧ (State.reset.bank .a).state = .idle ∧
      (live.bank .a).state ≠ .idle ∧ (live.bank .a).state ≠ .ready ∧ loading.takesNow 0x26 (rqOf [0x0A]) ∧
      loading.takesNow 0x25 (rqOf [0x0A]) ∧ (loading.bank .a).state = .loading ∧
      (loading.bank .a).owner = some (requesterOf (rqOf [])) ∧ (loading.bank .a).recipes[0].inUse = true ∧
      (loading.bank .a).bins[(loading.bank .a).recipes[0].unknownBin.val].cls ≠ .pass ∧
      (∀ r : Fin 8, (Bank.reset.recipes[r.val]).inUse = false) := by decide +kernel
/-- A bank whose recipe 0 is in use with a PASS unknown bin fails the second commit check. -/
theorem witness_BankClose_second_check :
    let k := { bankIn .loading (some 1) with bins := Bank.reset.bins.set 0 ⟨.pass, 10000⟩ }
    k.recipes[0].inUse = true ∧ k.bins[k.recipes[0].unknownBin.val].cls = .pass ∧ k.commitFault = some 0 := by
  decide +kernel
theorem witness_BankWritesNeedTheOwner :
    let rq := { rqOf [0x0A] with route := 0x02 }
    (Instr.bankClose rq).nameCode = some 0x25 ∧ loading.takesNow 0x25 rq ∧ rq.args.head? = some BankId.a.code ∧
      (loading.bank .a).owner ≠ some (requesterOf rq) ∧ (State.reset.bank .a).state ≠ .loading := by decide +kernel
theorem witness_BankRecipeStoresWithClamps :
    let rq := rqOf ([0x0A, 7, 1] ++ halfBytes 600 ++ halfBytes 0 ++ wordBytes 300000 ++ [17, 2, 1] ++ halfBytes 10001
      ++ halfBytes 5 ++ halfBytes 6 ++ [7, 64, 1, 8])
    loading.takesNow 0x21 rq ∧ rq.args.length = 24 ∧ boolOfByte 1 = some true ∧
      policyOfByte 2 = some .recheckOnly ∧ denominatorOfByte 1 = some .gross ∧ exportOfByte 1 = some .summaryMap := by
  decide +kernel
theorem witness_BankXlateWritesTheRow :
    loading.takesNow 0x22 (rqOf ([0x0A, 7] ++ halfBytes 511 ++ [2, 63, 64])) ∧ loading.storesCanonical ∧
      (loading.bank .a).state = .loading ∧ (loading.bank .a).owner = some (requesterOf (rqOf [])) := by
  decide +kernel
/-- The entries reach from B63 past the last bin. -/
theorem witness_BankClassWritesTheBins :
    loading.takesNow 0x23 (rqOf ([0x0A, 63, natByte binEntries.length]
        ++ binEntries.flatMap fun e => e.1 :: halfBytes e.2)) ∧ (loading.bank .a).state = .loading ∧
      (loading.bank .a).owner = some (requesterOf (rqOf [])) ∧ binEntries.length ≤ 16 ∧
      (binEntries.all fun e => classOfByte e.1 != none) = true ∧ classOfByte 4 = none := by decide +kernel
theorem witness_BankZoneStoresWithClamps :
    loading.takesNow 0x24 (rqOf ([0x0A, 8, 1] ++ halfBytes 512 ++ [10] ++ halfBytes 511 ++ [9] ++ halfBytes 10001)) ∧
      boolOfByte 1 = some true ∧ (8 : Byte) = natByte ((7 : Fin 8).val + 1) := by decide +kernel
theorem witness_BankLiveActivates :
    State.reset.takesNow 0x27 (rqOf [0x0A]) ∧
      ((State.reset.setBank .a (bankIn .ready none)).bank .a).state = .ready ∧ (State.reset.bank .a).state ≠ .ready := by
  decide +kernel
theorem witness_AlertAndStreamSettingsAreStored :
    State.reset.takesNow 0x30 (rqOf [1, 0, 2, AlertKind.yieldLow.code, 9, AlertKind.yieldLow.code, 0]) ∧
      State.reset.takesNow 0x31 (rqOf [0x3F, 0, 1, 2, 3, 4, 1]) ∧ boolOfByte 1 = some true := by decide +kernel
theorem witness_LinkReadReportsAndClears : State.reset.takesNow 0x60 (rqOf [1]) := by decide +kernel
theorem witness_MarkAndSeal_above_the_last_slot :
    State.reset.takesNow 0x42 (rqOf [24]) ∧ State.reset.takesNow 0x43 (rqOf [24]) ∧ 23 < (24 : Byte).toNat := by
  decide +kernel
theorem witness_WaferMarkMovesTheTag :
    (holding .opened).takesNow 0x42 (rqOf [0]) ∧ ((holding .opened).record 0).isSome = true ∧
      (holding .opened).record 23 = none := by decide +kernel
theorem witness_WaferSealNeedsTheTag :
    let s := (holding .opened).setTag 1 (some 0)
    s.takesNow 0x43 (rqOf [0]) ∧ s.tag (requesterOf (rqOf [0])) = some 0 ∧ s.record 0 = some (rec1 .opened) ∧
      (holding .opened).tag (requesterOf (rqOf [0])) ≠ some 0 := by decide +kernel
theorem witness_DropAndFreeEmptyTheSlot :
    (holding .opened).takesNow 0x44 (rqOf [0]) ∧ (holding .exported).takesNow 0x45 (rqOf [0]) ∧
      (holding .exported).record 0 = some (rec1 .exported) ∧ (rec1 .exported).state = .exported := by decide +kernel
/-- A free of a record whose FINAL is queued, the lists of slots keeping their law. -/
theorem witness_Free_fills_the_place :
    let s := queued (holding .exported) [(0, .final)]
    s.summaryLists ∧ s.takesNow 0x45 (rqOf [0]) := by decide +kernel
theorem witness_WaferSendQueuesTheFinal :
    let s := (holding .closed).withXport { ExportEngine.reset with sumQ := [(0, .final)] }
    (holding .closed).takesNow 0x46 (rqOf [0]) ∧ (0, SumKind.final) ∈ s.xport.sumQ ∧
      (0, SumKind.final) ∉ (holding .closed).xport.sumQ ∧ (0 : SlotId) ∉ (holding .closed).xport.owed := by
  decide +kernel
/-- A SUM queue with a PROGRESS entry last, and one with 8 FINAL entries. -/
theorem witness_WaferSend_at_a_full_queue :
    let s (k : SumKind) := queued (holding .closed) (finals k)
    (s .progress).takesNow 0x46 (rqOf [0]) ∧ (0, SumKind.final) ∉ (s .progress).xport.sumQ ∧
      8 ≤ (s .progress).xport.sumQ.length ∧ (s .progress).xport.sumQ = (finals .final).take 7 ++ (8, .progress) :: [] ∧
      (∀ e ∈ (s .final).xport.sumQ, e.2 = .final) ∧ (0, SumKind.final) ∉ (s .final).xport.sumQ := by decide +kernel
theorem witness_MapRequestsStartAndStopDumps :
    let s := after (.mapSend (rqOf [0])) (holding .opened)
    (holding .opened).takesNow 0x50 (rqOf [0]) ∧ (rec1 .opened).frame = some 0 ∧
      (holding .opened).xport.mapQ = [] ∧ (holding .opened).xport.dump = none ∧ s.xport.dump.isSome = true ∧
      s.takesNow 0x51 (rqOf []) ∧ ∃ e ∈ (s.requestMap 0).xport.mapQ, e.1 = 0 := by decide +kernel

end Sys2Proof.Tests
end

/-! SUPPORT. What every request shares, said once for all of them: the state in which the unit carries a request out,
the reply it queues, and what both leave unchanged (R177, R178). -/

namespace Sys2Proof.Machine

/-! ## The take of a request -/

/-- The part with the head of the receive FIFO taken (R177). -/
def State.requestTaken (s : State) : State :=
  s.withHall { s.hall with rx := { s.hall.rx with fifo := s.hall.rx.fifo.tail } }

theorem State.requestTaken_changes (s : State) : s.changesOnly s.requestTaken [.hall] := s.withHall_changes _

@[simp] theorem State.requestTaken_banks (s : State) : s.requestTaken.banks = s.banks := rfl

/-- With an empty FIFO there is no head to take. -/
theorem State.requestTaken_of_fifo_nil {s : State} (h : s.hall.rx.fifo = []) : s.requestTaken = s := by
  have htail : s.hall.rx.fifo.tail = s.hall.rx.fifo := by rw [h]; rfl
  rw [State.requestTaken, htail]
  rfl

/-- A request the unit takes now is carried out on the part with its receive FIFO's head taken. -/
theorem State.takeRequest_of_takesNow {s : State} {name : Byte} {rq : Request} (h : s.takesNow name rq) :
    s.takeRequest name rq = some s.requestTaken := by
  obtain ⟨hroom, hsource⟩ := h
  have hcap : ¬ Config.respCap ≤ s.hall.resp.length := Nat.not_le.2 hroom
  rcases hsource with ⟨hnil, haddr⟩ | hhead
  · simp [State.takeRequest, hcap, hnil, haddr, State.requestTaken_of_fifo_nil hnil]
  · obtain ⟨rest, hcons⟩ := List.head?_eq_some_iff.1 hhead
    simp [State.takeRequest, hcap, hcons, State.requestTaken, State.setRx]

/-- The outcome of a request taken now, from what its own action answers. -/
theorem serve_of_takesNow {s u : State} {name : Byte} {rq : Request} {p : Reply} {act : State → State × Reply}
    (h : s.takesNow name rq) (hact : act s.requestTaken = (u, p)) :
    serve name rq act s = .next (u.respond name rq p) := by
  simp [serve, State.takeRequest_of_takesNow h, hact]

/-! ## The reply -/

theorem State.respond_changes (u : State) (name : Byte) (rq : Request) (p : Reply) :
    u.changesOnly (u.respond name rq p) [.hall] := by
  unfold State.respond
  split
  · exact .refl u _
  · exact u.withHall_changes _

@[simp] theorem State.respond_banks (u : State) (name : Byte) (rq : Request) (p : Reply) :
    (u.respond name rq p).banks = u.banks :=
  u.respond_changes name rq p .banks (by decide)

/-- The reply to a request carries the node address and nothing else of the state. -/
theorem replyFrame_congr {s u : State} (h : u.node = s.node) (name : Byte) (rq : Request) (p : Reply) :
    replyFrame u name rq p = replyFrame s name rq p := by
  simp only [replyFrame, State.routeByte, h]

/-- An action that leaves the hall port and the node address alone leaves the port with the take and the reply only. -/
theorem State.hall_respond {s u : State} {bs : List Block} (h : s.requestTaken.changesOnly u bs) (name : Byte)
    (rq : Request) (p : Reply) (hhall : .hall ∉ bs := by decide) (hnode : .node ∉ bs := by decide) :
    (u.respond name rq p).hall = s.answered name rq p := by
  have hh : u.hall = s.requestTaken.hall := h .hall hhall
  have hn : u.node = s.node := h .node hnode
  unfold State.respond State.answered State.repliesTo
  split
  · simp [hh, State.requestTaken]
  · simp [hh, State.requestTaken, replyFrame_congr hn]

/-- The take, the action and the reply together change the blocks of the action and the hall port. -/
theorem State.served_changes {s u : State} {bs cs : List Block} (h : s.requestTaken.changesOnly u bs) (name : Byte)
    (rq : Request) (p : Reply) (hbs : ∀ b ∈ bs, b ∈ cs := by decide) (hhall : .hall ∈ cs := by decide) :
    s.changesOnly (u.respond name rq p) cs :=
  have hport : ∀ b ∈ [Block.hall], b ∈ cs := List.forall_mem_singleton.2 hhall
  ((s.requestTaken_changes.mono hport).trans (h.mono hbs)).trans ((u.respond_changes name rq p).mono hport)

/-- An action that answers without a change: the take and the reply are all the request does. -/
theorem State.respond_requestTaken (s : State) (name : Byte) (rq : Request) (p : Reply) :
    s.requestTaken.respond name rq p = s.withHall (s.answered name rq p) := by
  unfold State.respond State.answered State.repliesTo
  split
  · simp [State.requestTaken]
  · simp [State.requestTaken, State.withHall, replyFrame, State.routeByte]

theorem serve_onlyReplies {s : State} {name : Byte} {rq : Request} {p : Reply} {act : State → State × Reply}
    (h : s.takesNow name rq) (hact : act s.requestTaken = (s.requestTaken, p)) :
    serve name rq act s = .next (s.withHall (s.answered name rq p)) := by
  rw [serve_of_takesNow h hact, State.respond_requestTaken]

/-! ## The checks before an action -/

theorem sized_of_length {n : Nat} {rq : Request} (h : rq.args.length = n)
    (act : List Byte → State → State × Reply) : sized n rq act = act rq.args := funext fun _ => if_pos h

@[simp] theorem byteAt_cons_zero (b : Byte) (bs : List Byte) : byteAt (b :: bs) 0 = b := rfl

@[simp] theorem byteAt_cons_succ (b : Byte) (bs : List Byte) (k : Nat) : byteAt (b :: bs) (k + 1) = byteAt bs k := rfl

theorem withOption_of_code {opt : Byte} (h : opt = 0 ∨ opt = 1) (act : Bool → State → State × Reply)
    (s : State) : withOption opt act s = act (opt = 1) s := by
  rcases h with rfl | rfl <;> rfl

end Sys2Proof.Machine

/-! SUPPORT. The bank store under the requests of chapter 3: what is read of a bank after each of them, and the commit
checks of R50. -/

namespace Sys2Proof.Machine

/-! ## Banks and their names -/

@[simp] theorem bankOfByte_code (lb : BankId) : bankOfByte lb.code = some lb := by
  cases lb <;> rfl

@[simp] theorem onBank_code (lb : BankId) (act : BankId → State → State × Reply) :
    onBank lb.code act = act lb := by
  funext s
  simp [onBank]

/-- A request of the right length that names a bank reaches its own action on that bank. -/
theorem sized_onBank {rq : Request} {lb : BankId} {rest : List Byte} (n : Nat) (hargs : rq.args = lb.code :: rest)
    (hn : rest.length + 1 = n) (act : List Byte → BankId → State → State × Reply) :
    sized n rq (fun a => onBank (byteAt a 0) (act a)) = act rq.args lb := by
  have hlen : rq.args.length = n := by simp [hargs, hn]
  rw [sized_of_length hlen, hargs, byteAt_cons_zero, onBank_code]

theorem asOwner_of_owner {s : State} {rq : Request} {lb : BankId} (hl : (s.bank lb).state = .loading)
    (ho : (s.bank lb).owner = some (requesterOf rq)) (act : State → State × Reply) :
    asOwner rq lb act s = act s := if_pos ⟨hl, ho⟩

theorem State.bank_congr {s t : State} (h : t.banks = s.banks) (lb : BankId) : t.bank lb = s.bank lb := by
  cases lb <;> simp [State.bank, h]

@[simp] theorem State.bank_requestTaken (s : State) (lb : BankId) : s.requestTaken.bank lb = s.bank lb :=
  State.bank_congr s.requestTaken_banks lb

@[simp] theorem State.bank_respond (u : State) (name : Byte) (rq : Request) (p : Reply) (lb : BankId) :
    (u.respond name rq p).bank lb = u.bank lb :=
  State.bank_congr (u.respond_banks name rq p) lb

@[simp] theorem State.genCount_setBank (s : State) (lb : BankId) (v : Bank) :
    (s.setBank lb v).banks.genCount = s.banks.genCount := by
  cases lb <;> rfl

/-- A command is carried out with this reply and no change but its take and one bank's new value. -/
def State.onlyReplacesBank (s : State) (i : Instr) (name : Byte) (rq : Request) (lb : BankId) (v : Bank)
    (p : Reply) : Prop :=
  ∃ t, exec i s = .next t ∧ t.bank lb = v ∧ t.bank lb.other = s.bank lb.other ∧
    t.banks.genCount = s.banks.genCount ∧ t.hall = s.answered name rq p ∧ s.changesOnly t [.banks, .hall]

theorem State.onlyReplacesBank_of_serve {s : State} {i : Instr} {name : Byte} {rq : Request} {lb : BankId} {v : Bank}
    {p : Reply} {act : State → State × Reply} (hexec : exec i s = serve name rq act s) (h : s.takesNow name rq)
    (hact : act s.requestTaken = (s.requestTaken.setBank lb v, p)) : s.onlyReplacesBank i name rq lb v p := by
  have hc := s.requestTaken.setBank_changes lb v
  refine ⟨_, hexec.trans (serve_of_takesNow h hact), ?_, ?_, ?_, State.hall_respond hc name rq p,
    State.served_changes hc name rq p⟩ <;> simp

/-! ## BANK_OPEN, BANK_DROP and BANK_CLOSE: the actions (R44, R50, R51) -/

/-- Which contents BANK_OPEN leaves: the CLEAR values or those the bank has. -/
theorem Bank.opened_eq (k : Bank) (clear : Bool) (q : Fin 4) :
    k.opened clear q = { k with
      state := .loading
      owner := some q
      recipes := if clear then .replicate 8 .clear else k.recipes
      xlate := if clear then [] else k.xlate
      bins := if clear then .replicate 64 { cls := .fail, limit := 10000 } else k.bins
      zones := if clear then .replicate 8 .clear else k.zones } := by
  cases clear <;> rfl

theorem bankOpenOf_loadable {s : State} {rq : Request} {opt : Byte} {lb : BankId}
    (hs : (s.bank lb).state = .idle ∨ (s.bank lb).state = .ready) (ho : opt = 0 ∨ opt = 1) :
    bankOpenOf rq opt lb s = (s.setBank lb ((s.bank lb).opened (opt = 1) (requesterOf rq)), okReply []) := by
  rw [bankOpenOf, if_pos hs, withOption_of_code ho]

theorem bankOpenOf_refused {s : State} {lb : BankId} (rq : Request) (opt : Byte)
    (hi : (s.bank lb).state ≠ .idle) (hr : (s.bank lb).state ≠ .ready) :
    bankOpenOf rq opt lb s = decline .refusedState s := if_neg (not_or.2 ⟨hi, hr⟩)

theorem bankDropOf_loading {s : State} {lb : BankId} (h : (s.bank lb).state = .loading) :
    bankDropOf lb s = (s.setBank lb { s.bank lb with state := .idle, owner := none }, okReply []) := if_pos h

theorem bankDropOf_refused {s : State} {lb : BankId} (h : (s.bank lb).state ≠ .loading) :
    bankDropOf lb s = decline .refusedState s := if_neg h

/-! ### The commit checks (R50) -/

theorem allRecipes_eq_finRange : allRecipes = List.finRange 8 := rfl

theorem Bank.recipeFails_iff (k : Bank) (r : Fin 8) : k.recipeFails r = true ↔
    k.recipes[r.val].inUse = true ∧ k.bins[k.recipes[r.val].unknownBin.val].cls = .pass := by
  simp [Bank.recipeFails]

theorem Bank.commitFault_of_unused {k : Bank} (h : ∀ r : Fin 8, k.recipes[r.val].inUse = false) :
    k.commitFault = some 0xFF := by
  have hall : (allRecipes.all fun r => !k.recipes[r.val].inUse) = true := by
    simp [h]
  rw [Bank.commitFault, if_pos hall]

/-- With a recipe in use, the lowest failing recipe decides. -/
theorem Bank.commitFault_of_used {k : Bank} (h : ∃ r : Fin 8, k.recipes[r.val].inUse = true) :
    k.commitFault = (Fin.find? k.recipeFails).map fun r => natByte r.val := by
  obtain ⟨r, hr⟩ := h
  have hall : ¬ (allRecipes.all fun r => !k.recipes[r.val].inUse) = true := by
    rw [List.all_eq_true]
    intro hn
    simpa [hr] using hn r (by simp [allRecipes_eq_finRange])
  rw [Bank.commitFault, if_neg hall, allRecipes_eq_finRange, Fin.find?_eq_find?_finRange]

/-- Both commit checks hold. -/
theorem Bank.commitFault_eq_none {k : Bank} (hu : ∃ r : Fin 8, k.recipes[r.val].inUse = true)
    (hp : ∀ r : Fin 8, k.recipes[r.val].inUse = true → k.bins[k.recipes[r.val].unknownBin.val].cls ≠ .pass) :
    k.commitFault = none := by
  have hnone : Fin.find? k.recipeFails = none :=
    Fin.find?_eq_none_iff.2 fun r => Bool.eq_false_iff.2 fun hf =>
      have ⟨hin, hpass⟩ := (k.recipeFails_iff r).1 hf
      hp r hin hpass
  rw [Bank.commitFault_of_used hu, hnone, Option.map_none]

/-- The second commit check names the lowest recipe in use with a PASS unknown bin. -/
theorem Bank.commitFault_of_lowest {k : Bank} {r : Fin 8} (hu : k.recipes[r.val].inUse = true)
    (hp : k.bins[k.recipes[r.val].unknownBin.val].cls = .pass)
    (hlow : ∀ r' : Fin 8, r' < r → k.recipes[r'.val].inUse = true →
      k.bins[k.recipes[r'.val].unknownBin.val].cls ≠ .pass) :
    k.commitFault = some (natByte r.val) := by
  have hfind : Fin.find? k.recipeFails = some r :=
    Fin.find?_eq_some_iff.2 ⟨(k.recipeFails_iff r).2 ⟨hu, hp⟩, fun r' hr' => Bool.eq_false_iff.2 fun hf =>
      have ⟨hin, hpass⟩ := (k.recipeFails_iff r').1 hf
      hlow r' hr' hin hpass⟩
  rw [Bank.commitFault_of_used ⟨r, hu⟩, hfind, Option.map_some]

theorem bankCloseOf_commits {s : State} {lb : BankId} (h : (s.bank lb).commitFault = none) :
    bankCloseOf lb s = (s.setBank lb { s.bank lb with state := .ready, owner := none }, okReply []) := by
  simp only [bankCloseOf, h]

theorem bankCloseOf_loadInvalid {s : State} {lb : BankId} {b : Byte} (h : (s.bank lb).commitFault = some b) :
    bankCloseOf lb s = (s, { status := .loadInvalid, data := [b] }) := by
  simp only [bankCloseOf, h]

/-! ### The commands on a bank named by its letter -/

theorem exec_bankOpen {rq : Request} {lb : BankId} {opt : Byte} (hargs : rq.args = [lb.code, opt]) (s : State) :
    exec (.bankOpen rq) s = serve 0x20 rq (bankOpenOf rq opt lb) s := by
  show serve 0x20 rq (sized 2 rq fun a => onBank (byteAt a 0) (bankOpenOf rq (byteAt a 1))) s = _
  rw [sized_onBank 2 hargs rfl, hargs, byteAt_cons_succ, byteAt_cons_zero]

theorem exec_bankClose {rq : Request} {lb : BankId} (hargs : rq.args = [lb.code]) (s : State) :
    exec (.bankClose rq) s = serve 0x25 rq (asOwner rq lb (bankCloseOf lb)) s := by
  show serve 0x25 rq (sized 1 rq fun a => onBank (byteAt a 0) fun i => asOwner rq i (bankCloseOf i)) s = _
  rw [sized_onBank 1 hargs rfl]

theorem exec_bankDrop {rq : Request} {lb : BankId} (hargs : rq.args = [lb.code]) (s : State) :
    exec (.bankDrop rq) s = serve 0x26 rq (bankDropOf lb) s := by
  show serve 0x26 rq (sized 1 rq fun a => onBank (byteAt a 0) bankDropOf) s = _
  rw [sized_onBank 1 hargs rfl]

/-! ## BANK_OPEN, BANK_DROP and BANK_CLOSE: one lemma per outcome of a request taken now -/

/-- BANK_OPEN of a bank that is IDLE or READY, with KEEP or CLEAR (R44). -/
theorem exec_bankOpen_loads {s : State} {rq : Request} {lb : BankId} {opt : Byte} (ht : s.takesNow 0x20 rq)
    (hargs : rq.args = [lb.code, opt]) (hs : (s.bank lb).state = .idle ∨ (s.bank lb).state = .ready)
    (ho : opt = 0 ∨ opt = 1) :
    s.onlyReplacesBank (.bankOpen rq) 0x20 rq lb ((s.bank lb).opened (opt = 1) (requesterOf rq))
      { status := .ok, data := [] } := by
  refine State.onlyReplacesBank_of_serve (exec_bankOpen hargs s) ht ?_
  rw [bankOpenOf_loadable (by simpa using hs) ho, State.bank_requestTaken, okReply]

theorem exec_bankOpen_refused {s : State} {rq : Request} {lb : BankId} {opt : Byte} (ht : s.takesNow 0x20 rq)
    (hargs : rq.args = [lb.code, opt]) (hi : (s.bank lb).state ≠ .idle) (hr : (s.bank lb).state ≠ .ready) :
    s.onlyReplies (.bankOpen rq) 0x20 rq { status := .refusedState, data := [] } :=
  (exec_bankOpen hargs s).trans
    (serve_onlyReplies ht (bankOpenOf_refused rq opt (by simpa using hi) (by simpa using hr)))

theorem exec_bankDrop_idles {s : State} {rq : Request} {lb : BankId} (ht : s.takesNow 0x26 rq)
    (hargs : rq.args = [lb.code]) (hl : (s.bank lb).state = .loading) :
    s.onlyReplacesBank (.bankDrop rq) 0x26 rq lb { s.bank lb with state := .idle, owner := none }
      { status := .ok, data := [] } := by
  refine State.onlyReplacesBank_of_serve (exec_bankDrop hargs s) ht ?_
  rw [bankDropOf_loading (by simpa using hl), State.bank_requestTaken, okReply]

theorem exec_bankDrop_refused {s : State} {rq : Request} {lb : BankId} (ht : s.takesNow 0x26 rq)
    (hargs : rq.args = [lb.code]) (hl : (s.bank lb).state ≠ .loading) :
    s.onlyReplies (.bankDrop rq) 0x26 rq { status := .refusedState, data := [] } :=
  (exec_bankDrop hargs s).trans (serve_onlyReplies ht (bankDropOf_refused (by simpa using hl)))

/-- BANK_CLOSE from the load owner acts by the commit checks alone (R50). -/
theorem bankClose_of_owner {s : State} {rq : Request} {lb : BankId} (hl : (s.bank lb).state = .loading)
    (ho : (s.bank lb).owner = some (requesterOf rq)) :
    asOwner rq lb (bankCloseOf lb) s.requestTaken = bankCloseOf lb s.requestTaken :=
  asOwner_of_owner (by simpa using hl) (by simpa using ho) (bankCloseOf lb)

theorem exec_bankClose_commits {s : State} {rq : Request} {lb : BankId} (ht : s.takesNow 0x25 rq)
    (hargs : rq.args = [lb.code]) (hl : (s.bank lb).state = .loading)
    (ho : (s.bank lb).owner = some (requesterOf rq)) (hc : (s.bank lb).commitFault = none) :
    s.onlyReplacesBank (.bankClose rq) 0x25 rq lb { s.bank lb with state := .ready, owner := none }
      { status := .ok, data := [] } := by
  refine State.onlyReplacesBank_of_serve (exec_bankClose hargs s) ht ?_
  rw [bankClose_of_owner hl ho, bankCloseOf_commits (by simpa using hc), State.bank_requestTaken, okReply]

theorem exec_bankClose_loadInvalid {s : State} {rq : Request} {lb : BankId} {b : Byte} (ht : s.takesNow 0x25 rq)
    (hargs : rq.args = [lb.code]) (hl : (s.bank lb).state = .loading)
    (ho : (s.bank lb).owner = some (requesterOf rq)) (hc : (s.bank lb).commitFault = some b) :
    s.onlyReplies (.bankClose rq) 0x25 rq { status := .loadInvalid, data := [b] } :=
  (exec_bankClose hargs s).trans
    (serve_onlyReplies ht ((bankClose_of_owner hl ho).trans (bankCloseOf_loadInvalid (by simpa using hc))))

/-- Settles O47: one lemma per outcome, BANK_CLOSE by the commit check that decides it. -/
theorem bankLoadsOpenCloseAndDrop : Obligations.BankLoadsOpenCloseAndDrop := by
  intro s rq lb opt
  refine ⟨fun ht hargs => ⟨fun hs ho => ?_, exec_bankOpen_refused ht hargs⟩,
    fun ht hargs => ⟨exec_bankDrop_idles ht hargs, exec_bankDrop_refused ht hargs⟩,
    fun ht hargs hl ho => ⟨fun hused hpass => ?_, fun hunused => ?_, fun r hused hpass hlow => ?_⟩⟩
  · simpa [State.onlyReplacesBank, Bank.opened_eq] using exec_bankOpen_loads ht hargs hs ho
  · exact exec_bankClose_commits ht hargs hl ho (Bank.commitFault_eq_none hused hpass)
  · exact exec_bankClose_loadInvalid ht hargs hl ho (Bank.commitFault_of_unused hunused)
  · exact exec_bankClose_loadInvalid ht hargs hl ho (Bank.commitFault_of_lowest hused hpass hlow)

/-! ## BANK_LIVE (R43, R52) -/

/-- The generation after the last word is 1. -/
theorem nextGeneration_eq (g : Word) : nextGeneration g = if g = 0xFFFFFFFF then 1 else g + 1 := by
  have hwrap : g + 1 = 0 ↔ g = 0xFFFFFFFF := by bv_omega
  simp only [nextGeneration, hwrap]

theorem Bank.superseded_eq (k : Bank) : k.superseded = { k with
    state := if k.state = .live then (if k.bound = 0 then .idle else .retiring) else k.state } := by
  unfold Bank.superseded
  split <;> rfl

@[simp] theorem State.bank_activate_same (s : State) (lb : BankId) :
    (s.activate lb).bank lb = { s.bank lb with state := .live, gen := nextGeneration s.banks.genCount } := by
  cases lb <;> rfl

@[simp] theorem State.bank_activate_other (s : State) (lb : BankId) :
    (s.activate lb).bank lb.other = (s.bank lb.other).superseded := by
  cases lb <;> rfl

@[simp] theorem State.genCount_activate (s : State) (lb : BankId) :
    (s.activate lb).banks.genCount = nextGeneration s.banks.genCount := by
  cases lb <;> rfl

theorem State.activate_changes (s : State) (lb : BankId) : s.changesOnly (s.activate lb) [.banks] :=
  ((s.withBanks_changes _).trans (State.setBank_changes _ lb _)).trans (State.setBank_changes _ lb.other _)

theorem exec_bankLive {rq : Request} {lb : BankId} (hargs : rq.args = [lb.code]) (s : State) :
    exec (.bankLive rq) s = serve 0x27 rq (bankLiveOf lb) s := by
  show serve 0x27 rq (sized 1 rq fun a => onBank (byteAt a 0) bankLiveOf) s = _
  rw [sized_onBank 1 hargs rfl]

theorem bankLiveOf_ready {s : State} {lb : BankId} (h : (s.bank lb).state = .ready) :
    bankLiveOf lb s = (s.activate lb, okReply (wordBytes (nextGeneration s.banks.genCount))) := if_pos h

theorem bankLiveOf_refused {s : State} {lb : BankId} (h : (s.bank lb).state ≠ .ready) :
    bankLiveOf lb s = decline .refusedState s := if_neg h

/-- Settles O53: an activation's effect on each bank, within the frame of a served request. -/
theorem bankLiveActivates : Obligations.BankLiveActivates := by
  intro s rq lb g ht hargs hg
  rw [← nextGeneration_eq] at hg
  refine ⟨fun hready => ?_, fun hs => (exec_bankLive hargs s).trans
    (serve_onlyReplies ht (bankLiveOf_refused (by simpa using hs)))⟩
  have hc := s.requestTaken.activate_changes lb
  have hact : bankLiveOf lb s.requestTaken = _ := bankLiveOf_ready (by simpa using hready)
  refine ⟨_, (exec_bankLive hargs s).trans (serve_of_takesNow ht hact), ?_, ?_, ?_, ?_, State.served_changes hc _ rq _⟩
  · simp [hg]
  · simp [hg]
  · simp [Bank.superseded_eq]
  · simp [State.hall_respond hc, hg, okReply]

end Sys2Proof.Machine

namespace Sys2Proof.Machine

/-! ## The map store: die cells and VOID results (R98, R103, R105) -/

/-- The test count of a TESTED die cell is the upper two bits of its byte, which are not 0 (R98, R199). -/
theorem count_of_dieOfByte_tested {b : Byte} {bin : Fin 64} {n : Nat} (h : dieOfByte b = .tested bin n) :
    1 ≤ n ∧ n ≤ 3 := by
  unfold dieOfByte at h
  split at h
  case isTrue => contradiction
  case isFalse hcount =>
    obtain ⟨-, rfl⟩ := DieCell.tested.inj h
    omega

theorem Record.mapFrame_of_tallyOnly {r : Record} (h : r.flags.tallyOnly = true) : r.mapFrame = none := if_pos h

theorem Record.mapFrame_of_mapped {r : Record} {f : FrameId} (h : r.flags.tallyOnly = false) (hf : r.frame = some f) :
    r.mapFrame = some f :=
  (if_neg (Bool.eq_false_iff.1 h)).trans hf

/-- What a VOID result comes to: one record's V count in the state, and the test count read off the die cell. -/
theorem State.resolveResult_of_void {s : State} {i : SlotId} {r : Record} {q : SiteResult} (h : q.cls = .void) :
    s.resolveResult i r q = (s.setSlot i (some r.countVoid), .void,
      r.mapFrame.elim 0 fun f => (s.die f q.x q.y).count) := by
  rw [State.resolveResult, if_pos h]
  cases r.mapFrame <;> rfl

/-- Settles O31: a VOID result is one write to slot i, and its test count is that of the die cell resolved against. -/
theorem voidResultCountsOnlyV : Obligations.VoidResultCountsOnlyV := by
  intro s i r q hvoid
  rw [State.resolveResult_of_void hvoid]
  refine ⟨rfl, s.record_setSlot_same i _, fun j hj => s.record_setSlot_other _ hj, s.setSlot_changes i _,
    fun htally => ?_, fun f hmap hf => ?_⟩
  · simp [Record.mapFrame_of_tallyOnly htally]
  · rw [Record.mapFrame_of_mapped hmap hf]
    exact ⟨fun hdie => congrArg DieCell.count hdie,
      fun b n hdie => ⟨congrArg DieCell.count hdie, count_of_dieOfByte_tested hdie⟩⟩

end Sys2Proof.Machine

namespace Sys2Proof.Machine

/-! ## The ratio of two counts (R118) -/

@[simp] theorem ratio_zero (n : Nat) : ratio n 0 = none := rfl

theorem ratio_of_pos {d : Nat} (n : Nat) (hd : 0 < d) : ratio n d = some (min (n * 10000 / d) 10000) :=
  if_neg hd.ne'

theorem ratio_eq_none_iff {n d : Nat} : ratio n d = none ↔ d = 0 := by
  obtain rfl | hd := d.eq_zero_or_pos
  · simp
  · simp [ratio_of_pos n hd, hd.ne']

/-- A count within its denominator is at most 10000 basis points, so the cap leaves the floor as it is. -/
theorem ratio_of_le {n d : Nat} (hd : 0 < d) (h : n ≤ d) : ratio n d = some (n * 10000 / d) := by
  have huncapped : n * 10000 / d ≤ 10000 := Nat.div_le_of_le_mul (Nat.mul_le_mul_right 10000 h)
  rw [ratio_of_pos n hd, min_eq_left huncapped]

/-- A count above its denominator reaches 10000 basis points already before the cap. -/
theorem ratio_of_gt {n d : Nat} (hd : 0 < d) (h : d < n) : ratio n d = some 10000 := by
  have hcapped : 10000 ≤ n * 10000 / d := (Nat.le_div_iff_mul_le hd).2 (by omega)
  rw [ratio_of_pos n hd, min_eq_right hcapped]

theorem ratio_le {n d q : Nat} (h : ratio n d = some q) : q ≤ 10000 := by
  obtain rfl | hd := d.eq_zero_or_pos
  · simp at h
  · rw [ratio_of_pos n hd, Option.some_inj] at h
    exact h ▸ min_le_right _ _

/-- Settles O35: over 0 there is no ratio; else the floor where the count is within its denominator, and the cap above. -/
theorem ratioRoundsDownAndCaps : Obligations.RatioRoundsDownAndCaps := by
  refine fun n d => ⟨ratio_eq_none_iff, fun q hq => ⟨ratio_le hq, fun hle => ?_, fun hgt => ?_⟩⟩
  all_goals have hd : 0 < d := Nat.pos_of_ne_zero fun h0 => by simp [h0] at hq
  · obtain rfl : n * 10000 / d = q := Option.some_inj.1 ((ratio_of_le hd hle).symm.trans hq)
    exact ⟨Nat.div_mul_le_self _ _, (Nat.div_lt_iff_lt_mul hd).1 (Nat.lt_succ_self _)⟩
  · exact Option.some_inj.1 (hq.symm.trans (ratio_of_gt hd hgt))

end Sys2Proof.Machine

/-! SUPPORT. The requests about wafer records: what a slot selector names, and what the take and the reply of a request
leave of the slots, the tags and a record's WAFER_READ content. -/

namespace Sys2Proof.Machine

/-! ## Slot selectors (R178, R179) -/

@[simp] theorem slotOfByte_natByte (i : SlotId) : slotOfByte (natByte i.val) = some i := by
  have hbyte : (natByte i.val).toNat = i.val := Nat.mod_eq_of_lt (by omega)
  simp [slotOfByte, hbyte]

theorem slotOfByte_of_above {b : Byte} (h : 23 < b.toNat) : slotOfByte b = none := dif_neg (by omega)

@[simp] theorem onSlot_natByte (i : SlotId) (act : SlotId → State → State × Reply) :
    onSlot (natByte i.val) act = act i := by
  funext s
  simp [onSlot]

theorem onSlot_of_above {b : Byte} (h : 23 < b.toNat) (act : SlotId → State → State × Reply) :
    onSlot b act = decline .badArgument := by
  funext s
  simp [onSlot, slotOfByte_of_above h]

theorem onRecord_of_some {s : State} {i : SlotId} {r : Record} (h : s.record i = some r)
    (act : SlotId → Record → State → State × Reply) : onRecord (natByte i.val) act s = act i r s := by
  simp [onRecord, h]

theorem onRecord_of_none {s : State} {i : SlotId} (h : s.record i = none)
    (act : SlotId → Record → State → State × Reply) : onRecord (natByte i.val) act s = decline .noWafer s := by
  simp [onRecord, h]

theorem onRecord_of_above {b : Byte} (h : 23 < b.toNat) (act : SlotId → Record → State → State × Reply) :
    onRecord b act = decline .badArgument := onSlot_of_above h _

/-! ## What the take and the reply leave of the slots and the tags -/

@[simp] theorem State.record_requestTaken (s : State) (i : SlotId) : s.requestTaken.record i = s.record i := rfl

@[simp] theorem State.tag_requestTaken (s : State) (q : Fin 4) : s.requestTaken.tag q = s.tag q := rfl

@[simp] theorem State.tag_respond (u : State) (name : Byte) (rq : Request) (p : Reply) (q : Fin 4) :
    (u.respond name rq p).tag q = u.tag q :=
  congrArg (·[q.val]) (u.respond_changes name rq p .tags (by decide))

@[simp] theorem State.readBytes_withHall (u : State) (v : HallPort) (i : SlotId) :
    (u.withHall v).readBytes i = u.readBytes i := rfl

/-- The content of a WAFER_READ or WAFER_MARK reply is the same before and after that reply is queued. -/
@[simp] theorem State.readBytes_respond (u : State) (name : Byte) (rq : Request) (p : Reply) (i : SlotId) :
    (u.respond name rq p).readBytes i = u.readBytes i := by
  unfold State.respond
  split
  · rfl
  · exact u.readBytes_withHall _ i

/-! ## WAFER_MARK (R187) -/

/-- What WAFER_MARK does once it has found a record in the slot it names. -/
def waferMarkOf (rq : Request) (i : SlotId) (_ : Record) (s : State) : State × Reply :=
  (s.setTag (requesterOf rq) (some i), okReply ((s.setTag (requesterOf rq) (some i)).readBytes i))

theorem exec_waferMark {rq : Request} {b : Byte} (hargs : rq.args = [b]) (s : State) :
    exec (.waferMark rq) s = serve 0x42 rq (onRecord b (waferMarkOf rq)) s := by
  have hlen : rq.args.length = 1 := by simp [hargs]
  show serve 0x42 rq (sized 1 rq fun a => onRecord (byteAt a 0) (waferMarkOf rq)) s = _
  rw [sized_of_length hlen, hargs, byteAt_cons_zero]

/-- WAFER_MARK of a slot with a record: the state after it is that with the tag moved and the reply queued. -/
theorem exec_waferMark_of_record {s : State} {rq : Request} {i : SlotId} {r : Record} (ht : s.takesNow 0x42 rq)
    (hargs : rq.args = [natByte i.val]) (hr : s.record i = some r) :
    exec (.waferMark rq) s = .next ((s.requestTaken.setTag (requesterOf rq) (some i)).respond 0x42 rq
      (okReply ((s.requestTaken.setTag (requesterOf rq) (some i)).readBytes i))) :=
  (exec_waferMark hargs s).trans (serve_of_takesNow ht (onRecord_of_some (by simpa using hr) _))

theorem exec_waferMark_noWafer {s : State} {rq : Request} {i : SlotId} (ht : s.takesNow 0x42 rq)
    (hargs : rq.args = [natByte i.val]) (hr : s.record i = none) :
    s.onlyReplies (.waferMark rq) 0x42 rq { status := .noWafer, data := [] } :=
  (exec_waferMark hargs s).trans (serve_onlyReplies ht (onRecord_of_none (by simpa using hr) _))

theorem exec_waferMark_badArgument {s : State} {rq : Request} {b : Byte} (ht : s.takesNow 0x42 rq)
    (hargs : rq.args = [b]) (hb : 23 < b.toNat) :
    s.onlyReplies (.waferMark rq) 0x42 rq { status := .badArgument, data := [] } :=
  (exec_waferMark hargs s).trans (serve_onlyReplies ht (congrFun (onRecord_of_above hb _) _))

/-- Settles O56: one lemma per outcome; a mark is one write to the requester's own tag, read back by the reply. -/
theorem waferMarkMovesTheTag : Obligations.WaferMarkMovesTheTag := by
  refine fun s rq ht => ⟨fun i hargs => ⟨fun hsome => ?_, exec_waferMark_noWafer ht hargs⟩,
    fun b => exec_waferMark_badArgument ht⟩
  obtain ⟨r, hr⟩ := Option.isSome_iff_exists.1 hsome
  have hc := s.requestTaken.setTag_changes (requesterOf rq) (some i)
  refine ⟨_, exec_waferMark_of_record ht hargs hr, ?_, fun q hq => ?_, ?_, State.served_changes hc _ rq _⟩
  · simp
  · simp [State.tag_setTag_other _ _ hq]
  · simp [State.hall_respond hc, okReply]

end Sys2Proof.Machine

/-! SUPPORT. What a frame (`State.changesOnly`) says of each block and of each lookup: a lookup reads one block, so it
is unchanged where the frame leaves that block out. -/

namespace Sys2Proof.Machine

set_option Elab.async false

section

variable {s t u : State} {bs : List Block}

theorem State.changesOnly.cells (h : s.changesOnly t bs) (hb : .cells ∉ bs := by decide) : t.cells = s.cells :=
  h .cells hb
theorem State.changesOnly.time (h : s.changesOnly t bs) (hb : .time ∉ bs := by decide) : t.time = s.time := h .time hb
theorem State.changesOnly.banks (h : s.changesOnly t bs) (hb : .banks ∉ bs := by decide) : t.banks = s.banks :=
  h .banks hb
theorem State.changesOnly.dir (h : s.changesOnly t bs) (hb : .dir ∉ bs := by decide) : t.dir = s.dir := h .dir hb
theorem State.changesOnly.maps (h : s.changesOnly t bs) (hb : .maps ∉ bs := by decide) : t.maps = s.maps := h .maps hb
theorem State.changesOnly.alerts (h : s.changesOnly t bs) (hb : .alerts ∉ bs := by decide) : t.alerts = s.alerts :=
  h .alerts hb
theorem State.changesOnly.xport (h : s.changesOnly t bs) (hb : .xport ∉ bs := by decide) : t.xport = s.xport :=
  h .xport hb
theorem State.changesOnly.hall (h : s.changesOnly t bs) (hb : .hall ∉ bs := by decide) : t.hall = s.hall := h .hall hb
theorem State.changesOnly.tags (h : s.changesOnly t bs) (hb : .tags ∉ bs := by decide) : t.tags = s.tags := h .tags hb
theorem State.changesOnly.node (h : s.changesOnly t bs) (hb : .node ∉ bs := by decide) : t.node = s.node := h .node hb
theorem State.changesOnly.sent (h : s.changesOnly t bs) (hb : .sent ∉ bs := by decide) : t.sent = s.sent := h .sent hb
theorem State.changesOnly.pending (h : s.changesOnly t bs) (hb : .pending ∉ bs := by decide) :
    t.pending = s.pending := h .pending hb

/-! ## Lookups of equal blocks -/

theorem State.cell_congr (h : t.cells = s.cells) (c : CellId) : t.cell c = s.cell c := congrArg (·[c.val]) h
theorem State.record_congr (h : t.dir = s.dir) (i : SlotId) : t.record i = s.record i := congrArg (·.slots[i.val]) h
theorem State.frame_congr (h : t.maps = s.maps) (f : FrameId) : t.frame f = s.frame f := congrArg (·.frames[f.val]) h
theorem State.tag_congr (h : t.tags = s.tags) (q : Fin 4) : t.tag q = s.tag q := congrArg (·[q.val]) h
theorem State.progressTimer_congr (h : t.xport = s.xport) (i : SlotId) : t.progressTimer i = s.progressTimer i :=
  congrArg (·.progress[i.val]) h

theorem State.changesOnly.cell (h : s.changesOnly t bs) (c : CellId) (hb : .cells ∉ bs := by decide) :
    t.cell c = s.cell c := State.cell_congr (h.cells hb) c
theorem State.changesOnly.bank (h : s.changesOnly t bs) (lb : BankId) (hb : .banks ∉ bs := by decide) :
    t.bank lb = s.bank lb := State.bank_congr (h.banks hb) lb
theorem State.changesOnly.record (h : s.changesOnly t bs) (i : SlotId) (hb : .dir ∉ bs := by decide) :
    t.record i = s.record i := State.record_congr (h.dir hb) i
theorem State.changesOnly.frame (h : s.changesOnly t bs) (f : FrameId) (hb : .maps ∉ bs := by decide) :
    t.frame f = s.frame f := State.frame_congr (h.maps hb) f
theorem State.changesOnly.tag (h : s.changesOnly t bs) (q : Fin 4) (hb : .tags ∉ bs := by decide) :
    t.tag q = s.tag q := State.tag_congr (h.tags hb) q
theorem State.changesOnly.progressTimer (h : s.changesOnly t bs) (i : SlotId) (hb : .xport ∉ bs := by decide) :
    t.progressTimer i = s.progressTimer i := State.progressTimer_congr (h.xport hb) i
theorem State.changesOnly.liveBank (h : s.changesOnly t bs) (hb : .banks ∉ bs := by decide) :
    t.liveBank = s.liveBank := by
  simp only [State.liveBank, h.banks hb]
theorem State.changesOnly.recipeOf (h : s.changesOnly t bs) (r : Record) (hb : .banks ∉ bs := by decide) :
    t.recipeOf r = s.recipeOf r := by
  simp only [State.recipeOf, h.bank r.bank hb]

/-! ## Cells and slots kept but one -/

theorem State.cellsKeptBut.refl (s : State) (c : CellId) : s.cellsKeptBut s c := fun _ _ => rfl
theorem State.cellsKeptBut.trans {c : CellId} (h : s.cellsKeptBut t c) (k : t.cellsKeptBut u c) :
    s.cellsKeptBut u c := fun d hd => (k d hd).trans (h d hd)
theorem State.changesOnly.cellsKeptBut (h : s.changesOnly t bs) (c : CellId) (hb : .cells ∉ bs := by decide) :
    s.cellsKeptBut t c := fun d _ => h.cell d hb
theorem State.modCell_cellsKeptBut (s : State) (c : CellId) (f : Cell → Cell) : s.cellsKeptBut (s.modCell c f) c :=
  fun _ hd => s.cell_modCell_other f hd

theorem State.slotsKeptBut.refl (s : State) (i : SlotId) : s.slotsKeptBut s i := fun _ _ => rfl
theorem State.slotsKeptBut.trans {i : SlotId} (h : s.slotsKeptBut t i) (k : t.slotsKeptBut u i) :
    s.slotsKeptBut u i := fun j hj => (k j hj).trans (h j hj)
theorem State.changesOnly.slotsKeptBut (h : s.changesOnly t bs) (i : SlotId) (hb : .dir ∉ bs := by decide) :
    s.slotsKeptBut t i := fun j _ => h.record j hb
theorem State.setSlot_slotsKeptBut (s : State) (i : SlotId) (v : Option Record) : s.slotsKeptBut (s.setSlot i v) i :=
  fun _ hj => s.record_setSlot_other v hj
theorem State.modRecord_slotsKeptBut (s : State) (i : SlotId) (f : Record → Record) :
    s.slotsKeptBut (s.modRecord i f) i := fun _ hj => s.record_modRecord_other f hj

end

/-! ## Lookups through the whole-block updates -/

theorem State.record_setSlot (s : State) (i j : SlotId) (v : Option Record) :
    (s.setSlot i v).record j = if j = i then v else s.record j := by
  split
  case isTrue h => rw [h, State.record_setSlot_same]
  case isFalse h => exact s.record_setSlot_other v h

theorem State.record_modRecord (s : State) (i j : SlotId) (f : Record → Record) :
    (s.modRecord i f).record j = if j = i then (s.record i).map f else s.record j := by
  split
  case isTrue h => rw [h, State.record_modRecord_same]
  case isFalse h => exact s.record_modRecord_other f h

theorem State.cell_modCell (s : State) (c d : CellId) (f : Cell → Cell) :
    (s.modCell c f).cell d = if d = c then f (s.cell c) else s.cell d := by
  split
  case isTrue h => rw [h, State.cell_modCell_same]
  case isFalse h => exact s.cell_modCell_other f h

theorem BankId.eq_or_eq_other (lb x : BankId) : x = lb ∨ x = lb.other := by
  cases lb <;> cases x <;> decide

theorem BankId.other_ne (lb : BankId) : lb.other ≠ lb := by cases lb <;> decide

theorem State.bank_setBank (s : State) (lb x : BankId) (v : Bank) :
    (s.setBank lb v).bank x = if x = lb then v else s.bank x := by
  obtain rfl | rfl := lb.eq_or_eq_other x
  · simp
  · simp [lb.other_ne]

theorem State.progressTimer_setProgress (s : State) (i j : SlotId) (m : Option Timer) :
    (s.setProgress i m).progressTimer j = if j = i then m else s.progressTimer j := by
  show (s.xport.progress.set i.val m)[j.val] = _
  rw [Vector.getElem_set]
  simp only [Fin.val_inj, eq_comm (a := i)]
  rfl

/-- A slot with a record is changed by writing the new record. -/
theorem State.modRecord_of_some {s : State} {i : SlotId} {r : Record} (h : s.record i = some r)
    (f : Record → Record) : s.modRecord i f = s.setSlot i (some (f r)) := by
  simp only [State.modRecord, h]

theorem State.modRecord_of_none {s : State} {i : SlotId} (h : s.record i = none) (f : Record → Record) :
    s.modRecord i f = s := by
  simp only [State.modRecord, h]

/-- Writing back what a slot holds changes nothing. -/
theorem State.setSlot_self {s : State} {i : SlotId} {v : Option Record} (h : s.record i = v) : s.setSlot i v = s := by
  subst h
  have hslots : s.dir.slots.set i.val (s.record i) = s.dir.slots := Vector.set_getElem_self i.isLt
  rw [State.setSlot, hslots]
  rfl

/-! ## Finding a slot -/

theorem mem_allSlots (i : SlotId) : i ∈ allSlots := by
  have : allSlots = List.finRange 24 := rfl
  simp [this]

theorem mem_allCells (c : CellId) : c ∈ allCells := by
  have : allCells = List.finRange 8 := rfl
  simp [this]

/-- The slot found holds a record with the property. -/
theorem State.findSlot_some {s : State} {p : Record → Bool} {i : SlotId} (h : s.findSlot p = some i) :
    ∃ r, s.record i = some r ∧ p r = true := by
  have hp := List.find?_some h
  cases hr : s.record i with
  | none => simp [hr] at hp
  | some r => exact ⟨r, rfl, by simpa [hr] using hp⟩

/-- No slot is found exactly when no record has the property. -/
theorem State.findSlot_eq_none {s : State} {p : Record → Bool} :
    s.findSlot p = none ↔ ∀ i r, s.record i = some r → p r = false := by
  simp only [State.findSlot, List.find?_eq_none, mem_allSlots, forall_const]
  refine forall_congr' fun i => ?_
  cases s.record i <;> simp

/-- The slot found is the lowest whose record has the property. -/
theorem State.findSlot_eq_some {s : State} {p : Record → Bool} {i : SlotId} :
    s.findSlot p = some i ↔ (∃ r, s.record i = some r ∧ p r = true) ∧
      ∀ j, j < i → ∀ r, s.record j = some r → p r = false := by
  have hslots : allSlots = List.finRange 24 := rfl
  rw [State.findSlot, hslots, ← Fin.find?_eq_find?_finRange, Fin.find?_eq_some_iff]
  refine and_congr ?_ (forall_congr' fun j => imp_congr_right fun _ => ?_)
  · cases s.record i <;> simp
  · cases s.record j <;> simp

theorem State.findSlot_congr {s t : State} (h : ∀ i, t.record i = s.record i) (p : Record → Bool) :
    t.findSlot p = s.findSlot p := by
  simp only [State.findSlot, h]

/-- A property of one record alone finds its slot. -/
theorem State.findSlot_of_unique {s : State} {p : Record → Bool} {i : SlotId} {r : Record} (hr : s.record i = some r)
    (hp : p r = true) (hu : ∀ j q, s.record j = some q → p q = true → j = i) : s.findSlot p = some i :=
  State.findSlot_eq_some.2 ⟨⟨r, hr, hp⟩, fun j hj q hq => Bool.eq_false_iff.2 fun hpq =>
    absurd (hu j q hq hpq) hj.ne⟩

end Sys2Proof.Machine

/-! SUPPORT. Raising an alert: what becomes of the queue and of the STOP latches, and the order of the queue (R139 to
R149). -/

namespace Sys2Proof.Machine

set_option Elab.async false

/-! ## The two effects of a raise -/

/-- The alert queue block after an alert is raised at a time. -/
def AlertUnit.raised (u : AlertUnit) (a : Alert) (now : Word) : AlertUnit :=
  if u.level a.kind = 0 then u else { u with queue := queueRaise u.queue a (u.level a.kind) now }

/-- An alert raised sets the STOP latch of cell c. -/
def AlertUnit.stops (u : AlertUnit) (a : Alert) (c : CellId) : Bool :=
  decide (u.level a.kind ≠ 0 ∧ a.cell = some c ∧ u.threshold.val ≤ (u.level a.kind).val)

theorem State.alerts_raise (s : State) (a : Alert) : (s.raise a).alerts = s.alerts.raised a s.time := by
  unfold State.raise AlertUnit.raised
  split <;> rfl

theorem State.cell_stopTest (s : State) (a : Alert) (l : Fin 8) (c : CellId) :
    (s.stopTest a l).cell c = { s.cell c with
      stopLatch := (s.cell c).stopLatch || decide (a.cell = some c ∧ s.alerts.threshold.val ≤ l.val) } := by
  unfold State.stopTest
  cases hc : a.cell with
  | none => simp
  | some d =>
    by_cases hle : s.alerts.threshold.val ≤ l.val
    · by_cases hcd : c = d
      · subst hcd; simp [hle, State.setStop]
      · simp [hle, State.setStop, s.cell_modCell_other _ hcd, Ne.symm hcd]
    · simp [hle]

/-- A raise moves nothing of a cell but its STOP latch. -/
theorem State.cell_raise (s : State) (a : Alert) (c : CellId) :
    (s.raise a).cell c = { s.cell c with stopLatch := (s.cell c).stopLatch || s.alerts.stops a c } := by
  unfold State.raise AlertUnit.stops
  by_cases hl : s.alerts.level a.kind = 0
  · simp [hl]
  · rw [if_neg hl]
    exact (s.cell_stopTest a _ c).trans (by simp [hl])

/-- What a raise does to the queue depends on the alert block and the time alone. -/
theorem State.alerts_raise_congr {s t : State} (ha : t.alerts = s.alerts) (ht : t.time = s.time) (a : Alert) :
    (t.raise a).alerts = (s.raise a).alerts := by
  rw [State.alerts_raise, State.alerts_raise, ha, ht]

theorem State.raise_of_suppressed {s : State} {a : Alert} (h : s.alerts.level a.kind = 0) : s.raise a = s := if_pos h

theorem AlertUnit.raised_levels (u : AlertUnit) (a : Alert) (now : Word) : (u.raised a now).levels = u.levels := by
  unfold AlertUnit.raised; split <;> rfl

theorem AlertUnit.raised_threshold (u : AlertUnit) (a : Alert) (now : Word) :
    (u.raised a now).threshold = u.threshold := by
  unfold AlertUnit.raised; split <;> rfl

/-- A raise outside cell c leaves its latch; one for cell c may set it. -/
theorem AlertUnit.stops_other {u : AlertUnit} {a : Alert} {c d : CellId} (h : a.cell = some c) (hd : d ≠ c) :
    u.stops a d = false := by
  simp [AlertUnit.stops, h, Ne.symm hd]

theorem State.raise_cellsKeptBut (s : State) {a : Alert} {c : CellId} (h : a.cell = some c) :
    s.cellsKeptBut (s.raise a) c := fun d hd => by
  rw [State.cell_raise, AlertUnit.stops_other h hd, Bool.or_false]

/-! ## Several raises -/

theorem State.raiseAll_cons (s : State) (a : Alert) (as : List Alert) :
    s.raiseAll (a :: as) = (s.raise a).raiseAll as := rfl

theorem State.alerts_raiseAll_congr {s t : State} (ha : t.alerts = s.alerts) (ht : t.time = s.time)
    (as : List Alert) : (t.raiseAll as).alerts = (s.raiseAll as).alerts := by
  induction as generalizing s t with
  | nil => exact ha
  | cons a as ih =>
    have htime : (t.raise a).time = (s.raise a).time :=
      ((t.raise_changes a).time.trans ht).trans (s.raise_changes a).time.symm
    exact ih (State.alerts_raise_congr ha ht a) htime

/-- Raises move nothing of a cell but its STOP latch, and where that ends depends on the cell's latch, the alert block
and the time alone. -/
theorem State.cell_raiseAll_congr {s t : State} (ha : t.alerts = s.alerts) (ht : t.time = s.time) {c : CellId}
    (hc : (t.cell c).stopLatch = (s.cell c).stopLatch) (as : List Alert) :
    (t.raiseAll as).cell c = { t.cell c with stopLatch := ((s.raiseAll as).cell c).stopLatch } := by
  induction as generalizing s t with
  | nil =>
    show t.cell c = { t.cell c with stopLatch := (s.cell c).stopLatch }
    rw [← hc]
  | cons a as ih =>
    have htime : (t.raise a).time = (s.raise a).time :=
      ((t.raise_changes a).time.trans ht).trans (s.raise_changes a).time.symm
    have hlatch : ((t.raise a).cell c).stopLatch = ((s.raise a).cell c).stopLatch := by
      rw [State.cell_raise, State.cell_raise, ha, hc]
    rw [State.raiseAll_cons, State.raiseAll_cons, ih (State.alerts_raise_congr ha ht a) htime hlatch,
      State.cell_raise t]

/-- Raises move nothing of a cell but its STOP latch. -/
theorem State.cell_raiseAll (s : State) (as : List Alert) (c : CellId) :
    (s.raiseAll as).cell c = { s.cell c with stopLatch := ((s.raiseAll as).cell c).stopLatch } :=
  State.cell_raiseAll_congr rfl rfl rfl as

/-! ## The queue's order (R142, R144 to R146) -/

/-- The order of the alert queue: levels above 0 that never rise from head to tail, and no two entries of one coalescing
key. -/
def queueOrdered (q : List AlertEntry) : Prop :=
  (∀ e ∈ q, e.level ≠ 0) ∧ q.Pairwise (fun x y => y.level ≤ x.level) ∧
    q.Pairwise fun x y => x.alert.sameKey y.alert = false

theorem State.alertLaw_iff (s : State) : s.alertLaw ↔ queueOrdered s.alerts.queue := Iff.rfl

/-- One coalescing key means equal kind, cell, slot and index. -/
theorem Alert.sameKey_iff {a b : Alert} :
    a.sameKey b = true ↔ a.kind = b.kind ∧ a.cell = b.cell ∧ a.slot = b.slot ∧ a.index = b.index := by
  simp [Alert.sameKey, and_assoc]

theorem Alert.sameKey_comm (a b : Alert) : a.sameKey b = b.sameKey a := by
  rw [Bool.eq_iff_iff, Alert.sameKey_iff, Alert.sameKey_iff]
  simp only [eq_comm]

theorem queueOrdered.sublist {p q : List AlertEntry} (hq : queueOrdered q) (h : p.Sublist q) : queueOrdered p :=
  ⟨fun e he => hq.1 e (h.subset he), hq.2.1.sublist h, hq.2.2.sublist h⟩

/-- The coalescing key of a merged entry is the entry's. -/
theorem AlertEntry.sameKey_merge (e : AlertEntry) (a b : Alert) (now : Word) :
    (e.merge a now).alert.sameKey b = e.alert.sameKey b := rfl

theorem AlertEntry.level_merge (e : AlertEntry) (a : Alert) (now : Word) : (e.merge a now).level = e.level := rfl

/-- The queue with the entries of an alert's key merged. -/
def mergeInto (q : List AlertEntry) (a : Alert) (now : Word) : List AlertEntry :=
  q.map fun e => if e.alert.sameKey a then e.merge a now else e

theorem queueOrdered.merge {q : List AlertEntry} (hq : queueOrdered q) (a : Alert) (now : Word) :
    queueOrdered (mergeInto q a now) := by
  have hlevel : ∀ e : AlertEntry, (if e.alert.sameKey a then e.merge a now else e).level = e.level := fun e => by
    split <;> rfl
  have hkey : ∀ (e : AlertEntry) (b : Alert),
      (if e.alert.sameKey a then e.merge a now else e).alert.sameKey b = e.alert.sameKey b := fun e b => by
    split <;> rfl
  obtain ⟨hpos, hfall, hdistinct⟩ := hq
  refine ⟨?_, ?_, ?_⟩
  · intro e he
    obtain ⟨x, hx, rfl⟩ := List.mem_map.1 he
    rw [hlevel]
    exact hpos x hx
  · refine List.pairwise_map.2 (hfall.imp fun hxy => ?_)
    rw [hlevel, hlevel]
    exact hxy
  · refine List.pairwise_map.2 (hdistinct.imp fun hxy => ?_)
    rw [hkey, Alert.sameKey_comm, hkey, Alert.sameKey_comm]
    exact hxy

/-- Where an entry of a level goes in an ordered queue: behind all of its level or higher, ahead of all lower ones. -/
theorem insertEntry_split {q : List AlertEntry} (hq : q.Pairwise fun x y => y.level ≤ x.level) (e : AlertEntry) :
    ∃ front back, q = front ++ back ∧ (∀ x ∈ front, e.level ≤ x.level) ∧ (∀ x ∈ back, x.level < e.level) ∧
      insertEntry q e = front ++ e :: back := by
  refine ⟨q.takeWhile fun x => decide (e.level ≤ x.level), q.dropWhile fun x => decide (e.level ≤ x.level),
    List.takeWhile_append_dropWhile.symm, fun x hx => by simpa using List.mem_takeWhile_imp hx, ?_, rfl⟩
  induction q with
  | nil => simp
  | cons y q ih =>
    intro x hx
    rw [List.dropWhile_cons] at hx
    split at hx
    · exact ih hq.of_cons x hx
    · rename_i hlow
      have hy : y.level < e.level := by simpa using hlow
      rcases List.mem_cons.1 hx with rfl | hx
      · exact hy
      · exact lt_of_le_of_lt (List.rel_of_pairwise_cons hq hx) hy

theorem queueOrdered.insert {q : List AlertEntry} (hq : queueOrdered q) {e : AlertEntry} (he : e.level ≠ 0)
    (hnew : ∀ x ∈ q, x.alert.sameKey e.alert = false) : queueOrdered (insertEntry q e) := by
  obtain ⟨front, back, rfl, hfront, hback, hins⟩ := insertEntry_split hq.2.1 e
  obtain ⟨hpos, hfall, hdistinct⟩ := hq
  rw [hins]
  simp only [List.mem_append, List.pairwise_append] at hpos hfall hdistinct hnew
  obtain ⟨hf1, hb1, hfb1⟩ := hfall
  obtain ⟨hf2, hb2, hfb2⟩ := hdistinct
  have hkeyb : ∀ x ∈ back, e.alert.sameKey x.alert = false := fun x hx => by
    rw [Alert.sameKey_comm]; exact hnew x (.inr hx)
  refine ⟨?_, List.pairwise_append.2 ⟨hf1, hb1.cons fun x hx => (hback x hx).le, ?_⟩,
    List.pairwise_append.2 ⟨hf2, hb2.cons hkeyb, ?_⟩⟩
  · intro x hx
    rcases List.mem_append.1 hx with hx | hx
    · exact hpos x (.inl hx)
    · rcases List.mem_cons.1 hx with rfl | hx
      · exact he
      · exact hpos x (.inr hx)
  · intro x hx y hy
    rcases List.mem_cons.1 hy with rfl | hy
    · exact hfront x hx
    · exact hfb1 x hx y hy
  · intro x hx y hy
    rcases List.mem_cons.1 hy with rfl | hy
    · exact hnew x (.inl hx)
    · exact hfb2 x hx y hy

theorem discardNewest_sublist (q : List AlertEntry) (l : Fin 8) : (discardNewest q l).Sublist q := by
  have h := (List.eraseP_sublist (p := fun e : AlertEntry => e.level == l) (l := q.reverse)).reverse
  rwa [List.reverse_reverse] at h

/-- Merging, inserting and evicting all keep the order. -/
theorem queueOrdered.raise {q : List AlertEntry} (hq : queueOrdered q) (a : Alert) {l : Fin 8} (hl : l ≠ 0)
    (now : Word) : queueOrdered (queueRaise q a l now) := by
  unfold queueRaise
  split
  · exact hq.merge a now
  · rename_i hany
    have hnew : ∀ x ∈ q, x.alert.sameKey a = false := by simpa using hany
    split
    · exact hq.insert hl hnew
    · split
      · exact (hq.sublist (discardNewest_sublist q _)).insert hl
          fun x hx => hnew x ((discardNewest_sublist q _).subset hx)
      · exact hq

theorem State.alertLaw_raise {s : State} (h : s.alertLaw) (a : Alert) : (s.raise a).alertLaw := by
  rw [State.alertLaw_iff, State.alerts_raise] at *
  unfold AlertUnit.raised
  split
  · exact h
  · rename_i hl
    exact h.raise a hl s.time

/-! ## The queue's length (R142, R146) -/

theorem length_insertEntry (q : List AlertEntry) (e : AlertEntry) : (insertEntry q e).length = q.length + 1 := by
  have h := congrArg List.length
    (List.takeWhile_append_dropWhile (p := fun x : AlertEntry => decide (e.level ≤ x.level)) (l := q))
  simp only [List.length_append] at h
  simp only [insertEntry, List.length_append, List.length_cons]
  omega

/-- The lowest level of a queue that is not empty is held by one of its entries, and none is below it. -/
theorem lowestLevel_spec (q : List AlertEntry) :
    (∀ e ∈ q, lowestLevel q ≤ e.level) ∧ (q ≠ [] → ∃ e ∈ q, e.level = lowestLevel q) := by
  induction q with
  | nil => simp
  | cons x q ih =>
    have hcons : lowestLevel (x :: q) = min x.level (lowestLevel q) := rfl
    obtain ⟨hle, hmem⟩ := ih
    refine ⟨fun e he => ?_, fun _ => ?_⟩
    · rcases List.mem_cons.1 he with rfl | he
      · exact hcons ▸ min_le_left _ _
      · exact hcons ▸ (min_le_right _ _).trans (hle e he)
    · rcases le_total x.level (lowestLevel q) with h | h
      · exact ⟨x, by simp, by rw [hcons, min_eq_left h]⟩
      · by_cases hq : q = []
        · subst hq
          exact ⟨x, by simp, by rw [hcons]; exact (min_eq_left (Fin.le_last x.level)).symm⟩
        · obtain ⟨e, he, heq⟩ := hmem hq
          exact ⟨e, List.mem_cons_of_mem _ he, by rw [hcons, min_eq_right h, heq]⟩

theorem length_discardNewest {q : List AlertEntry} (hq : q ≠ []) :
    (discardNewest q (lowestLevel q)).length = q.length - 1 := by
  obtain ⟨e, he, heq⟩ := (lowestLevel_spec q).2 hq
  rw [discardNewest, List.length_reverse, List.length_eraseP_of_mem (List.mem_reverse.2 he) (by simp [heq]),
    List.length_reverse]

theorem length_queueRaise_le {q : List AlertEntry} (hq : q.length ≤ 32) (a : Alert) (l : Fin 8) (now : Word) :
    (queueRaise q a l now).length ≤ 32 := by
  have hcap : Config.alertCap = 32 := rfl
  unfold queueRaise
  split
  · rw [List.length_map]; exact hq
  · split
    · rw [length_insertEntry]; omega
    · split
      · have hne : q ≠ [] := fun h => by simp_all
        rw [length_insertEntry, length_discardNewest hne]; omega
      · exact hq

theorem State.length_alerts_raise_le {s : State} (h : s.alerts.queue.length ≤ 32) (a : Alert) :
    (s.raise a).alerts.queue.length ≤ 32 := by
  rw [State.alerts_raise]
  unfold AlertUnit.raised
  split
  · exact h
  · exact length_queueRaise_le h a _ s.time

end Sys2Proof.Machine

namespace Sys2Proof.Machine

set_option Elab.async false

/-! ## One raise, case by case (R143 to R148) -/

theorem AlertUnit.raised_of_level {u : AlertUnit} {a : Alert} (h : u.level a.kind ≠ 0) (now : Word) :
    u.raised a now = { u with queue := queueRaise u.queue a (u.level a.kind) now } := if_neg h

theorem queueRaise_of_mem {q : List AlertEntry} {a : Alert} (h : ∃ e ∈ q, e.alert.sameKey a = true) (l : Fin 8)
    (now : Word) : queueRaise q a l now = mergeInto q a now :=
  if_pos (List.any_eq_true.2 h)

theorem not_any_sameKey {q : List AlertEntry} {a : Alert} (hnew : ∀ e ∈ q, e.alert.sameKey a = false) :
    ¬ (q.any fun e => e.alert.sameKey a) = true := fun h => by
  obtain ⟨e, he, hkey⟩ := List.any_eq_true.1 h
  simp [hnew e he] at hkey

theorem queueRaise_of_room {q : List AlertEntry} {a : Alert} (hnew : ∀ e ∈ q, e.alert.sameKey a = false)
    (hroom : q.length < 32) (l : Fin 8) (now : Word) : queueRaise q a l now = insertEntry q (newEntry a l now) := by
  have hcap : q.length < Config.alertCap := hroom
  rw [queueRaise, if_neg (not_any_sameKey hnew), if_pos hcap]

theorem lowestLevel_append_singleton {init : List AlertEntry} {last : AlertEntry}
    (h : (init ++ [last]).Pairwise fun x y => y.level ≤ x.level) : lowestLevel (init ++ [last]) = last.level := by
  obtain ⟨hle, hmem⟩ := lowestLevel_spec (init ++ [last])
  obtain ⟨e, he, heq⟩ := hmem (by simp)
  refine le_antisymm (hle last (by simp)) (heq ▸ ?_)
  rcases List.mem_append.1 he with he | he
  · exact (List.pairwise_append.1 h).2.2 e he last (by simp)
  · rw [List.mem_singleton.1 he]

theorem discardNewest_append_singleton (init : List AlertEntry) (last : AlertEntry) :
    discardNewest (init ++ [last]) last.level = init := by
  simp [discardNewest]

/-- At a full queue the last entry, the newest of the lowest level, gives way to a higher one and to no other. -/
theorem queueRaise_of_full {init : List AlertEntry} {last : AlertEntry} {a : Alert}
    (hnew : ∀ e ∈ init ++ [last], e.alert.sameKey a = false) (hfull : 32 ≤ (init ++ [last]).length)
    (h : (init ++ [last]).Pairwise fun x y => y.level ≤ x.level) (l : Fin 8) (now : Word) :
    queueRaise (init ++ [last]) a l now =
      if last.level < l then insertEntry init (newEntry a l now) else init ++ [last] := by
  have hcap : ¬ (init ++ [last]).length < Config.alertCap := Nat.not_lt.2 hfull
  rw [queueRaise, if_neg (not_any_sameKey hnew), if_neg hcap, lowestLevel_append_singleton h, discardNewest_append_singleton]

/-- A new entry in an ordered queue stands behind every entry of its level or higher and ahead of every lower one. -/
theorem insertEntry_newEntry {q : List AlertEntry} (h : q.Pairwise fun x y => y.level ≤ x.level) (a : Alert)
    (l : Fin 8) (now : Word) : ∃ front back, q = front ++ back ∧ (∀ e ∈ front, l ≤ e.level) ∧
      (∀ e ∈ back, e.level < l) ∧ insertEntry q (newEntry a l now) = front ++
        { alert := a, level := l, firstTime := now, lastTime := now, occ := 1 } :: back :=
  insertEntry_split h (newEntry a l now)

theorem AlertEntry.merge_eq (e : AlertEntry) (a : Alert) (now : Word) : e.merge a now = { e with
    alert := { e.alert with value := a.value, key := if a.key.isSome then a.key else e.alert.key }
    lastTime := now
    occ := BitVec.ofNat 16 (min (e.occ.toNat + 1) 65535) } := by
  unfold AlertEntry.merge satAdd
  cases a.key <;> rfl

/-- Settles O38: the latch by the STOP test, the queue by the three branches of a raise. -/
theorem raiseStopsMergesAndInserts : Obligations.RaiseStopsMergesAndInserts := by
  intro s a l hl
  have hlevel : s.alerts.level a.kind = l := hl.symm
  refine ⟨fun h0 => State.raise_of_suppressed (hlevel.trans h0), fun hpos => ?_⟩
  have hstops : ∀ c, s.alerts.stops a c = decide (a.cell = some c ∧ s.alerts.threshold.val ≤ l.val) := fun c => by
    simp [AlertUnit.stops, hlevel, hpos]
  have hlatch : ∀ c, ((s.raise a).cell c).stopLatch = true ↔
      (s.cell c).stopLatch = true ∨ (a.cell = some c ∧ s.alerts.threshold.val ≤ l.val) := fun c => by
    simp [State.cell_raise, hstops]
  have hqueue : (s.raise a).alerts.queue = queueRaise s.alerts.queue a l s.time := by
    rw [State.alerts_raise, AlertUnit.raised_of_level (hlevel ▸ hpos), hlevel]
  refine ⟨hlatch, hlatch, s.raise_changes a, ?_, ?_, fun b => Alert.sameKey_iff, fun e => e.merge_eq a s.time,
    fun hmem => ?_, fun hnew hroom hord => ?_, fun init last hnew hfull hord heq => ⟨fun hle => ?_, fun hlt => ?_⟩⟩
  · rw [State.alerts_raise, AlertUnit.raised_levels]
  · rw [State.alerts_raise, AlertUnit.raised_threshold]
  · rw [hqueue, queueRaise_of_mem hmem]
    rfl
  · rw [hqueue, queueRaise_of_room hnew hroom]
    exact insertEntry_newEntry hord a l s.time
  · rw [hqueue, heq, queueRaise_of_full (heq ▸ hnew) (heq ▸ hfull) (heq ▸ hord), if_neg (not_lt.2 hle)]
  · have hinit : init.Pairwise fun x y => y.level ≤ x.level :=
      (List.pairwise_append.1 (heq ▸ hord)).1
    rw [hqueue, heq, queueRaise_of_full (heq ▸ hnew) (heq ▸ hfull) (heq ▸ hord), if_pos hlt]
    exact insertEntry_newEntry hinit a l s.time

end Sys2Proof.Machine

/-! SUPPORT. What the laws read of a record, and what each operation of the exporting unit and the tally unit leaves of
the slots, the two orders of the directory and the lists (R73, R91, R161 to R164). -/

namespace Sys2Proof.Machine

set_option Elab.async false

/-! ## A record's standing -/

/-- What the laws of bound counts, keys, frames and tallies read of a record: everything but its times, its results,
its generation, its recipe and SUMMARY_OWED. -/
structure Standing where
  state     : RecordState
  key       : Key
  cell      : CellId
  bank      : BankId
  frame     : Option FrameId
  tallyOnly : Bool
  tested    : Word
  retests   : Word
  bins      : Vector Word 64
  zones     : Vector ZoneTally 9

def Record.standing (r : Record) : Standing :=
  { state := r.state, key := r.key, cell := r.cell, bank := r.bank, frame := r.frame, tallyOnly := r.flags.tallyOnly,
    tested := r.counts.t, retests := r.counts.r, bins := r.bins, zones := r.zones }

/-- The standing of the record in a slot; none when the slot is FREE. -/
def State.standing (s : State) (i : SlotId) : Option Standing := (s.record i).map Record.standing

theorem State.standing_of_record {s : State} {i : SlotId} {r : Record} (h : s.record i = some r) :
    s.standing i = some r.standing := congrArg (Option.map Record.standing) h

theorem State.standing_eq_none {s : State} {i : SlotId} : s.standing i = none ↔ s.record i = none :=
  Option.map_eq_none_iff

theorem State.standing_eq_some {s : State} {i : SlotId} {p : Standing} :
    s.standing i = some p ↔ ∃ r, s.record i = some r ∧ r.standing = p := Option.map_eq_some_iff

/-- From s to t no record's standing changes. -/
def State.sameStandings (s t : State) : Prop := ∀ i, t.standing i = s.standing i

theorem State.sameStandings.refl (s : State) : s.sameStandings s := fun _ => rfl
theorem State.sameStandings.trans {s t u : State} (h : s.sameStandings t) (k : t.sameStandings u) :
    s.sameStandings u := fun i => (k i).trans (h i)

/-- From s to t the two orders of the directory stay as they are. -/
def State.ordersKept (s t : State) : Prop :=
  t.dir.exportOrder = s.dir.exportOrder ∧ t.dir.sealOrder = s.dir.sealOrder

theorem State.ordersKept.refl (s : State) : s.ordersKept s := ⟨rfl, rfl⟩
theorem State.ordersKept.trans {s t u : State} (h : s.ordersKept t) (k : t.ordersKept u) : s.ordersKept u :=
  ⟨k.1.trans h.1, k.2.trans h.2⟩

section

variable {s t : State} {bs : List Block}

theorem State.changesOnly.standing (h : s.changesOnly t bs) (hb : .dir ∉ bs := by decide) : s.sameStandings t :=
  fun i => congrArg (Option.map Record.standing) (h.record i hb)

theorem State.changesOnly.orders (h : s.changesOnly t bs) (hb : .dir ∉ bs := by decide) : s.ordersKept t :=
  ⟨congrArg _ (h.dir hb), congrArg _ (h.dir hb)⟩

end

theorem State.standing_setSlot (s : State) (i j : SlotId) (v : Option Record) :
    (s.setSlot i v).standing j = if j = i then v.map Record.standing else s.standing j := by
  simp only [State.standing, State.record_setSlot]
  split <;> rfl

theorem State.setSlot_orders (s : State) (i : SlotId) (v : Option Record) : s.ordersKept (s.setSlot i v) := ⟨rfl, rfl⟩

/-- Writing a record of the same standing moves no standing. -/
theorem State.setSlot_standings {s : State} {i : SlotId} {r q : Record} (hr : s.record i = some r)
    (h : q.standing = r.standing) : s.sameStandings (s.setSlot i (some q)) := fun j => by
  rw [State.standing_setSlot]
  split
  case isTrue hj => subst hj; rw [State.standing_of_record hr, Option.map_some, h]
  case isFalse => rfl

theorem State.modRecord_orders (s : State) (i : SlotId) (f : Record → Record) : s.ordersKept (s.modRecord i f) := by
  unfold State.modRecord
  split
  · exact .refl s
  · exact s.setSlot_orders i _

/-! ## SUMMARY_OWED -/

/-- A record with SUMMARY_OWED set or clear. -/
def Record.withOwed (r : Record) (b : Bool) : Record := { r with flags := { r.flags with summaryOwed := b } }

@[simp] theorem Record.standing_withOwed (r : Record) (b : Bool) : (r.withOwed b).standing = r.standing := rfl

theorem State.record_setOwedFlag (s : State) (i j : SlotId) (b : Bool) :
    (s.setOwedFlag i b).record j = if j = i then (s.record i).map (·.withOwed b) else s.record j :=
  s.record_modRecord i j _

theorem State.setOwedFlag_orders (s : State) (i : SlotId) (b : Bool) : s.ordersKept (s.setOwedFlag i b) :=
  s.modRecord_orders i _

theorem State.setOwedFlag_standings (s : State) (i : SlotId) (b : Bool) : s.sameStandings (s.setOwedFlag i b) := by
  intro j
  simp only [State.standing, State.record_setOwedFlag]
  split
  case isTrue h => subst h; cases s.record j <;> simp
  case isFalse => rfl

@[simp] theorem State.xport_setOwedFlag (s : State) (i : SlotId) (b : Bool) : (s.setOwedFlag i b).xport = s.xport :=
  (s.setOwedFlag_changes i b).xport

/-! ## The owed list and the SUM queue (R161, R163, R164) -/

theorem State.xport_dropOwed (s : State) (i : SlotId) :
    (s.dropOwed i).xport = { s.xport with owed := s.xport.owed.erase i } := by
  unfold State.dropOwed
  split
  · rfl
  · rename_i h
    rw [List.erase_of_not_mem h]

theorem State.record_dropOwed (s : State) (i j : SlotId) : (s.dropOwed i).record j =
    if j = i ∧ i ∈ s.xport.owed then (s.record i).map (·.withOwed false) else s.record j := by
  unfold State.dropOwed
  by_cases h : i ∈ s.xport.owed
  · rw [if_pos h]
    exact (s.record_setOwedFlag i j false).trans (by simp [h])
  · simp [h]

theorem State.dropOwed_standings (s : State) (i : SlotId) : s.sameStandings (s.dropOwed i) := by
  unfold State.dropOwed
  split
  · exact (s.setOwedFlag_standings i false).trans (State.withXport_changes _ _).standing
  · exact .refl s

theorem State.dropOwed_orders (s : State) (i : SlotId) : s.ordersKept (s.dropOwed i) := by
  unfold State.dropOwed
  split
  · exact (s.setOwedFlag_orders i false).trans (State.withXport_changes _ _).orders
  · exact .refl s

/-- The place goes to the first slot on the owed list, if there is one. -/
theorem State.xport_fillPlace (s : State) : s.fillPlace.xport = { s.xport with
    owed := s.xport.owed.tail
    sumQ := s.xport.sumQ ++ (s.xport.owed.take 1).map fun i => (i, .final) } := by
  unfold State.fillPlace
  cases h : s.xport.owed with
  | nil =>
    simp only [List.take_nil, List.map_nil, List.append_nil, List.tail_nil]
    rw [← h]
  | cons i rest => rfl

theorem State.record_fillPlace (s : State) (j : SlotId) : s.fillPlace.record j =
    if s.xport.owed.head? = some j then (s.record j).map (·.withOwed false) else s.record j := by
  unfold State.fillPlace
  cases s.xport.owed with
  | nil => simp
  | cons i rest =>
    refine (s.record_setOwedFlag i j false).trans ?_
    by_cases h : j = i
    · simp [h]
    · simp [h, Ne.symm h]

theorem State.fillPlace_standings (s : State) : s.sameStandings s.fillPlace := by
  unfold State.fillPlace
  split
  · exact .refl s
  · exact (s.setOwedFlag_standings _ false).trans (State.withXport_changes _ _).standing

theorem State.fillPlace_orders (s : State) : s.ordersKept s.fillPlace := by
  unfold State.fillPlace
  split
  · exact .refl s
  · exact (s.setOwedFlag_orders _ false).trans (State.withXport_changes _ _).orders

theorem State.removeSum_of_not_mem {s : State} {e : SlotId × SumKind} (h : e ∉ s.xport.sumQ) : s.removeSum e = s :=
  if_neg h

theorem State.removeSum_of_mem {s : State} {e : SlotId × SumKind} (h : e ∈ s.xport.sumQ) :
    s.removeSum e = (s.withXport { s.xport with sumQ := s.xport.sumQ.erase e }).fillPlace := if_pos h

theorem State.removeSum_standings (s : State) (e : SlotId × SumKind) : s.sameStandings (s.removeSum e) := by
  unfold State.removeSum
  split
  · exact (s.withXport_changes _).standing.trans (State.fillPlace_standings _)
  · exact .refl s

theorem State.removeSum_orders (s : State) (e : SlotId × SumKind) : s.ordersKept (s.removeSum e) := by
  unfold State.removeSum
  split
  · exact (s.withXport_changes _).orders.trans (State.fillPlace_orders _)
  · exact .refl s

theorem State.queueFinal_standings (s : State) (i : SlotId) : s.sameStandings (s.queueFinal i) := by
  unfold State.queueFinal
  split
  · exact .refl s
  · split
    · exact (s.withXport_changes _).standing
    · split
      · exact (s.withXport_changes _).standing
      · exact (s.setOwedFlag_standings _ true).trans (State.withXport_changes _ _).standing

theorem State.queueFinal_orders (s : State) (i : SlotId) : s.ordersKept (s.queueFinal i) := by
  unfold State.queueFinal
  split
  · exact .refl s
  · split
    · exact (s.withXport_changes _).orders
    · split
      · exact (s.withXport_changes _).orders
      · exact (s.setOwedFlag_orders _ true).trans (State.withXport_changes _ _).orders

theorem State.handToExport_standings (s : State) (i : SlotId) : s.sameStandings (s.handToExport i) :=
  (s.removeSum_standings _).trans (State.queueFinal_standings _ i)

theorem State.handToExport_orders (s : State) (i : SlotId) : s.ordersKept (s.handToExport i) :=
  (s.removeSum_orders _).trans (State.queueFinal_orders _ i)

/-- What the owed list, the SUM queue and their changes leave of the exporting unit. -/
def ExportEngine.sumsOnly (x y : ExportEngine) : Prop := y = { x with sumQ := y.sumQ, owed := y.owed }

theorem ExportEngine.sumsOnly.refl (x : ExportEngine) : x.sumsOnly x := rfl
theorem ExportEngine.sumsOnly.trans {x y z : ExportEngine} (h : x.sumsOnly y) (k : y.sumsOnly z) : x.sumsOnly z := by
  unfold ExportEngine.sumsOnly at *
  rw [k, h]

theorem ExportEngine.sumsOnly.progress {x y : ExportEngine} (h : x.sumsOnly y) : y.progress = x.progress :=
  (congrArg ExportEngine.progress h :)
theorem ExportEngine.sumsOnly.mapQ {x y : ExportEngine} (h : x.sumsOnly y) : y.mapQ = x.mapQ :=
  (congrArg ExportEngine.mapQ h :)
theorem ExportEngine.sumsOnly.dump {x y : ExportEngine} (h : x.sumsOnly y) : y.dump = x.dump :=
  (congrArg ExportEngine.dump h :)

theorem State.dropOwed_sumsOnly (s : State) (i : SlotId) : s.xport.sumsOnly (s.dropOwed i).xport := by
  rw [State.xport_dropOwed]; rfl
theorem State.fillPlace_sumsOnly (s : State) : s.xport.sumsOnly s.fillPlace.xport := by
  rw [State.xport_fillPlace]; rfl
theorem State.removeSum_sumsOnly (s : State) (e : SlotId × SumKind) : s.xport.sumsOnly (s.removeSum e).xport := by
  unfold State.removeSum
  split
  · rw [State.xport_fillPlace]; rfl
  · exact .refl _
theorem State.queueFinal_sumsOnly (s : State) (i : SlotId) : s.xport.sumsOnly (s.queueFinal i).xport := by
  unfold State.queueFinal
  split
  · exact .refl _
  · split
    · rfl
    · split
      · rfl
      · rfl
theorem State.handToExport_sumsOnly (s : State) (i : SlotId) : s.xport.sumsOnly (s.handToExport i).xport :=
  (s.removeSum_sumsOnly _).trans (State.queueFinal_sumsOnly _ i)

end Sys2Proof.Machine

/-! SUPPORT. The limit checks of the tally unit, in the words of the statements: which alerts a checkpoint and a final
evaluation raise, and what they store in the record (R120 to R131). -/

namespace Sys2Proof.Machine

set_option Elab.async false

/-! ## Compares (R121) -/

theorem compareLimit_eq_lt {v : Option Nat} {n : Nat} : compareLimit v n = .lt ↔ ∃ y, v = some y ∧ y < n := by
  unfold compareLimit
  cases v with
  | none => simp
  | some y => by_cases h : y < n <;> by_cases h' : y = n <;> simp [h, h']

theorem compareLimit_eq_gt {v : Option Nat} {n : Nat} : compareLimit v n = .gt ↔ ∃ y, v = some y ∧ n < y := by
  unfold compareLimit
  cases v with
  | none => simp
  | some y =>
    rcases lt_trichotomy y n with h | h | h
    · simp [h]; omega
    · simp [h]
    · simp [h, h.ne', h.not_gt]

/-- The disposition follows the wafer yield and its limit (R129). -/
theorem Record.dispositionOf_compareLimit (r : Record) (rc : Recipe) :
    dispositionOf (compareLimit (r.waferYield rc) rc.yieldLimit.toNat) = r.judgement rc := by
  unfold Record.judgement compareLimit
  cases r.waferYield rc with
  | none => rfl
  | some y => by_cases h : y < rc.yieldLimit.toNat <;> by_cases h' : y = rc.yieldLimit.toNat <;> simp [h, h', dispositionOf]

/-! ## The alerts of the checks (R124, R129, R130) -/

theorem Record.limitAlert_eq_notice (r : Record) (i : SlotId) (k : AlertKind) (index value : Option Nat) :
    r.limitAlert i k index value = r.notice i k index value := rfl

theorem Record.zoneAlert_eq (r : Record) (i : SlotId) (k : Bank) (least : Nat) (z : Fin 8) :
    r.zoneAlert i k least z = Option.toList
      (match ratio (r.zones[z.val + 1].passed).toNat (r.zones[z.val + 1].tested).toNat with
        | none => none
        | some y =>
          if least ≤ (r.zones[z.val + 1].tested).toNat ∧ y < (k.zones[z.val].limit).toNat then
            some (r.notice i .zoneYieldLow (some (z.val + 1)) (some y))
          else none) := by
  have hyield : r.zoneYield (zoneOfEntry z) =
      ratio (r.zones[z.val + 1].passed).toNat (r.zones[z.val + 1].tested).toNat := rfl
  have htested : r.zones[(zoneOfEntry z).val].tested = r.zones[z.val + 1].tested := rfl
  unfold Record.zoneAlert
  rw [hyield, htested]
  simp only [compareLimit_eq_lt]
  cases ratio (r.zones[z.val + 1].passed).toNat (r.zones[z.val + 1].tested).toNat with
  | none => simp
  | some y =>
    simp only [Option.some_inj, exists_eq_left']
    split <;> rfl

theorem Record.binAlert_eq (r : Record) (i : SlotId) (k : Bank) (b : Fin 64) :
    r.binAlert i k b = Option.toList
      (match ratio (r.bins[b.val]).toNat r.counts.t.toNat with
        | none => none
        | some y =>
          if (k.bins[b.val].limit).toNat < 10000 ∧ (k.bins[b.val].limit).toNat < y then
            some (r.notice i .binLimit (some b.val) (some y))
          else none) := by
  have hshare : r.binShare b = ratio (r.bins[b.val]).toNat r.counts.t.toNat := rfl
  unfold Record.binAlert
  rw [hshare]
  simp only [compareLimit_eq_gt]
  cases ratio (r.bins[b.val]).toNat r.counts.t.toNat with
  | none => simp
  | some y =>
    simp only [Option.some_inj, exists_eq_left']
    split <;> rfl

theorem Record.limitAlerts_eq (r : Record) (i : SlotId) (k : Bank) (least : Nat) :
    r.limitAlerts i k least = r.zoneNotices i k least ++ r.binNotices i k := by
  unfold Record.limitAlerts Record.zoneNotices Record.binNotices
  rw [List.filterMap_eq_flatMap_toList, List.filterMap_eq_flatMap_toList]
  exact congrArg₂ (· ++ ·) (congrArg (List.flatMap · allZoneEntries) (funext (r.zoneAlert_eq i k least)))
    (congrArg (List.flatMap · allBins) (funext (r.binAlert_eq i k)))

theorem Record.yieldNotices_eq (r : Record) (i : SlotId) (rc : Recipe) : r.yieldNotices i rc =
    if compareLimit (r.waferYield rc) rc.yieldLimit.toNat = .lt then
      [r.limitAlert i .yieldLow none (r.waferYield rc)] else [] := by
  unfold Record.yieldNotices
  simp only [compareLimit_eq_lt]
  cases r.waferYield rc with
  | none => simp
  | some y =>
    simp only [Option.some_inj, exists_eq_left']
    rfl

theorem Record.checkpointAlerts_eq (r : Record) (i : SlotId) (rc : Recipe) (k : Bank) :
    r.checkpointAlerts i rc k = r.checkpointNotices i rc k := by
  rw [Record.checkpointAlerts, Record.checkpointNotices, Record.limitAlerts_eq, Record.yieldNotices_eq,
    List.append_assoc]

theorem Record.finalAlerts_eq (r : Record) (i : SlotId) (rc : Recipe) (k : Bank) :
    r.finalAlerts i rc k = r.finalNotices i rc k := by
  have hyield : r.finalYieldAlert i rc =
      if r.waferYield rc = none then [r.notice i .noData none none] else r.yieldNotices i rc := by
    rw [Record.yieldNotices_eq]
    unfold Record.finalYieldAlert compareLimit
    cases r.waferYield rc with
    | none => rfl
    | some y =>
      by_cases h : y < rc.yieldLimit.toNat <;> by_cases h' : y = rc.yieldLimit.toNat <;> simp [h, h']
  rw [Record.finalAlerts, Record.finalNotices, Record.limitAlerts_eq, hyield, List.append_assoc]

/-! ## What the checks store (R120, R129) -/

theorem Record.updateOverGross_eq (r : Record) (rc : Recipe) : r.updateOverGross rc =
    { r with flags := { r.flags with overGross := r.flags.overGross || r.isOverGross rc } } := by
  unfold Record.updateOverGross Record.isOverGross
  by_cases h : rc.denominator = .gross ∧ rc.gross.toNat < r.counts.p.toNat
  · rw [if_pos h]
    simp [h]
  · rw [if_neg h]
    have hf : (rc.denominator == .gross && decide (rc.gross.toNat < r.counts.p.toNat)) = false := by
      simpa using h
    rw [hf, Bool.or_false]

@[simp] theorem Record.standing_updateOverGross (r : Record) (rc : Recipe) :
    (r.updateOverGross rc).standing = r.standing := by
  rw [Record.updateOverGross_eq]; rfl

@[simp] theorem Record.waferYield_updateOverGross (r : Record) (rc rc' : Recipe) :
    (r.updateOverGross rc).waferYield rc' = r.waferYield rc' := by
  rw [Record.updateOverGross_eq]; rfl

theorem Record.withFinal_eq (r : Record) (rc : Recipe) : r.withFinal rc = { r with
    outcome := some (compareLimit (r.waferYield rc) rc.yieldLimit.toNat)
    finalYield := (r.waferYield rc).map (BitVec.ofNat 16)
    disposition := some (r.judgement rc)
    flags := { r.flags with overGross := r.flags.overGross || r.isOverGross rc } } := by
  unfold Record.withFinal
  simp only [Record.waferYield_updateOverGross, Record.dispositionOf_compareLimit]
  rw [Record.updateOverGross_eq]

@[simp] theorem Record.standing_withFinal (r : Record) (rc : Recipe) : (r.withFinal rc).standing = r.standing := by
  rw [Record.withFinal_eq]; rfl

/-! ## The final evaluation (R128 to R130) -/

section

variable {s : State} {i : SlotId} {r : Record}

theorem State.finalEvaluation_of_record (h : s.record i = some r) : s.finalEvaluation i =
    (s.setSlot i (some (r.withFinal (s.recipeOf r)))).raiseAll (r.finalNotices i (s.recipeOf r) (s.bank r.bank)) := by
  simp only [State.finalEvaluation, h, Record.finalAlerts_eq]

theorem State.record_finalEvaluation (h : s.record i = some r) (j : SlotId) : (s.finalEvaluation i).record j =
    if j = i then some (r.withFinal (s.recipeOf r)) else s.record j := by
  rw [State.finalEvaluation_of_record h, (State.raiseAll_changes _ _).record, State.record_setSlot]

end

theorem State.finalEvaluation_standings (s : State) (i : SlotId) : s.sameStandings (s.finalEvaluation i) := by
  cases h : s.record i with
  | none =>
    have heq : s.finalEvaluation i = s := by simp only [State.finalEvaluation, h]
    rw [heq]; exact .refl s
  | some r =>
    rw [State.finalEvaluation_of_record h]
    exact (State.setSlot_standings h (r.standing_withFinal _)).trans (State.raiseAll_changes _ _).standing

theorem State.finalEvaluation_orders (s : State) (i : SlotId) : s.ordersKept (s.finalEvaluation i) := by
  unfold State.finalEvaluation
  split
  · exact .refl s
  · exact (s.setSlot_orders i _).trans (State.raiseAll_changes _ _).orders

/-! ## The checkpoint test (R123, R124) -/

/-- The record after a checkpoint test: OVER_GROSS brought up to date, and the index moved by a crossing. -/
def Record.checked (r : Record) (rc : Recipe) : Record :=
  { r.updateOverGross rc with
    checkpoint :=
      if rc.interval ≠ 0 ∧ r.checkpoint.toNat < r.counts.t.toNat / rc.interval.toNat then
        BitVec.ofNat 32 (r.counts.t.toNat / rc.interval.toNat)
      else r.checkpoint }

/-- What a checkpoint test raises: nothing without a crossing, and nothing below the minimum sample. -/
def Record.checkNotices (r : Record) (i : SlotId) (rc : Recipe) (k : Bank) : List Alert :=
  if rc.interval ≠ 0 ∧ r.checkpoint.toNat < r.counts.t.toNat / rc.interval.toNat ∧
      rc.minSample.toNat ≤ r.counts.t.toNat then r.checkpointNotices i rc k else []

@[simp] theorem Record.standing_checked (r : Record) (rc : Recipe) : (r.checked rc).standing = r.standing :=
  r.standing_updateOverGross rc

theorem State.checkpointTest_of_record {s : State} {i : SlotId} {r : Record} (h : s.record i = some r) :
    s.checkpointTest i = (s.setSlot i (some (r.checked (s.recipeOf r)))).raiseAll
      (r.checkNotices i (s.recipeOf r) (s.bank r.bank)) := by
  simp only [State.checkpointTest, h, Record.checked, Record.checkNotices, Record.updateOverGross_eq,
    Record.checkpointAlerts_eq]
  by_cases h0 : (s.recipeOf r).interval = 0
  · rw [if_pos h0, if_neg (fun hc => hc.1 h0), if_neg (fun hc => hc.1 h0)]
    rfl
  · rw [if_neg h0]
    by_cases hc : r.counts.t.toNat / (s.recipeOf r).interval.toNat ≤ r.checkpoint.toNat
    · rw [if_pos hc, if_neg (fun h1 => absurd h1.2 (not_lt.2 hc)), if_neg (fun h1 => absurd h1.2.1 (not_lt.2 hc))]
      rfl
    · rw [if_neg hc]
      by_cases hm : (s.recipeOf r).minSample.toNat ≤ r.counts.t.toNat
      · rw [if_pos hm, if_pos ⟨h0, not_le.1 hc⟩, if_pos ⟨h0, not_le.1 hc, hm⟩]
        rfl
      · rw [if_neg hm, if_pos ⟨h0, not_le.1 hc⟩, if_neg (fun h1 => hm h1.2.2)]
        rfl

theorem State.checkpointTest_of_none {s : State} {i : SlotId} (h : s.record i = none) : s.checkpointTest i = s := by
  simp only [State.checkpointTest, h]

/-- Settles O36: the test is one write to the record and one list of raises. -/
theorem checkpointCrossingMovesTheIndex : Obligations.CheckpointCrossingMovesTheIndex := by
  intro s i r hr
  have hquiet : ∀ as : List Alert, as = [] → s.checkpointTest i =
      (s.setSlot i (some (r.checked (s.recipeOf r)))).raiseAll as → (s.checkpointTest i).alerts = s.alerts :=
    fun as has h => by rw [h, has]; rfl
  have htest := State.checkpointTest_of_record hr
  have hwrite := s.setSlot_changes i (some (r.checked (s.recipeOf r)))
  have hraise := State.raiseAll_changes (s.setSlot i (some (r.checked (s.recipeOf r))))
    (r.checkNotices i (s.recipeOf r) (s.bank r.bank))
  have hcounts : (r.checked (s.recipeOf r)).counts = r.counts := by
    simp only [Record.checked, Record.updateOverGross_eq]
  refine ⟨r.checked (s.recipeOf r), ?_, hcounts, s.checkpointTest_changes i, fun h0 => ⟨?_, ?_⟩, fun h0 => ?_,
    fun hc => ?_, fun hm => ?_, ?_, ?_, fun h0 hc hm => ?_⟩
  · rw [htest, hraise.record, State.record_setSlot_same]
  · exact if_neg fun h => h.1 h0
  · exact hquiet _ (if_neg fun h => h.1 h0) htest
  · have hfits : r.counts.t.toNat / (s.recipeOf r).interval.toNat < 2 ^ 32 :=
      lt_of_le_of_lt (Nat.div_le_self _ _) r.counts.t.isLt
    unfold Record.checked
    dsimp only
    split
    case isTrue h => rw [BitVec.toNat_ofNat, Nat.mod_eq_of_lt hfits]; omega
    case isFalse h =>
      have : ¬ r.checkpoint.toNat < r.counts.t.toNat / (s.recipeOf r).interval.toNat := fun hc => h ⟨h0, hc⟩
      omega
  · exact hquiet _ (if_neg fun h => absurd h.2.1 (not_lt.2 hc)) htest
  · exact hquiet _ (if_neg fun h => absurd h.2.2 (not_le.2 hm)) htest
  · simp only [Record.checked, Record.updateOverGross_eq]
  · rw [htest]
    exact (s.setSlot_slotsKeptBut i _).trans (hraise.slotsKeptBut i)
  · have hnotices : r.checkNotices i (s.recipeOf r) (s.bank r.bank) =
        r.checkpointNotices i (s.recipeOf r) (s.bank r.bank) := if_pos ⟨h0, hc, hm⟩
    rw [htest, hnotices]
    exact ⟨State.alerts_raiseAll_congr hwrite.alerts hwrite.time _,
      fun c => (State.cell_raiseAll_congr hwrite.alerts hwrite.time (congrArg _ (hwrite.cell c)) _).trans
        (s.cell_raiseAll _ c).symm⟩

end Sys2Proof.Machine

/-! SUPPORT. A seal, block by block (R53, R90, R91, R128 to R130, R163). -/

namespace Sys2Proof.Machine

set_option Elab.async false

/-! ## Step 1 and 2 of a seal: the record, the order of seals and the timers -/

@[simp] theorem State.cell_stopGrace (s : State) (c d : CellId) : (s.stopGrace c).cell d =
    { s.cell d with graceTimer := if d = c then none else (s.cell d).graceTimer } := by
  rw [State.stopGrace, State.cell_modCell]
  split
  case isTrue h => rw [h]
  case isFalse => rfl

/-- The state after step 1 of a seal and the stop of the progress timer. -/
def State.stamped (s : State) (i : SlotId) (r : Record) (w : Option CloseReason) : State :=
  ((s.setSlot i (some (r.sealed w s.time (s.recipeOf r)))).withDir
    { (s.setSlot i (some (r.sealed w s.time (s.recipeOf r)))).dir with
      sealOrder := s.dir.sealOrder.erase i ++ [i] }).setProgress i none

theorem State.sealRecord_eq (s : State) (i : SlotId) (r : Record) (w : Option CloseReason) :
    s.sealRecord i r w =
      if r.state = .closing then (s.stamped i r w).stopGrace r.cell else s.stamped i r w := rfl

section

variable (s : State) (i : SlotId) (r : Record) (w : Option CloseReason)

theorem State.stamped_changes : s.changesOnly (s.stamped i r w) [.dir, .xport] :=
  ((s.setSlot_changes _ _).trans (State.withDir_changes _ _)).seq (State.setProgress_changes _ _ _)

theorem State.sealRecord_stamped : (s.stamped i r w).changesOnly (s.sealRecord i r w) [.cells] := by
  rw [State.sealRecord_eq]
  split
  · exact State.stopGrace_changes _ _
  · exact .refl _ _

theorem State.dir_sealRecord : (s.sealRecord i r w).dir =
    { slots := s.dir.slots.set i.val (some (r.sealed w s.time (s.recipeOf r))), exportOrder := s.dir.exportOrder,
      sealOrder := s.dir.sealOrder.erase i ++ [i] } :=
  (s.sealRecord_stamped i r w).dir

theorem State.record_sealRecord (j : SlotId) : (s.sealRecord i r w).record j =
    if j = i then some (r.sealed w s.time (s.recipeOf r)) else s.record j :=
  (congrArg (·.slots[j.val]) (s.dir_sealRecord i r w)).trans
    (s.record_setSlot i j (some (r.sealed w s.time (s.recipeOf r))))

theorem State.xport_sealRecord : (s.sealRecord i r w).xport =
    { s.xport with progress := s.xport.progress.set i.val none } :=
  (s.sealRecord_stamped i r w).xport

theorem State.cell_sealRecord (d : CellId) : (s.sealRecord i r w).cell d = { s.cell d with
    graceTimer := if r.state = .closing ∧ d = r.cell then none else (s.cell d).graceTimer } := by
  rw [State.sealRecord_eq]
  by_cases h : r.state = .closing
  · simp only [h, if_true, true_and, State.cell_stopGrace, (s.stamped_changes i r w).cell]
  · simp only [h, if_false, false_and, (s.stamped_changes i r w).cell]

/-! ## Steps 3 and 4: the final evaluation and the tags -/

/-- The state in which a seal hands the record's FINAL to the exporting unit: stamped, judged, its tags cleared. -/
def State.judged : State := ((s.sealRecord i r w).finalEvaluation i).clearTagsOn i

/-- The record a seal leaves of r before its FINAL is handed over. -/
def Record.judgedAs (now : Word) (rc : Recipe) : Record :=
  r.sealedAs (match w with | some w => some w | none => r.reason)
    (if r.state = .closing then r.closeStart else some now) now rc r.flags.summaryOwed

theorem State.sealed_recipe (t : State) (now : Word) (rc : Recipe) : t.recipeOf (r.sealed w now rc) = rc := rfl

theorem Record.withFinal_sealed (now : Word) (rc : Recipe) :
    (r.sealed w now rc).withFinal rc = r.judgedAs w now rc := by
  rw [Record.withFinal_eq]
  rfl

theorem State.record_judged (j : SlotId) : (s.judged i r w).record j =
    if j = i then some (r.judgedAs w s.time (s.recipeOf r)) else s.record j := by
  have hr : (s.sealRecord i r w).record i = some (r.sealed w s.time (s.recipeOf r)) := by
    rw [State.record_sealRecord, if_pos rfl]
  rw [State.judged, (State.clearTagsOn_changes _ i).record, State.record_finalEvaluation hr,
    State.sealed_recipe, Record.withFinal_sealed, State.record_sealRecord]
  split <;> rfl

theorem State.judged_sealRecord :
    (s.sealRecord i r w).changesOnly (s.judged i r w) [.cells, .dir, .alerts, .tags] :=
  (State.finalEvaluation_changes _ i).seq (State.clearTagsOn_changes _ i)

theorem State.judged_changes : s.changesOnly (s.judged i r w) [.cells, .dir, .alerts, .xport, .tags] :=
  (s.sealRecord_changes i r w).seq (s.judged_sealRecord i r w)

theorem State.judged_exportOrder : (s.judged i r w).dir.exportOrder = s.dir.exportOrder :=
  ((State.finalEvaluation_orders _ i).trans (State.clearTagsOn_changes _ i).orders).1.trans
    (by rw [State.dir_sealRecord])

theorem State.judged_sealOrder : (s.judged i r w).dir.sealOrder = s.dir.sealOrder.erase i ++ [i] :=
  ((State.finalEvaluation_orders _ i).trans (State.clearTagsOn_changes _ i).orders).2.trans
    (by rw [State.dir_sealRecord])

theorem State.xport_judged : (s.judged i r w).xport =
    { s.xport with progress := s.xport.progress.set i.val none } :=
  (s.judged_sealRecord i r w).xport.trans (s.xport_sealRecord i r w)

/-- The alerts a seal raises, raised in the state it starts from. -/
def State.sealRaises : State := s.raiseAll (r.finalNotices i (s.recipeOf r) (s.bank r.bank))

/-- The notices of a sealed record are those of the record it was. -/
theorem Record.finalNotices_sealed (now : Word) (rc rc' : Recipe) (k : Bank) :
    (r.sealed w now rc).finalNotices i rc' k = r.finalNotices i rc' k := rfl

theorem State.finalEvaluation_sealRecord : (s.sealRecord i r w).finalEvaluation i =
    ((s.sealRecord i r w).setSlot i (some (r.judgedAs w s.time (s.recipeOf r)))).raiseAll
      (r.finalNotices i (s.recipeOf r) (s.bank r.bank)) := by
  have hr : (s.sealRecord i r w).record i = some (r.sealed w s.time (s.recipeOf r)) := by
    rw [State.record_sealRecord, if_pos rfl]
  have hbank : (s.sealRecord i r w).bank (r.sealed w s.time (s.recipeOf r)).bank = s.bank r.bank :=
    (s.sealRecord_changes i r w).bank _
  rw [State.finalEvaluation_of_record hr, State.sealed_recipe, Record.withFinal_sealed, hbank,
    Record.finalNotices_sealed]

theorem State.sealRecord_setSlot_changes (v : Option Record) :
    s.changesOnly ((s.sealRecord i r w).setSlot i v) [.cells, .dir, .xport] :=
  (s.sealRecord_changes i r w).trans (State.setSlot_changes _ _ _).mono

theorem State.alerts_judged : (s.judged i r w).alerts = (s.sealRaises i r).alerts := by
  have h := s.sealRecord_setSlot_changes i r w (some (r.judgedAs w s.time (s.recipeOf r)))
  rw [State.judged, (State.clearTagsOn_changes _ i).alerts, State.finalEvaluation_sealRecord]
  exact State.alerts_raiseAll_congr h.alerts h.time _

theorem State.cell_judged (d : CellId) : (s.judged i r w).cell d = { s.cell d with
    stopLatch := ((s.sealRaises i r).cell d).stopLatch
    graceTimer := if r.state = .closing ∧ d = r.cell then none else (s.cell d).graceTimer } := by
  have h := s.sealRecord_setSlot_changes i r w (some (r.judgedAs w s.time (s.recipeOf r)))
  have hcell : ((s.sealRecord i r w).setSlot i (some (r.judgedAs w s.time (s.recipeOf r)))).cell d =
      (s.sealRecord i r w).cell d := (State.setSlot_changes _ _ _).cell d
  have hlatch : ((s.sealRecord i r w).cell d).stopLatch = (s.cell d).stopLatch := by
    rw [State.cell_sealRecord]
  rw [State.judged, (State.clearTagsOn_changes _ i).cell, State.finalEvaluation_sealRecord,
    State.cell_raiseAll_congr h.alerts h.time ((congrArg _ hcell).trans hlatch) _, hcell, State.cell_sealRecord]
  rfl

theorem State.tag_judged (q : Fin 4) :
    (s.judged i r w).tag q = if s.tag q = some i then none else s.tag q := by
  have htag : ((s.sealRecord i r w).finalEvaluation i).tag q = s.tag q :=
    ((State.finalEvaluation_changes _ i).tag q).trans ((s.sealRecord_changes i r w).tag q)
  rw [State.judged, State.tag_clearTagsOn, htag]

end

/-! ## The whole seal -/

theorem Record.isActive_iff {r : Record} : r.isActive = true ↔ r.state = .opened ∨ r.state = .closing := by
  simp [Record.isActive]

theorem Record.isSealed_iff {r : Record} : r.isSealed = true ↔ r.state = .closed ∨ r.state = .exported := by
  simp [Record.isSealed]

theorem Record.isSealed_eq_not (r : Record) : r.isSealed = !r.isActive := by
  cases h : r.state <;> simp [Record.isSealed, Record.isActive, h]

theorem State.sealSlot_of_active {s : State} {i : SlotId} {r : Record} (hr : s.record i = some r)
    (ha : r.isActive = true) (w : Option CloseReason) :
    s.sealSlot i w = ((s.judged i r w).handToExport i).unbindBank r.bank := by
  simp only [State.sealSlot, hr, ha, if_true]
  rfl

/-- A slot without an OPEN or CLOSING record is not sealed. -/
theorem State.sealSlot_of_idle {s : State} {i : SlotId} (h : ∀ r, s.record i = some r → r.isActive = false)
    (w : Option CloseReason) : s.sealSlot i w = s := by
  unfold State.sealSlot
  cases hr : s.record i with
  | none => rfl
  | some r => simp [h r hr]

theorem State.bank_unbindBank (s : State) (lb x : BankId) :
    (s.unbindBank lb).bank x = if x = lb then (s.bank lb).unbind else s.bank x :=
  s.bank_setBank lb x _

section

variable {s : State} {i : SlotId} {r : Record} (hr : s.record i = some r) (ha : r.isActive = true)
  (w : Option CloseReason)

include hr ha

theorem State.standing_sealSlot (j : SlotId) : (s.sealSlot i w).standing j =
    if j = i then some { r.standing with state := .closed } else s.standing j := by
  rw [State.sealSlot_of_active hr ha, (State.unbindBank_changes _ _).standing,
    State.handToExport_standings, State.standing, State.record_judged]
  split <;> rfl

theorem State.exportOrder_sealSlot : (s.sealSlot i w).dir.exportOrder = s.dir.exportOrder := by
  rw [State.sealSlot_of_active hr ha]
  exact (((State.handToExport_orders _ i).trans (State.unbindBank_changes _ _).orders).1).trans
    (s.judged_exportOrder i r w)

theorem State.sealOrder_sealSlot : (s.sealSlot i w).dir.sealOrder = s.dir.sealOrder.erase i ++ [i] := by
  rw [State.sealSlot_of_active hr ha]
  exact (((State.handToExport_orders _ i).trans (State.unbindBank_changes _ _).orders).2).trans
    (s.judged_sealOrder i r w)

theorem State.bank_sealSlot (x : BankId) :
    (s.sealSlot i w).bank x = if x = r.bank then (s.bank x).unbind else s.bank x := by
  have hbank : ∀ y, ((s.judged i r w).handToExport i).bank y = s.bank y := fun y =>
    ((State.handToExport_changes _ i).bank y).trans ((s.judged_changes i r w).bank y)
  rw [State.sealSlot_of_active hr ha, State.bank_unbindBank, hbank, hbank]
  split
  case isTrue h => rw [h]
  case isFalse => rfl

theorem State.alerts_sealSlot : (s.sealSlot i w).alerts = (s.sealRaises i r).alerts := by
  rw [State.sealSlot_of_active hr ha, (State.unbindBank_changes _ _).alerts, (State.handToExport_changes _ i).alerts,
    State.alerts_judged]

theorem State.cell_sealSlot (d : CellId) : (s.sealSlot i w).cell d = { s.cell d with
    stopLatch := ((s.sealRaises i r).cell d).stopLatch
    graceTimer := if r.state = .closing ∧ d = r.cell then none else (s.cell d).graceTimer } := by
  rw [State.sealSlot_of_active hr ha, (State.unbindBank_changes _ _).cell, (State.handToExport_changes _ i).cell,
    State.cell_judged]

theorem State.tag_sealSlot (q : Fin 4) :
    (s.sealSlot i w).tag q = if s.tag q = some i then none else s.tag q := by
  rw [State.sealSlot_of_active hr ha, (State.unbindBank_changes _ _).tag, (State.handToExport_changes _ i).tag,
    State.tag_judged]

theorem State.progressTimer_sealSlot (j : SlotId) :
    (s.sealSlot i w).progressTimer j = if j = i then none else s.progressTimer j := by
  have hsums : ((s.judged i r w).handToExport i).xport.progress = (s.judged i r w).xport.progress :=
    (State.handToExport_sumsOnly _ i).progress
  have hprog : ((s.judged i r w).handToExport i).progressTimer j = (s.setProgress i none).progressTimer j :=
    congrArg (·[j.val]) (hsums.trans (by rw [State.xport_judged]; rfl))
  rw [State.sealSlot_of_active hr ha, (State.unbindBank_changes _ _).progressTimer, hprog,
    State.progressTimer_setProgress]

/-- A seal moves nothing of the exporting unit but the sums and the slot's progress timer. -/
theorem State.xport_sealSlot : (s.sealSlot i w).xport =
    { ((s.judged i r w).handToExport i).xport with
      mapQ := s.xport.mapQ, dump := s.xport.dump, progress := s.xport.progress.set i.val none } := by
  rw [State.sealSlot_of_active hr ha, (State.unbindBank_changes _ _).xport, State.handToExport_sumsOnly _ i,
    State.xport_judged]

theorem State.record_sealSlot (j : SlotId) :
    (s.sealSlot i w).record j = ((s.judged i r w).handToExport i).record j := by
  rw [State.sealSlot_of_active hr ha, (State.unbindBank_changes _ _).record]

end

end Sys2Proof.Machine

/-! SUPPORT. Handing a FINAL to the exporting unit, and the grace expiry (R76, R91, R161, R163). -/

namespace Sys2Proof.Machine

set_option Elab.async false

/-! ## Queuing a FINAL, by its outcome (R163) -/

section

variable (s : State) (i : SlotId)

theorem State.queueFinal_cases :
    (s.xport.finalOutcome i = .present ∧ (i, SumKind.final) ∈ s.xport.sumQ ∧ s.queueFinal i = s) ∨
    (s.xport.finalOutcome i = .queued ∧ (i, SumKind.final) ∉ s.xport.sumQ ∧ s.xport.sumQ.length < 8 ∧
      s.queueFinal i = s.withXport { s.xport with sumQ := s.xport.sumQ ++ [(i, .final)] }) ∨
    (s.xport.finalOutcome i = .queued ∧ (i, SumKind.final) ∉ s.xport.sumQ ∧ 8 ≤ s.xport.sumQ.length ∧
      (∃ e ∈ s.xport.sumQ, e.2 = .progress) ∧ s.queueFinal i = s.withXport { s.xport with
        sumQ := (s.xport.sumQ.eraseP fun e => e.2 == .progress) ++ [(i, .final)] }) ∨
    (s.xport.finalOutcome i = .owed ∧ (i, SumKind.final) ∉ s.xport.sumQ ∧ 8 ≤ s.xport.sumQ.length ∧
      (∀ e ∈ s.xport.sumQ, e.2 = .final) ∧ s.queueFinal i =
        (s.setOwedFlag i true).withXport { s.xport with owed := s.xport.owed ++ [i] }) := by
  have hcap : Config.sumCap = 8 := rfl
  unfold State.queueFinal ExportEngine.finalOutcome
  by_cases hmem : (i, SumKind.final) ∈ s.xport.sumQ
  · exact .inl ⟨if_pos hmem, hmem, if_pos hmem⟩
  rw [if_neg hmem, if_neg hmem]
  by_cases hroom : s.xport.sumQ.length < 8
  · exact .inr (.inl ⟨if_pos (.inl hroom), hmem, hroom, if_pos hroom⟩)
  rw [hcap, if_neg hroom]
  by_cases hany : (s.xport.sumQ.any fun e => e.2 == .progress) = true
  · obtain ⟨e, he, hp⟩ := List.any_eq_true.1 hany
    exact .inr (.inr (.inl ⟨if_pos (.inr hany), hmem, not_lt.1 hroom, ⟨e, he, by simpa using hp⟩, if_pos hany⟩))
  · have hfinal : ∀ e ∈ s.xport.sumQ, e.2 = .final := fun e he => by
      cases hk : e.2 with
      | final => rfl
      | progress => exact absurd (List.any_eq_true.2 ⟨e, he, by simp [hk]⟩) hany
    exact .inr (.inr (.inr ⟨if_neg (not_or.2 ⟨hroom, hany⟩), hmem, not_lt.1 hroom, hfinal, if_neg hany⟩))

theorem State.record_queueFinal (j : SlotId) : (s.queueFinal i).record j =
    if j = i ∧ s.xport.finalOutcome i = .owed then (s.record i).map (·.withOwed true) else s.record j := by
  obtain ⟨ho, -, h⟩ | ⟨ho, -, -, h⟩ | ⟨ho, -, -, -, h⟩ | ⟨ho, -, -, -, h⟩ := s.queueFinal_cases i
  · simp [ho, h]
  · simp [ho, h, (s.withXport_changes _).record]
  · simp [ho, h, (s.withXport_changes _).record]
  · rw [h, (State.withXport_changes _ _).record, State.record_setOwedFlag]
    simp [ho]

theorem State.owed_queueFinal : (s.queueFinal i).xport.owed =
    if s.xport.finalOutcome i = .owed then s.xport.owed ++ [i] else s.xport.owed := by
  obtain ⟨ho, -, h⟩ | ⟨ho, -, -, h⟩ | ⟨ho, -, -, -, h⟩ | ⟨ho, -, -, -, h⟩ := s.queueFinal_cases i <;> simp [ho, h]

/-- The oldest PROGRESS entry is the one behind FINAL entries alone. -/
theorem eraseP_progress {q front back : List (SlotId × SumKind)} {j : SlotId} (h : q = front ++ (j, .progress) :: back)
    (hfront : ∀ e ∈ front, e.2 = .final) : (q.eraseP fun e => e.2 == .progress) = front ++ back := by
  have hno : ∀ e ∈ front, ¬ (e.2 == SumKind.progress) = true := fun e he => by simp [hfront e he]
  rw [h, List.eraseP_append_right _ hno]
  rfl

/-- What queuing a FINAL does to the SUM queue and the owed list is what steps 1 to 4 of R163 say. -/
theorem State.queueFinal_handedOver :
    s.xport.handedOver i (s.queueFinal i).xport.sumQ (s.queueFinal i).xport.owed := by
  obtain ⟨-, hm, h⟩ | ⟨-, hm, hl, h⟩ | ⟨-, hm, hl, ⟨e, he, hp⟩, h⟩ | ⟨-, hm, hl, hf, h⟩ := s.queueFinal_cases i
  · rw [h]
    exact ⟨fun _ => ⟨rfl, rfl⟩, fun hn => absurd hm hn, fun _ _ _ hn => absurd hm hn, fun hn => absurd hm hn⟩
  · rw [h]
    exact ⟨fun hn => absurd hn hm, fun _ _ => ⟨rfl, rfl⟩, fun _ _ _ _ hn => absurd hl (not_lt.2 hn),
      fun _ hn => absurd hl (not_lt.2 hn)⟩
  · rw [h]
    refine ⟨fun hn => absurd hn hm, fun _ hn => absurd hn (not_lt.2 hl), fun front j back _ _ hq hfront => ⟨?_, rfl⟩,
      fun _ _ hf => absurd (hf e he) (by simp [hp])⟩
    simp only [State.withXport_xport, eraseP_progress hq hfront]
  · rw [h]
    refine ⟨fun hn => absurd hn hm, fun _ hn => absurd hn (not_lt.2 hl), fun front j back _ _ hq _ => ?_,
      fun _ _ _ => ⟨rfl, rfl⟩⟩
    exact absurd (hf (j, .progress) (by simp [hq])) (by simp)

/-! ## Handing over -/

theorem State.handToExport_of_absent {s : State} {i : SlotId} (h : (i, SumKind.progress) ∉ s.xport.sumQ) :
    s.handToExport i = s.queueFinal i := by
  rw [State.handToExport, State.removeSum_of_not_mem h]

/-- With none owed, the place a PROGRESS entry leaves stays empty. -/
theorem State.removeSum_of_none_owed {s : State} {e : SlotId × SumKind} (h : e ∈ s.xport.sumQ)
    (ho : s.xport.owed = []) : s.removeSum e = s.withXport { s.xport with sumQ := s.xport.sumQ.erase e } := by
  have howed : (s.withXport { s.xport with sumQ := s.xport.sumQ.erase e }).xport.owed = [] := ho
  rw [State.removeSum_of_mem h, State.fillPlace, howed]

theorem State.record_removeSum (e : SlotId × SumKind) (j : SlotId) : (s.removeSum e).record j =
    if e ∈ s.xport.sumQ ∧ s.xport.owed.head? = some j then (s.record j).map (·.withOwed false) else s.record j := by
  by_cases h : e ∈ s.xport.sumQ
  · rw [State.removeSum_of_mem h]
    exact (State.record_fillPlace _ j).trans (by simp [h, (s.withXport_changes _).record])
  · rw [State.removeSum_of_not_mem h]
    simp [h]

/-- The owed list after an entry has left the SUM queue: its head has taken the place. -/
theorem State.owed_removeSum (e : SlotId × SumKind) :
    (s.removeSum e).xport.owed = if e ∈ s.xport.sumQ then s.xport.owed.tail else s.xport.owed := by
  by_cases h : e ∈ s.xport.sumQ
  · rw [State.removeSum_of_mem h, State.xport_fillPlace, if_pos h]; rfl
  · rw [State.removeSum_of_not_mem h, if_neg h]

/-- Handing over a FINAL leaves the record but for SUMMARY_OWED. -/
theorem State.record_handToExport_same {s : State} {i : SlotId} {r : Record} (h : s.record i = some r) :
    ∃ b, (s.handToExport i).record i = some (r.withOwed b) := by
  have hremove : ∃ b, (s.removeSum (i, .progress)).record i = some (r.withOwed b) := by
    rw [State.record_removeSum, h]
    split
    · exact ⟨false, rfl⟩
    · exact ⟨r.flags.summaryOwed, rfl⟩
  obtain ⟨b, hb⟩ := hremove
  rw [State.handToExport, State.record_queueFinal, hb]
  split
  · exact ⟨true, rfl⟩
  · exact ⟨b, rfl⟩

/-- A record that is not owed a FINAL before is marked exactly when its slot joins the owed list. -/
theorem State.handToExport_owed {s : State} {i : SlotId} {r q : Record} (h : s.record i = some r)
    (ho : i ∉ s.xport.owed) (hf : r.flags.summaryOwed = false) (hq : (s.handToExport i).record i = some q) :
    q.flags.summaryOwed = true ↔ i ∈ (s.handToExport i).xport.owed := by
  have hhead : s.xport.owed.head? ≠ some i := fun hh => ho (List.mem_of_mem_head? hh)
  have hkeep : (s.removeSum (i, .progress)).record i = some r := by
    rw [State.record_removeSum, if_neg fun hc => hhead hc.2, h]
  have hout : i ∉ (s.removeSum (i, .progress)).xport.owed := by
    rw [State.owed_removeSum]
    split
    · exact fun hm => ho (List.mem_of_mem_tail hm)
    · exact ho
  rw [State.handToExport, State.record_queueFinal, hkeep] at hq
  rw [State.handToExport, State.owed_queueFinal]
  split at hq
  case isTrue hc => rw [if_pos hc.2]; obtain rfl := Option.some_inj.1 hq; simp [Record.withOwed]
  case isFalse hc =>
    rw [if_neg fun hc' => hc ⟨rfl, hc'⟩]
    obtain rfl := Option.some_inj.1 hq
    simp [hf, hout]

/-- Where no owed record takes the place of the PROGRESS entry, no other slot changes. -/
theorem State.handToExport_slotsKeptBut {s : State} {i : SlotId}
    (h : (i, SumKind.progress) ∉ s.xport.sumQ ∨ s.xport.owed = []) : s.slotsKeptBut (s.handToExport i) i := by
  intro j hj
  rw [State.handToExport, State.record_queueFinal, if_neg fun hc => hj hc.1, State.record_removeSum, if_neg]
  rintro ⟨hm, hh⟩
  rcases h with h | h
  · exact h hm
  · rw [h] at hh; cases hh

end

/-! ## What a seal does besides the record (R53, R91, R163) -/

theorem Bank.unbind_eq (k : Bank) : k.unbind = { k with
    bound := k.bound - 1, state := if k.state = .retiring ∧ k.bound - 1 = 0 then .idle else k.state } := rfl

section

variable {s : State} {i : SlotId} {r : Record} (hr : s.record i = some r) (ha : r.isActive = true)
  (w : Option CloseReason)

include hr ha

theorem State.sumQ_sealSlot : (s.sealSlot i w).xport.sumQ = ((s.judged i r w).handToExport i).xport.sumQ := by
  rw [State.xport_sealSlot hr ha]

theorem State.owed_sealSlot : (s.sealSlot i w).xport.owed = ((s.judged i r w).handToExport i).xport.owed := by
  rw [State.xport_sealSlot hr ha]

theorem State.sealSlot_effects : s.sealEffects (s.sealSlot i w) i r := by
  have hx := s.xport_judged i r w
  refine ⟨State.alerts_sealSlot hr ha w, fun d => ?_, ?_, ?_, State.tag_sealSlot hr ha w,
    State.exportOrder_sealSlot hr ha w, State.sealOrder_sealSlot hr ha w, ?_, ?_, ?_, fun hp => ?_, fun hp ho => ?_⟩
  · rw [State.cell_sealSlot hr ha]; rfl
  · rw [State.bank_sealSlot hr ha, if_pos rfl]; rfl
  · rw [State.bank_sealSlot hr ha, if_neg r.bank.other_ne]
  · rw [State.progressTimer_sealSlot hr ha, if_pos rfl]
  · rw [State.xport_sealSlot hr ha]
  · rw [State.xport_sealSlot hr ha]
  · have hp' : (i, SumKind.progress) ∉ (s.judged i r w).xport.sumQ := by rw [hx]; exact hp
    have h := (s.judged i r w).queueFinal_handedOver i
    rw [State.sumQ_sealSlot hr ha, State.owed_sealSlot hr ha, State.handToExport_of_absent hp']
    rw [hx] at h
    exact h
  · have hp' : (i, SumKind.progress) ∈ (s.judged i r w).xport.sumQ := by rw [hx]; exact hp
    have ho' : (s.judged i r w).xport.owed = [] := by rw [hx]; exact ho
    have h := ((s.judged i r w).removeSum (i, .progress)).queueFinal_handedOver i
    rw [State.sumQ_sealSlot hr ha, State.owed_sealSlot hr ha, State.handToExport]
    rw [State.removeSum_of_none_owed hp' ho', hx] at h ⊢
    exact h

theorem State.record_sealSlot_same : ∃ b, (s.sealSlot i w).record i = some ((r.judgedAs w s.time (s.recipeOf r)).withOwed b) := by
  have h : (s.judged i r w).record i = some (r.judgedAs w s.time (s.recipeOf r)) := by
    rw [State.record_judged, if_pos rfl]
  rw [State.record_sealSlot hr ha]
  exact State.record_handToExport_same h

/-- SUMMARY_OWED of a record that seals, where it was clear and the slot not on the owed list. -/
theorem State.sealSlot_owed {q : Record} (ho : i ∉ s.xport.owed) (hf : r.flags.summaryOwed = false)
    (hq : (s.sealSlot i w).record i = some q) :
    q.flags.summaryOwed = true ↔ i ∈ (s.sealSlot i w).xport.owed := by
  have h : (s.judged i r w).record i = some (r.judgedAs w s.time (s.recipeOf r)) := by
    rw [State.record_judged, if_pos rfl]
  rw [State.record_sealSlot hr ha] at hq
  rw [State.owed_sealSlot hr ha]
  exact State.handToExport_owed h (by rw [State.xport_judged]; exact ho) hf hq

theorem State.sealSlot_slotsKeptBut (h : (i, SumKind.progress) ∉ s.xport.sumQ ∨ s.xport.owed = []) :
    s.slotsKeptBut (s.sealSlot i w) i := by
  intro j hj
  have hj' := State.handToExport_slotsKeptBut (s := s.judged i r w) (i := i) (by rw [State.xport_judged]; exact h) j hj
  rw [State.record_sealSlot hr ha, hj', State.record_judged, if_neg hj]

end

/-- What a seal does is the same whether or not a grace timer was stopped before it. -/
theorem State.sealEffects_congr {s s' t : State} {i : SlotId} {r : Record} (hc : s.changesOnly s' [.cells])
    (hlatch : ∀ d, (s'.cell d).stopLatch = (s.cell d).stopLatch) (h : s'.sealEffects t i r) : s.sealEffects t i r := by
  have halerts : ∀ as, (s'.raiseAll as).alerts = (s.raiseAll as).alerts :=
    fun as => State.alerts_raiseAll_congr hc.alerts hc.time as
  have hcells : ∀ as d, ((s'.raiseAll as).cell d).stopLatch = ((s.raiseAll as).cell d).stopLatch :=
    fun as d => (congrArg Cell.stopLatch (State.cell_raiseAll_congr hc.alerts hc.time (hlatch d) as) :)
  unfold State.sealEffects at *
  simpa only [halerts, hcells, hc.recipeOf, hc.bank, hc.tag, hc.dir, hc.xport] using h

/-! ## The grace expiry (R31, R76) -/

theorem State.closingOn_spec {s : State} {c : CellId} {i : SlotId} {r : Record} (h : s.closingOn c = some i)
    (hr : s.record i = some r) : r.state = .closing ∧ r.cell = c := by
  obtain ⟨q, hq, hp⟩ := State.findSlot_some h
  obtain rfl := Option.some_inj.1 (hr.symm.trans hq)
  simpa using hp

theorem State.openOn_spec {s : State} {c : CellId} {i : SlotId} {r : Record} (h : s.openOn c = some i)
    (hr : s.record i = some r) : r.state = .opened ∧ r.cell = c := by
  obtain ⟨q, hq, hp⟩ := State.findSlot_some h
  obtain rfl := Option.some_inj.1 (hr.symm.trans hq)
  simpa using hp

theorem State.changesOnly.closingOn {s t : State} {bs : List Block} (h : s.changesOnly t bs) (c : CellId)
    (hb : .dir ∉ bs := by decide) : t.closingOn c = s.closingOn c := State.findSlot_congr (fun i => h.record i hb) _

theorem State.changesOnly.openOn {s t : State} {bs : List Block} (h : s.changesOnly t bs) (c : CellId)
    (hb : .dir ∉ bs := by decide) : t.openOn c = s.openOn c := State.findSlot_congr (fun i => h.record i hb) _

theorem State.graceExpire_of_closing {s : State} {c : CellId} {i : SlotId} (h : s.closingOn c = some i) :
    s.graceExpire c = (s.stopGrace c).sealSlot i none := by
  have h' : (s.stopGrace c).closingOn c = some i := ((s.stopGrace_changes c).closingOn c).trans h
  simp only [State.graceExpire, h']

theorem State.graceDue_of_running {s : State} {c : CellId} {m : Timer} (h : (s.cell c).graceTimer = some m) :
    s.graceDue c = if m.length ≤ m.elapsed then s.graceExpire c else s := by
  simp only [State.graceDue, h, Timer.isDue, decide_eq_true_eq]

theorem State.graceDue_of_stopped {s : State} {c : CellId} (h : (s.cell c).graceTimer = none) : s.graceDue c = s := by
  simp only [State.graceDue, h]

/-- Settles O24: an expired timer is one seal after the timer's stop; a timer that is running or stopped does nothing. -/
theorem graceExpirySealsTheClosingRecord : Obligations.GraceExpirySealsTheClosingRecord := by
  intro s c
  refine ⟨fun m i r hm hdue hi hr => ?_, fun m hm hrun => ?_, fun hn => ?_⟩
  · obtain ⟨hstate, rfl⟩ := State.closingOn_spec hi hr
    have ha : r.isActive = true := Record.isActive_iff.2 (.inr hstate)
    have hc := s.stopGrace_changes r.cell
    have hlatch : ∀ d, ((s.stopGrace r.cell).cell d).stopLatch = (s.cell d).stopLatch := fun d => by
      rw [State.cell_stopGrace]
    have hr' : (s.stopGrace r.cell).record i = some r := (hc.record i).trans hr
    have heff := State.sealEffects_congr hc hlatch (State.sealSlot_effects hr' ha none)
    obtain ⟨b, hb⟩ := State.record_sealSlot_same hr' ha none
    have hrc : (s.stopGrace r.cell).recipeOf r = s.recipeOf r := hc.recipeOf r
    have hx : (s.stopGrace r.cell).xport = s.xport := hc.xport
    have hrec : (r.judgedAs none (s.stopGrace r.cell).time ((s.stopGrace r.cell).recipeOf r)).withOwed b =
        r.sealedAs r.reason r.closeStart s.time (s.recipeOf r) b := by
      rw [hrc, hc.time, Record.judgedAs, if_pos hstate]
      rfl
    rw [hrec] at hb
    refine ⟨(s.stopGrace r.cell).sealSlot i none, _, ?_, hb, rfl, rfl, rfl, rfl, rfl, rfl, rfl, rfl, rfl, ?_,
      fun q => ?_, ?_, ?_, rfl, fun ho hf => ?_, heff, fun hk => ?_, fun d => ?_⟩
    · show Host.Outcome.next (s.graceDue r.cell) = _
      rw [State.graceDue_of_running hm, if_pos hdue, State.graceExpire_of_closing hi]
    · simp [State.cell_sealSlot hr' ha]
    · rw [State.tag_sealSlot hr' ha]
      split
      · exact nofun
      · assumption
    · rw [State.bank_sealSlot hr' ha, if_pos rfl, hc.bank]
      rfl
    · exact hc.seq (State.sealSlot_changes _ i none)
    · exact State.sealSlot_owed hr' ha none (by rw [hx]; exact ho) hf hb
    · exact (hc.slotsKeptBut i).trans (State.sealSlot_slotsKeptBut hr' ha none (by rw [hx]; exact hk))
    · rw [State.cell_sealSlot hr' ha, State.cell_stopGrace]
      by_cases hd : d = r.cell <;> simp [hd, hstate]
  · show Host.Outcome.next (s.graceDue c) = _
    rw [State.graceDue_of_running hm, if_neg (not_le.2 hrun)]
  · show Host.Outcome.next (s.graceDue c) = _
    rw [State.graceDue_of_stopped hn]

end Sys2Proof.Machine

/-! SUPPORT. A free, block by block (R53, R93, R99, R161, R164, R168, R172, R186). -/

namespace Sys2Proof.Machine

set_option Elab.async false

/-! ## The parts of a free -/

/-- The first part of a free: the grace timer of a CLOSING record stops, and an OPEN or CLOSING one is unbound. -/
def State.released (s : State) (r : Record) : State :=
  if r.isActive then (if r.state = .closing then s.stopGrace r.cell else s).unbindBank r.bank
  else if r.state = .closing then s.stopGrace r.cell else s

/-- The second part: the slot is empty and off the owed list, its progress timer stopped and its frame given back. -/
def State.emptied (s : State) (i : SlotId) (r : Record) : State :=
  ((((s.released r).dropOwed i).emptySlot i).setProgress i none).returnFrame r.frame

/-- The third part: the slot's entries leave the SUM queue. -/
def State.dequeued (s : State) (i : SlotId) : State := (s.removeSum (i, .final)).removeSum (i, .progress)

/-- The last part: the map pending list, the dump, the transmitter and the tags. -/
def State.forgotten (s : State) (i : SlotId) : State :=
  (((s.removePending i).loseDumpOf i).cancelTx i).clearTagsOn i

theorem State.freeRecord_of_record {s : State} {i : SlotId} {r : Record} (h : s.record i = some r) :
    s.freeRecord i = ((s.emptied i r).dequeued i).forgotten i := by
  simp only [State.freeRecord, h]
  rfl

theorem State.freeRecord_of_none {s : State} {i : SlotId} (h : s.record i = none) : s.freeRecord i = s := by
  simp only [State.freeRecord, h]

section

variable (s : State) (i : SlotId) (r : Record)

theorem State.released_changes : s.changesOnly (s.released r) [.cells, .banks] := by
  have hstop : s.changesOnly (if r.state = .closing then s.stopGrace r.cell else s) [.cells] := by
    split
    · exact s.stopGrace_changes _
    · exact .refl s _
  unfold State.released
  split
  · exact hstop.seq (State.unbindBank_changes _ _)
  · exact hstop.mono

theorem State.cell_released (d : CellId) : (s.released r).cell d = { s.cell d with
    graceTimer := if r.state = .closing ∧ d = r.cell then none else (s.cell d).graceTimer } := by
  have hstop : (if r.state = .closing then s.stopGrace r.cell else s).cell d = { s.cell d with
      graceTimer := if r.state = .closing ∧ d = r.cell then none else (s.cell d).graceTimer } := by
    by_cases h : r.state = .closing <;> simp [h]
  unfold State.released
  split
  · exact ((State.unbindBank_changes _ _).cell d).trans hstop
  · exact hstop

theorem State.bank_released (lb : BankId) : (s.released r).bank lb =
    if r.isActive = true ∧ lb = r.bank then (s.bank lb).unbind else s.bank lb := by
  have hstop : ∀ x, (if r.state = .closing then s.stopGrace r.cell else s).bank x = s.bank x := fun x => by
    split
    · exact (s.stopGrace_changes _).bank x
    · rfl
  unfold State.released
  by_cases ha : r.isActive = true
  · rw [if_pos ha, State.bank_unbindBank]
    by_cases hb : lb = r.bank <;> simp [ha, hb, hstop]
  · rw [if_neg ha, hstop, if_neg fun h => ha h.1]

theorem State.genCount_released : (s.released r).banks.genCount = s.banks.genCount := by
  unfold State.released State.unbindBank
  split
  · rw [State.genCount_setBank]; split <;> rfl
  · split <;> rfl

theorem State.maps_returnFrame (f : Option FrameId) :
    (s.returnFrame f).maps = { s.maps with free := s.maps.free ++ f.toList } := by
  cases f with
  | none => simp [State.returnFrame]
  | some f => rfl

theorem State.record_emptySlot (j : SlotId) : (s.emptySlot i).record j = if j = i then none else s.record j :=
  s.record_setSlot i j none

/-! ### The emptied slot -/

theorem State.emptied_released : (s.released r).changesOnly (s.emptied i r) [.dir, .maps, .xport] :=
  (((State.dropOwed_changes _ i).trans (State.emptySlot_changes _ i).mono).trans
    (State.setProgress_changes _ i none).mono).seq (State.returnFrame_changes _ _)

theorem State.dir_emptied : (s.emptied i r).dir = (((s.released r).dropOwed i).emptySlot i).dir :=
  ((State.setProgress_changes _ i none).seq (State.returnFrame_changes _ r.frame)
    (ds := [.xport, .maps])).dir

theorem State.record_emptied (j : SlotId) :
    (s.emptied i r).record j = if j = i then none else s.record j := by
  rw [State.record_congr (s.dir_emptied i r), State.record_emptySlot]
  split
  · rfl
  · rw [State.record_dropOwed, if_neg fun h => absurd h.1 ‹_›, (s.released_changes r).record]

theorem State.exportOrder_emptied : (s.emptied i r).dir.exportOrder = s.dir.exportOrder.erase i := by
  have h : ((s.released r).dropOwed i).dir.exportOrder = s.dir.exportOrder :=
    ((s.released_changes r).orders.trans (State.dropOwed_orders _ i)).1
  rw [State.dir_emptied, ← h]
  rfl

theorem State.sealOrder_emptied : (s.emptied i r).dir.sealOrder = s.dir.sealOrder.erase i := by
  have h : ((s.released r).dropOwed i).dir.sealOrder = s.dir.sealOrder :=
    ((s.released_changes r).orders.trans (State.dropOwed_orders _ i)).2
  rw [State.dir_emptied, ← h]
  rfl

theorem State.xport_emptied : (s.emptied i r).xport = { s.xport with
    owed := s.xport.owed.erase i, progress := s.xport.progress.set i.val none } := by
  have h : ((s.released r).dropOwed i).xport = { s.xport with owed := s.xport.owed.erase i } := by
    rw [State.xport_dropOwed, (s.released_changes r).xport]
  have h' : (s.emptied i r).xport = { ((s.released r).dropOwed i).xport with
      progress := ((s.released r).dropOwed i).xport.progress.set i.val none } := (State.returnFrame_changes _ _).xport
  rw [h', h]

theorem State.maps_emptied : (s.emptied i r).maps = { s.maps with free := s.maps.free ++ r.frame.toList } := by
  have h : ((((s.released r).dropOwed i).emptySlot i).setProgress i none).maps = s.maps :=
    ((((s.released_changes r).seq (State.dropOwed_changes _ i) (ds := [.cells, .banks, .dir, .xport])).trans
      (State.emptySlot_changes _ i).mono).trans (State.setProgress_changes _ i none).mono).maps
  rw [State.emptied, State.maps_returnFrame, h]

/-! ### The lists -/

theorem State.dequeued_changes : s.changesOnly (s.dequeued i) [.dir, .xport] :=
  (s.removeSum_changes _).trans (State.removeSum_changes _ _)

theorem State.dequeued_standings : s.sameStandings (s.dequeued i) :=
  (s.removeSum_standings _).trans (State.removeSum_standings _ _)

theorem State.dequeued_orders : s.ordersKept (s.dequeued i) :=
  (s.removeSum_orders _).trans (State.removeSum_orders _ _)

theorem State.dequeued_sumsOnly : s.xport.sumsOnly (s.dequeued i).xport :=
  (s.removeSum_sumsOnly _).trans (State.removeSum_sumsOnly _ _)

theorem State.forgotten_changes : s.changesOnly (s.forgotten i) [.xport, .hall, .tags] :=
  ((((s.removePending_changes i).trans (State.modDump_changes _ _)).seq (State.cancelTx_changes _ i)
    (ds := [.xport, .hall])).seq (State.clearTagsOn_changes _ i))

theorem State.xport_forgotten : (s.forgotten i).xport = { s.xport with
    mapQ := s.xport.mapQ.filter (fun e => e.1 != i)
    dump := s.xport.dump.map (fun d =>
      if d.slot = i ∧ d.gone = false then { d with aborted := true, gone := true } else d) } := rfl

/-- A frame in transmission whose completion would act on the slot acts on nothing. -/
theorem TxAction.cancelFor_eq (a : TxAction) :
    a.cancelFor i = if a ∈ [.final i, .mapEnd i true, .mapEnd i false] then .nothing else a := by
  cases a with
  | final j => by_cases h : j = i <;> simp [TxAction.cancelFor, h]
  | mapEnd j b => by_cases h : j = i <;> cases b <;> simp [TxAction.cancelFor, h]
  | mapRow => rfl
  | nothing => rfl

theorem State.hall_cancelTx : (s.cancelTx i).hall = { s.hall with tx := s.hall.tx.map fun x =>
    if x.action ∈ [.final i, .mapEnd i true, .mapEnd i false] then { x with action := .nothing } else x } := by
  have hone : ∀ x : Sending, ({ x with action := x.action.cancelFor i } : Sending) =
      if x.action ∈ [.final i, .mapEnd i true, .mapEnd i false] then { x with action := .nothing } else x := fun x => by
    rw [TxAction.cancelFor_eq]
    split <;> rfl
  simp only [← hone]
  rfl

end

/-! ## The whole free -/

section

variable {s : State} {i : SlotId} {r : Record} (hr : s.record i = some r)

include hr

theorem State.standing_freeRecord (j : SlotId) :
    (s.freeRecord i).standing j = if j = i then none else s.standing j := by
  have h : (s.emptied i r).standing j = if j = i then none else s.standing j := by
    rw [State.standing, State.record_emptied]
    split <;> rfl
  rw [State.freeRecord_of_record hr, (State.forgotten_changes _ i).standing, State.dequeued_standings, h]

theorem State.record_freeRecord_same : (s.freeRecord i).record i = none := by
  rw [← State.standing_eq_none, State.standing_freeRecord hr, if_pos rfl]

theorem State.exportOrder_freeRecord : (s.freeRecord i).dir.exportOrder = s.dir.exportOrder.erase i := by
  rw [State.freeRecord_of_record hr]
  exact ((State.dequeued_orders _ i).trans (State.forgotten_changes _ i).orders).1.trans (s.exportOrder_emptied i r)

theorem State.sealOrder_freeRecord : (s.freeRecord i).dir.sealOrder = s.dir.sealOrder.erase i := by
  rw [State.freeRecord_of_record hr]
  exact ((State.dequeued_orders _ i).trans (State.forgotten_changes _ i).orders).2.trans (s.sealOrder_emptied i r)

theorem State.free_lists_changes :
    (s.released r).changesOnly (s.freeRecord i) [.dir, .maps, .xport, .hall, .tags] := by
  rw [State.freeRecord_of_record hr]
  exact ((s.emptied_released i r).seq (State.dequeued_changes _ i) (ds := [.dir, .maps, .xport])).seq
    (State.forgotten_changes _ i)

theorem State.cell_freeRecord (d : CellId) : (s.freeRecord i).cell d = { s.cell d with
    graceTimer := if r.state = .closing ∧ d = r.cell then none else (s.cell d).graceTimer } :=
  ((State.free_lists_changes hr).cell d).trans (s.cell_released r d)

theorem State.bank_freeRecord (lb : BankId) : (s.freeRecord i).bank lb =
    if r.isActive = true ∧ lb = r.bank then (s.bank lb).unbind else s.bank lb :=
  ((State.free_lists_changes hr).bank lb).trans (s.bank_released r lb)

theorem State.genCount_freeRecord : (s.freeRecord i).banks.genCount = s.banks.genCount :=
  (congrArg _ (State.free_lists_changes hr).banks).trans (s.genCount_released r)

theorem State.maps_freeRecord :
    (s.freeRecord i).maps = { s.maps with free := s.maps.free ++ r.frame.toList } := by
  rw [State.freeRecord_of_record hr, (State.forgotten_changes _ i).maps, (State.dequeued_changes _ i).maps,
    State.maps_emptied]

theorem State.tag_freeRecord (q : Fin 4) :
    (s.freeRecord i).tag q = if s.tag q = some i then none else s.tag q := by
  have htag : ((((s.emptied i r).dequeued i).removePending i).loseDumpOf i).tag q = s.tag q :=
    (((((s.released_changes r).seq (s.emptied_released i r) (ds := [.cells, .banks, .dir, .maps, .xport])).trans
      (State.dequeued_changes _ i).mono).trans (State.removePending_changes _ i).mono).trans
        (State.modDump_changes _ _).mono).tag q
  have htag' : (((((s.emptied i r).dequeued i).removePending i).loseDumpOf i).cancelTx i).tag q = s.tag q :=
    ((State.cancelTx_changes _ i).tag q).trans htag
  rw [State.freeRecord_of_record hr, State.forgotten, State.tag_clearTagsOn, htag']

theorem State.xport_freeRecord : (s.freeRecord i).xport = { ((s.emptied i r).dequeued i).xport with
    mapQ := s.xport.mapQ.filter (fun e => e.1 != i)
    dump := s.xport.dump.map (fun d =>
      if d.slot = i ∧ d.gone = false then { d with aborted := true, gone := true } else d)
    progress := s.xport.progress.set i.val none } := by
  have hsums := State.dequeued_sumsOnly (s.emptied i r) i
  have hx := s.xport_emptied i r
  have hprog : ((s.emptied i r).dequeued i).xport.progress = s.xport.progress.set i.val none :=
    hsums.progress.trans (by rw [hx])
  have hmapQ : ((s.emptied i r).dequeued i).xport.mapQ = s.xport.mapQ := hsums.mapQ.trans (by rw [hx])
  have hdump : ((s.emptied i r).dequeued i).xport.dump = s.xport.dump := hsums.dump.trans (by rw [hx])
  rw [State.freeRecord_of_record hr, State.xport_forgotten, hmapQ, hdump, ← hprog]

theorem State.hall_freeRecord : (s.freeRecord i).hall = { s.hall with tx := s.hall.tx.map fun x =>
    if x.action ∈ [.final i, .mapEnd i true, .mapEnd i false] then { x with action := .nothing } else x } := by
  have hhall : ((((s.emptied i r).dequeued i).removePending i).loseDumpOf i).hall = s.hall :=
    (((((s.released_changes r).seq (s.emptied_released i r) (ds := [.cells, .banks, .dir, .maps, .xport])).trans
      (State.dequeued_changes _ i).mono).trans (State.removePending_changes _ i).mono).trans
        (State.modDump_changes _ _).mono).hall
  rw [State.freeRecord_of_record hr, State.forgotten, (State.clearTagsOn_changes _ i).hall, State.hall_cancelTx, hhall]

theorem State.progressTimer_freeRecord (j : SlotId) :
    (s.freeRecord i).progressTimer j = if j = i then none else s.progressTimer j := by
  have hprog : (s.freeRecord i).progressTimer j = (s.setProgress i none).progressTimer j :=
    congrArg (·[j.val]) (by rw [State.xport_freeRecord hr] :
      (s.freeRecord i).xport.progress = s.xport.progress.set i.val none)
  rw [hprog, State.progressTimer_setProgress]

theorem State.record_freeRecord (j : SlotId) :
    (s.freeRecord i).record j = ((s.emptied i r).dequeued i).record j := by
  rw [State.freeRecord_of_record hr, (State.forgotten_changes _ i).record]

end

/-! ## What a free leaves of the sums (R93, R161, R164) -/

section

variable {s : State} {i : SlotId}

/-- Where the lists are true, an entry of slot i in the SUM queue is FINAL or PROGRESS alone, and a FINAL one means that
the slot is not owed. -/
theorem State.summaryLists.final_not_owed (h : s.summaryLists) (hm : (i, SumKind.final) ∈ s.xport.sumQ) :
    i ∉ s.xport.owed := by
  obtain ⟨-, -, -, -, -, hout, -⟩ := h
  exact fun ho => (hout i ho).2 hm

theorem State.summaryLists.owed_of_progress (h : s.summaryLists) {j : SlotId}
    (hm : (j, SumKind.progress) ∈ s.xport.sumQ) : s.xport.owed = [] := by
  obtain ⟨-, -, -, -, -, -, hfull⟩ := h
  by_contra hne
  simpa using (hfull hne).2 _ hm

theorem State.isIn_iff {s : State} {i : SlotId} {l : List RecordState} :
    s.isIn i l = true ↔ ∃ r, s.record i = some r ∧ r.state ∈ l := by
  unfold State.isIn
  cases s.record i <;> simp

theorem State.summaryLists.final_not_progress (h : s.summaryLists) (hf : (i, SumKind.final) ∈ s.xport.sumQ) :
    (i, SumKind.progress) ∉ s.xport.sumQ := fun hp => by
  obtain ⟨-, -, hkind, -⟩ := h
  obtain ⟨r, hr, hs⟩ := State.isIn_iff.1 (hkind _ hf)
  obtain ⟨q, hq, hs'⟩ := State.isIn_iff.1 (hkind _ hp)
  obtain rfl := Option.some_inj.1 (hr.symm.trans hq)
  simp only [if_true, reduceCtorEq, if_false, List.mem_cons, List.not_mem_nil, or_false] at hs hs'
  rcases hs with hs | hs <;> simp [hs] at hs'

/-- Without two entries of a slot, erasing the one it has takes all its entries. -/
theorem filter_slot_of_erase {q : List (SlotId × SumKind)} (hq : q.Nodup) {k k' : SumKind}
    (hk : ∀ x : SumKind, x = k ∨ x = k') (hout : (i, k') ∉ q) :
    q.filter (fun e => e.1 != i) = q.erase (i, k) := by
  rw [hq.erase_eq_filter]
  refine List.filter_congr fun e he => ?_
  obtain ⟨j, x⟩ := e
  by_cases hj : j = i
  · subst hj
    rcases hk x with rfl | rfl
    · simp
    · exact absurd he hout
  · have hne : (j, x) ≠ (i, k) := fun h => hj (congrArg Prod.fst h)
    exact (bne_iff_ne.2 hj).trans (bne_iff_ne.2 hne).symm

theorem State.sums_dequeued {t : State} (h : s.summaryLists) (hq : t.xport.sumQ = s.xport.sumQ)
    (ho : t.xport.owed = s.xport.owed.erase i) :
    (t.dequeued i).xport.sumQ = s.xport.sumQ.filter (fun e => e.1 != i) ++
      (if (i, SumKind.final) ∈ s.xport.sumQ then (s.xport.owed.take 1).map (fun j => (j, .final)) else []) ∧
    (t.dequeued i).xport.owed =
      (s.xport.owed.erase i).drop (if (i, SumKind.final) ∈ s.xport.sumQ then 1 else 0) ∧
    ∀ j, (t.dequeued i).record j =
      if (i, SumKind.final) ∈ s.xport.sumQ ∧ s.xport.owed.head? = some j then
        (t.record j).map (·.withOwed false) else t.record j := by
  by_cases hf : (i, SumKind.final) ∈ s.xport.sumQ
  · have hout := h.final_not_owed hf
    have hp := h.final_not_progress hf
    rw [List.erase_of_not_mem hout] at ho ⊢
    have hafter : (i, SumKind.progress) ∉ (t.removeSum (i, .final)).xport.sumQ := by
      rw [State.removeSum_of_mem (by rw [hq]; exact hf), State.xport_fillPlace]
      simp only [State.withXport_xport, hq, List.mem_append, List.mem_map, not_or]
      refine ⟨fun hm => hp (List.mem_of_mem_erase hm), ?_⟩
      rintro ⟨j, -, hj⟩
      simp at hj
    have heq : t.dequeued i = t.removeSum (i, .final) := State.removeSum_of_not_mem hafter
    refine ⟨?_, ?_, fun j => ?_⟩
    · rw [heq, State.removeSum_of_mem (by rw [hq]; exact hf), State.xport_fillPlace, if_pos hf,
        filter_slot_of_erase h.1 (k := .final) (k' := .progress) (fun x => by cases x <;> simp) hp]
      simp [hq, ho]
    · rw [heq, State.owed_removeSum, hq, ho, if_pos hf, if_pos hf, List.drop_one]
    · rw [heq, State.record_removeSum, hq, ho]
  · have hskip : t.removeSum (i, .final) = t := State.removeSum_of_not_mem (by rw [hq]; exact hf)
    have heq : t.dequeued i = t.removeSum (i, .progress) := by rw [State.dequeued, hskip]
    have hnone : (i, SumKind.progress) ∈ s.xport.sumQ → t.xport.owed = [] := fun hp => by
      rw [ho, h.owed_of_progress hp]; rfl
    refine ⟨?_, ?_, fun j => ?_⟩
    · rw [if_neg hf, List.append_nil, heq,
        filter_slot_of_erase h.1 (k := .progress) (k' := .final) (fun x => by cases x <;> simp) hf]
      by_cases hp : (i, SumKind.progress) ∈ s.xport.sumQ
      · rw [State.removeSum_of_none_owed (by rw [hq]; exact hp) (hnone hp)]
        simp [hq]
      · rw [State.removeSum_of_not_mem (by rw [hq]; exact hp), hq, List.erase_of_not_mem hp]
    · rw [if_neg hf, List.drop_zero, heq, State.owed_removeSum, ← ho]
      split
      case isTrue hp => rw [hnone (hq ▸ hp)]; rfl
      case isFalse => rfl
    · rw [if_neg fun hc => hf hc.1, heq, State.record_removeSum, if_neg]
      rintro ⟨hp, hh⟩
      rw [hnone (hq ▸ hp)] at hh
      cases hh

end

theorem State.freeRecord_freed {s : State} {i : SlotId} {r : Record} (hr : s.record i = some r) :
    s.freed (s.freeRecord i) i r := by
  refine ⟨State.cell_freeRecord hr, State.tag_freeRecord hr, State.exportOrder_freeRecord hr,
    State.sealOrder_freeRecord hr, ?_, ?_, State.genCount_freeRecord hr, fun lb => ?_, ?_, ?_, ?_,
    State.progressTimer_freeRecord hr, fun hsum => ?_⟩
  · rw [State.maps_freeRecord hr]
  · rw [State.maps_freeRecord hr]
  · rw [State.bank_freeRecord hr, Bank.unbind_eq]
    simp only [Record.isActive_iff]
  · rw [State.xport_freeRecord hr]
  · rw [State.xport_freeRecord hr]
  · rw [State.hall_freeRecord hr]
  · obtain ⟨hq, ho, hrec⟩ := State.sums_dequeued (t := s.emptied i r) hsum (by rw [State.xport_emptied])
      (by rw [State.xport_emptied])
    refine ⟨?_, ?_, fun j hj => ?_⟩
    · rw [State.xport_freeRecord hr]; exact hq
    · rw [State.xport_freeRecord hr]; exact ho
    · rw [State.record_freeRecord hr, hrec, State.record_emptied, if_neg hj]
      split <;> cases s.record j <;> rfl

end Sys2Proof.Machine

/-! SUPPORT. The requests that free a record (R94, R189). -/

namespace Sys2Proof.Machine

set_option Elab.async false

/-! ## Requests about a slot -/

/-- A request of one argument byte that needs a record in the slot it names reaches its own action. -/
theorem sized_onRecord {rq : Request} {b : Byte} (hargs : rq.args = [b])
    (act : SlotId → Record → State → State × Reply) :
    sized 1 rq (fun a => onRecord (byteAt a 0) act) = onRecord b act := by
  rw [sized_of_length (by simp [hargs]), hargs, byteAt_cons_zero]

theorem serve_onRecord_of_some {s u : State} {name : Byte} {rq : Request} {i : SlotId} {r : Record} {p : Reply}
    {act : SlotId → Record → State → State × Reply} (ht : s.takesNow name rq) (hargs : rq.args = [natByte i.val])
    (hr : s.record i = some r) (hact : act i r s.requestTaken = (u, p)) :
    serve name rq (sized 1 rq fun a => onRecord (byteAt a 0) act) s = .next (u.respond name rq p) := by
  rw [sized_onRecord hargs]
  exact serve_of_takesNow ht ((onRecord_of_some (by simpa using hr) act).trans hact)

/-- A request of a record that answers without a change. -/
theorem serve_onRecord_onlyReplies {s : State} {name : Byte} {rq : Request} {i : SlotId} {r : Record} {p : Reply}
    {act : SlotId → Record → State → State × Reply} (ht : s.takesNow name rq) (hargs : rq.args = [natByte i.val])
    (hr : s.record i = some r) (hact : act i r s.requestTaken = (s.requestTaken, p)) :
    serve name rq (sized 1 rq fun a => onRecord (byteAt a 0) act) s = .next (s.withHall (s.answered name rq p)) := by
  rw [serve_onRecord_of_some ht hargs hr hact, State.respond_requestTaken]

theorem serve_onRecord_noWafer {s : State} {name : Byte} {rq : Request} {i : SlotId}
    (ht : s.takesNow name rq) (hargs : rq.args = [natByte i.val]) (hr : s.record i = none)
    (act : SlotId → Record → State → State × Reply) :
    serve name rq (sized 1 rq fun a => onRecord (byteAt a 0) act) s =
      .next (s.withHall (s.answered name rq { status := .noWafer, data := [] })) := by
  rw [sized_onRecord hargs]
  exact serve_onlyReplies ht (onRecord_of_none (by simpa using hr) act)

theorem waferFreeOf_exported {s : State} {i : SlotId} {r : Record} (h : r.state = .exported) :
    waferFreeOf i r s = (s.freeRecord i, okReply r.freedBytes) := if_pos h

theorem waferFreeOf_refused {s : State} {i : SlotId} {r : Record} (h : r.state ≠ .exported) :
    waferFreeOf i r s = decline .refusedState s := if_neg h

/-! ## What the take and the reply leave of a free -/

theorem State.freed_hall (s : State) (v : HallPort) (htx : v.tx = s.hall.tx) {t : State} {i : SlotId} {r : Record}
    (h : (s.withHall v).freed t i r) : s.freed t i r := by
  obtain ⟨hcell, htag, hexport, hseal, hframes, hfree, hgen, hbank, hmapQ, hdump, hx, hprog, hsums⟩ := h
  exact ⟨hcell, htag, hexport, hseal, hframes, hfree, hgen, hbank, hmapQ, hdump, hx.trans (by simp [htx]), hprog, hsums⟩

theorem State.freed_respond {s u : State} {i : SlotId} {r : Record} (h : s.freed u i r) (name : Byte) (rq : Request)
    (p : Reply) : s.freed (u.respond name rq p) i r := by
  unfold State.respond
  split
  · exact h
  · exact h

/-- The hall port after a request freed a record: the take and the reply, and a frame in transmission cancelled. -/
theorem State.hall_respond_freeRecord {s : State} {i : SlotId} {r : Record} (hr : s.record i = some r) (name : Byte)
    (rq : Request) (p : Reply) : ((s.requestTaken.freeRecord i).respond name rq p).hall = { s.answered name rq p with
      tx := ((s.requestTaken.freeRecord i).respond name rq p).hall.tx } := by
  have hnode : (s.requestTaken.freeRecord i).node = s.node := (s.requestTaken.freeRecord_changes i).node
  have hhall := State.hall_freeRecord (s := s.requestTaken) (i := i) (r := r) (by simpa using hr)
  unfold State.respond State.answered State.repliesTo
  split
  · rw [hhall]
    simp [State.requestTaken]
  · simp only [State.withHall_hall]
    rw [hhall, replyFrame_congr hnode]
    simp [State.requestTaken]

/-- What a request that frees the record in a slot leaves. -/
theorem State.freed_served {s : State} {i : SlotId} {r : Record} (hr : s.record i = some r) (name : Byte) (rq : Request)
    (p : Reply) :
    ((s.requestTaken.freeRecord i).respond name rq p).record i = none ∧
      (∀ q, ((s.requestTaken.freeRecord i).respond name rq p).tag q ≠ some i) ∧
      s.freed ((s.requestTaken.freeRecord i).respond name rq p) i r ∧
      ((s.requestTaken.freeRecord i).respond name rq p).hall = { s.answered name rq p with
        tx := ((s.requestTaken.freeRecord i).respond name rq p).hall.tx } ∧
      s.changesOnly ((s.requestTaken.freeRecord i).respond name rq p)
        [.cells, .banks, .dir, .maps, .xport, .hall, .tags] := by
  have hr' : s.requestTaken.record i = some r := by simpa using hr
  have hresp := (s.requestTaken.freeRecord i).respond_changes name rq p
  have hfreed : s.freed (s.requestTaken.freeRecord i) i r :=
    State.freed_hall s s.requestTaken.hall rfl (State.freeRecord_freed hr')
  refine ⟨?_, fun q => ?_, State.freed_respond hfreed name rq p,
    State.hall_respond_freeRecord hr name rq p, State.served_changes (s.requestTaken.freeRecord_changes i) name rq p⟩
  · rw [hresp.record, State.record_freeRecord_same hr']
  · rw [hresp.tag, State.tag_freeRecord hr']
    split
    · simp
    · assumption

/-- Settles O58: WAFER_DROP and WAFER_FREE are a served free of the record in the slot, or an answer alone. -/
theorem dropAndFreeEmptyTheSlot : Obligations.DropAndFreeEmptyTheSlot := by
  intro s rq i i' name ht hargs hreq
  refine ⟨fun hr => ?_, fun r hr hname hstate => ?_, fun r hr hcase => ?_⟩
  · rcases hreq with ⟨rfl, rfl⟩ | ⟨rfl, rfl⟩
    · exact serve_onRecord_noWafer ht hargs hr _
    · exact serve_onRecord_noWafer ht hargs hr _
  · rcases hreq with ⟨rfl, rfl⟩ | ⟨rfl, rfl⟩
    · simp at hname
    · exact serve_onRecord_onlyReplies ht hargs hr (waferFreeOf_refused hstate)
  · have hexec : exec i' s = .next ((s.requestTaken.freeRecord i).respond name rq (okReply r.freedBytes)) := by
      rcases hreq with ⟨rfl, rfl⟩ | ⟨rfl, rfl⟩
      · exact serve_onRecord_of_some (act := fun i r s => (s.freeRecord i, okReply r.freedBytes)) ht hargs hr rfl
      · exact serve_onRecord_of_some ht hargs hr (waferFreeOf_exported (hcase.resolve_left (by decide)))
    obtain ⟨hrec, htag, hfreed, hhall, hchanges⟩ := State.freed_served hr name rq (okReply r.freedBytes)
    exact ⟨_, hexec, hrec, htag, hfreed, hhall, hchanges⟩

end Sys2Proof.Machine

/-! SUPPORT. The bytes of frames: fields read back as written, the frame check on a frame as sent, and the tester
payloads of chapter 11. -/

namespace Sys2Proof.Machine

set_option Elab.async false

/-! ## Bytes and fields -/

theorem byteAt_append_right (as bs : List Byte) (k : Nat) : byteAt (as ++ bs) (as.length + k) = byteAt bs k := by
  simp [byteAt, List.getD_eq_getElem?_getD, List.getElem?_append_right]

theorem halfAt_append_right (as bs : List Byte) (k : Nat) : halfAt (as ++ bs) (as.length + k) = halfAt bs k := by
  rw [halfAt, halfAt, Nat.add_assoc, byteAt_append_right, byteAt_append_right]

theorem half_of_bytes (h : Half) : (h.extractLsb' 8 8 ++ h.extractLsb' 0 8 : Half) = h := by
  rw [BitVec.extractLsb'_append_extractLsb'_eq_extractLsb' (start₂ := 8) (start₁ := 0) (len₁ := 8) rfl]
  simp

@[simp] theorem halfAt_halfBytes_append (h : Half) (bs : List Byte) : halfAt (halfBytes h ++ bs) 0 = h := half_of_bytes h

@[simp] theorem halfAt_halfBytes (h : Half) : halfAt (halfBytes h) 0 = h := half_of_bytes h

@[simp] theorem wordAt_wordBytes (w : Word) : wordAt (wordBytes w) 0 = w := by
  show ((w.extractLsb' 24 8 ++ w.extractLsb' 16 8 : Half) ++ (w.extractLsb' 8 8 ++ w.extractLsb' 0 8 : Half) : Word) = w
  rw [BitVec.extractLsb'_append_extractLsb'_eq_extractLsb' (start₂ := 24) (start₁ := 16) (len₁ := 8) rfl,
    BitVec.extractLsb'_append_extractLsb'_eq_extractLsb' (start₂ := 8) (start₁ := 0) (len₁ := 8) rfl]
  rw [BitVec.extractLsb'_append_extractLsb'_eq_extractLsb' (start₂ := 16) (start₁ := 0) (len₁ := 16) rfl]
  simp

theorem toNat_natByte {n : Nat} (h : n < 256) : (natByte n).toNat = n := Nat.mod_eq_of_lt h

/-! ## The frame check (R3, R4, R194) -/

theorem length_body (f : OutFrame) : f.body.length = 4 + f.payload.length := by
  simp [OutFrame.body, natHalf, halfBytes]; omega

theorem length_wire (f : OutFrame) : f.wire.length = f.payload.length + 6 := by
  simp [OutFrame.wire, length_body, halfBytes]; omega

theorem wire_lengthField {f : OutFrame} (h : f.payload.length ≤ 1024) : (halfAt f.wire 2).toNat = f.payload.length := by
  have hfield : halfAt f.wire 2 = BitVec.ofNat 16 f.payload.length := half_of_bytes _
  rw [hfield]
  exact Nat.mod_eq_of_lt (by omega)

/-- Settles O9: the header's length field is the payload's length, and the CRC of the bytes before it is the field behind
them. -/
theorem frameIsReadBack : Obligations.FrameIsReadBack := by
  intro f hlen
  have hn := wire_lengthField hlen
  have htake : f.wire.take (f.payload.length + 4) = f.body := by
    rw [OutFrame.wire, Nat.add_comm, ← length_body, List.take_left]
  have hcrc : halfAt f.wire (f.payload.length + 4) = crcOf f.body := by
    rw [OutFrame.wire, Nat.add_comm, ← length_body]
    exact (halfAt_append_right f.body _ 0).trans (halfAt_halfBytes _)
  have hpayload : (f.wire.drop 4).take f.payload.length = f.payload := List.take_left
  simp only [checkFrame, hn, length_wire, htake, hcrc, hpayload, Config.maxPayload]
  rw [if_neg (by omega), if_neg (by omega), if_neg (by simp), if_neg (by simp)]
  rfl

theorem checkFrame_framing_iff (bs : List Byte) : checkFrame bs = .framing ↔ framingFault bs := by
  have hfield : (bs.getD 2 0 ++ bs.getD 3 0 : Half) = halfAt bs 2 := rfl
  have hmax : Config.maxPayload = 1024 := rfl
  simp only [framingFault, hfield, checkFrame]
  by_cases hfault : bs.length < 6 ∨ Config.maxPayload < (halfAt bs 2).toNat ∨ bs.length ≠ (halfAt bs 2).toNat + 6
  · have hfault' : bs.length < 6 ∨ 1024 < (halfAt bs 2).toNat ∨ bs.length ≠ 6 + (halfAt bs 2).toNat := by omega
    rcases hfault with h | h | h <;> simp [h, hfault']
  · obtain ⟨hshort, hlong, hplace⟩ := by simpa only [not_or] using hfault
    have hfault' : ¬ (bs.length < 6 ∨ 1024 < (halfAt bs 2).toNat ∨ bs.length ≠ 6 + (halfAt bs 2).toNat) := by omega
    rw [if_neg hshort, if_neg hlong, if_neg hplace]
    simp only [hfault', iff_false]
    split <;> simp

/-! ## Tester payloads (R5, R6, R196) -/

theorem length_sentIn (o : ByteOrder) (e : SiteEntry) : (e.sentIn o).length = 8 := by cases o <;> rfl

theorem length_entries_sentIn (o : ByteOrder) (es : List SiteEntry) :
    (es.flatMap (SiteEntry.sentIn o)).length = 8 * es.length := by
  induction es with
  | nil => rfl
  | cons e es ih => rw [List.flatMap_cons, List.length_append, length_sentIn, ih, List.length_cons]; omega

/-- The bytes of a half in a port's order, put back in order, are the half. -/
theorem halfAt_inOrder (o : ByteOrder) (h : Half) : halfAt (inOrder o (inOrder o (halfBytes h))) 0 = h := by
  cases o <;> exact half_of_bytes h

theorem wordAt_inOrder (o : ByteOrder) (w : Word) : wordAt (inOrder o (inOrder o (wordBytes w))) 0 = w := by
  cases o <;> exact wordAt_wordBytes w

theorem parseEntries_sentIn_append (o : ByteOrder) (e : SiteEntry) (rest : List Byte) :
    parseEntries o (e.sentIn o ++ rest) = (parseEntries o rest).map (e :: ·) := by
  have hx := halfAt_inOrder o e.x
  have hy := halfAt_inOrder o e.y
  have hb := halfAt_inOrder o e.softBin
  cases o <;>
  · show (match parseEntries _ rest with | none => none | some es => some (_ :: es)) = _
    cases parseEntries _ rest with
    | none => rfl
    | some es => exact congrArg some (congrArg (· :: es) (by rw [SiteEntry.mk.injEq]; exact ⟨rfl, rfl, hx, hy, hb⟩))

theorem parseEntries_sentIn (o : ByteOrder) (es : List SiteEntry) :
    parseEntries o (es.flatMap (SiteEntry.sentIn o)) = some es := by
  induction es with
  | nil => rfl
  | cons e es ih => rw [List.flatMap_cons, parseEntries_sentIn_append, ih, Option.map_some]

theorem parseTouchdown_sentIn (o : ByteOrder) {td : Touchdown} (h : td.entries.length ≤ 16) :
    parseTouchdown o (td.sentIn o) = some td := by
  have hlen : (td.sentIn o).length = 8 + 8 * td.entries.length := by
    rw [← length_entries_sentIn o]; cases o <;> simp [Touchdown.sentIn, inOrder, wordBytes, halfBytes] <;> omega
  have hcount : (byteAt (td.sentIn o) 7).toNat = td.entries.length := by
    have : byteAt (td.sentIn o) 7 = natByte td.entries.length := by cases o <;> rfl
    rw [this, toNat_natByte (by omega)]
  have hlot : (td.sentIn o).take 4 = inOrder o (wordBytes td.key.lot) := by cases o <;> rfl
  have hwafer : byteAt (td.sentIn o) 4 = td.key.wafer := by cases o <;> rfl
  have hseq : ((td.sentIn o).drop 5).take 2 = inOrder o (halfBytes td.seq) := by cases o <;> rfl
  have hentries : (td.sentIn o).drop 8 = td.entries.flatMap (SiteEntry.sentIn o) := by cases o <;> rfl
  rw [parseTouchdown, if_neg (by omega), if_neg (by omega), if_neg (by omega), hentries, parseEntries_sentIn]
  simp only [hlot, hwafer, hseq, wordAt_inOrder, halfAt_inOrder]

theorem parseMarker_sentIn (o : ByteOrder) (m : Marker) : parseMarker o (m.sentIn o) = some m := by
  have hlen : (m.sentIn o).length = 7 := by cases o <;> rfl
  have hlot : ((m.sentIn o).drop 1).take 4 = inOrder o (wordBytes m.key.lot) := by cases o <;> rfl
  have hwafer : byteAt (m.sentIn o) 5 = m.key.wafer := by cases o <;> rfl
  have hkind : byteAt (m.sentIn o) 0 = m.kind := rfl
  have hrecipe : byteAt (m.sentIn o) 6 = m.recipe := by cases o <;> rfl
  rw [parseMarker, if_neg (by simp [hlen])]
  simp only [hlot, hwafer, hkind, hrecipe, wordAt_inOrder]

/-- Settles O10: each field's bytes are put back in order by the port's own byte order. -/
theorem testerPayloadIsReadBack : Obligations.TesterPayloadIsReadBack := by
  refine fun o td m => ⟨fun h => ?_, ?_⟩
  · rw [parseTester, if_pos rfl, parseTouchdown_sentIn o h, Option.map_some]
  · rw [parseTester, if_neg (by decide), if_pos rfl, parseMarker_sentIn, Option.map_some]

/-! ## Requests on the hall link (R176, R195, R200) -/

theorem checkFrame_wire {f : OutFrame} (h : f.payload.length ≤ 1024) : checkFrame f.wire = .good f.cls f.route f.payload :=
  frameIsReadBack f h

theorem checkFrame_request (name : Byte) {rq : Request} (h : rq.args.length ≤ 1022) :
    checkFrame (requestFrame name rq).wire = .good 0x31 rq.route ([name, rq.tag] ++ rq.args) :=
  checkFrame_wire (by simp [requestFrame]; omega)

theorem HallRx.join_of_room {x : HallRx} (h : x.fifo.length < 4) (e : RxEntry) :
    x.join e = { x with fifo := x.fifo ++ [e] } := if_pos h

theorem HallRx.join_of_full {x : HallRx} (h : 4 ≤ x.fifo.length) (e : RxEntry) :
    x.join e = { x with overrun := satAdd x.overrun 1 } := if_neg (Nat.not_lt.2 h)

theorem receiveHall_of_framing {s : State} {bs : List Byte} (h : checkFrame bs = .framing) :
    s.receiveHall bs = { s.hall.rx with isOpen := false, framing := satAdd s.hall.rx.framing 1 } := by
  simp only [State.receiveHall, h]; rfl

theorem receiveHall_of_crc {s : State} {bs : List Byte} (h : checkFrame bs = .crc) :
    s.receiveHall bs = { s.hall.rx with isOpen := false, crc := satAdd s.hall.rx.crc 1 } := by
  simp only [State.receiveHall, h]

theorem receiveHall_of_class {s : State} {bs : List Byte} {cls route : Byte} {p : List Byte}
    (h : checkFrame bs = .good cls route p) (hc : cls ≠ 0x31 ∨ p.length < 2) :
    s.receiveHall bs = { s.hall.rx with isOpen := false, framing := satAdd s.hall.rx.framing 1 } := by
  simp only [State.receiveHall, h, if_pos hc]; rfl

/-- A request's frame joins, or overruns, the receive FIFO when it is addressed to the part, and is ignored when not. -/
theorem receiveHall_request {s : State} (name : Byte) {rq : Request} (h : rq.args.length ≤ 1022) :
    s.receiveHall (requestFrame name rq).wire =
      if s.addressed rq.route then { s.hall.rx with isOpen := false }.join { name := name, rq := rq }
      else { s.hall.rx with isOpen := false } := by
  have hlen : ¬ (([name, rq.tag] ++ rq.args).length < 2) := by simp
  simp only [State.receiveHall, checkFrame_request name h, if_neg (not_or.2 ⟨not_not.2 rfl, hlen⟩)]
  rfl

/-- Settles O39: the receive side after a frame, by the outcome of the frame check and the address. -/
theorem hallFramesAreChecked : Obligations.HallFramesAreChecked := by
  intro s name rq bytes hlen
  have hexec : ∀ bs x, s.receiveHall bs = x → exec (.hallFrameReception bs) s = .next (s.setRx x) := fun _ _ h =>
    congrArg (fun x => Host.Outcome.next (s.setRx x)) h
  refine ⟨fun haddr hroom => ?_, fun haddr hfull => ?_, fun haddr => ?_, fun hcrc => ?_, fun cls route p hgood hcls => ?_,
    ?_⟩
  · refine hexec _ _ ((receiveHall_request name hlen).trans ?_)
    rw [if_pos haddr]
    exact HallRx.join_of_room (x := { s.hall.rx with isOpen := false }) hroom _
  · refine hexec _ _ ((receiveHall_request name hlen).trans ?_)
    rw [if_pos haddr]
    exact HallRx.join_of_full (x := { s.hall.rx with isOpen := false }) hfull _
  · refine hexec _ _ ((receiveHall_request name hlen).trans ?_)
    rw [haddr]
    rfl
  · exact hexec _ _ (receiveHall_of_crc hcrc)
  · exact hexec _ _ (receiveHall_of_class hgood (.inl hcls))
  · rintro (hfault | ⟨f, hf, rfl, hclass⟩)
    · exact hexec _ _ (receiveHall_of_framing ((checkFrame_framing_iff bytes).2 hfault))
    · exact hexec _ _ (receiveHall_of_class (checkFrame_wire hf) hclass)

end Sys2Proof.Machine

/-! SUPPORT. Reception on the cell links: faults, duplicates, overruns and admissions (R3 to R15). -/

namespace Sys2Proof.Machine

set_option Elab.async false

/-! ## Counters -/

theorem satAdd_half_one (x : Half) : satAdd x 1 = if x = 0xFFFF then 0xFFFF else x + 1 := by
  split
  case isTrue h => rw [h]; rfl
  case isFalse h =>
    have hx : x.toNat ≠ 65535 := fun hx => h (BitVec.eq_of_toNat_eq hx)
    have hlt := x.isLt
    refine BitVec.eq_of_toNat_eq ?_
    have hone : (1 : Half).toNat = 1 := rfl
    rw [satAdd, BitVec.toNat_ofNat, BitVec.toNat_add]
    omega

theorem toNat_satAdd_half_one {x : Half} (h : x ≠ 0xFFFF) : (satAdd x 1).toNat = x.toNat + 1 := by
  have hx : x.toNat ≠ 65535 := fun hx => h (BitVec.eq_of_toNat_eq hx)
  have hlt := x.isLt
  rw [satAdd, BitVec.toNat_ofNat]
  omega

/-! ## A fault counted (R15) -/

section

variable (s : State) (c : CellId) (v : PortCounts)

theorem State.cell_setFaultCounts : (s.setFaultCounts c v).cell c = { s.cell c with
    counts := v, stopLatch := ((s.setFaultCounts c v).cell c).stopLatch } := by
  unfold State.setFaultCounts
  dsimp only
  split
  · rw [State.cell_raise, State.cell_modCell_same]
  · rw [State.cell_modCell_same]

theorem State.setFaultCounts_cellsKeptBut : s.cellsKeptBut (s.setFaultCounts c v) c := by
  unfold State.setFaultCounts
  dsimp only
  split
  · exact (s.modCell_cellsKeptBut c _).trans (State.raise_cellsKeptBut _ rfl)
  · exact s.modCell_cellsKeptBut c _

theorem State.linkErrorAt_congr {s t : State} (h : s.changesOnly t [.cells]) (c : CellId) (n : Nat) :
    t.linkErrorAt c n = s.linkErrorAt c n := by
  unfold State.linkErrorAt
  rw [State.alerts_raise_congr h.alerts h.time, h.alerts]

theorem State.alerts_setFaultCounts : (s.setFaultCounts c v).alerts =
    if (s.cell c).counts.linkErrors < v.linkErrors then s.linkErrorAt c v.linkErrors else s.alerts := by
  have h := s.modCell_changes c fun k => { k with counts := v }
  by_cases hlt : (s.cell c).counts.linkErrors < v.linkErrors <;> by_cases hmod : v.linkErrors % 16 = 0 <;>
    simp [State.setFaultCounts, State.linkErrorAt, hlt, hmod, h.alerts, State.alerts_raise_congr h.alerts h.time]

end

/-- What the receiver's open-frame mark leaves. -/
theorem State.cell_setRxOpen (s : State) (c d : CellId) (b : Bool) :
    (s.setRxOpen c b).cell d = if d = c then { s.cell c with rxOpen := b } else s.cell d := s.cell_modCell c d _

theorem State.setRxOpen_changes (s : State) (c : CellId) (b : Bool) : s.changesOnly (s.setRxOpen c b) [.cells] :=
  s.modCell_changes c _

/-- A fault counted on a cell whose open-frame mark has just been set, block by block. -/
theorem State.faultCounted (s : State) (c : CellId) (b : Bool) (v : PortCounts) :
    ((s.setRxOpen c b).setFaultCounts c v).cell c = { s.cell c with
      rxOpen := b, counts := v, stopLatch := (((s.setRxOpen c b).setFaultCounts c v).cell c).stopLatch } ∧
    ((s.setRxOpen c b).setFaultCounts c v).alerts =
      (if (s.cell c).counts.linkErrors < v.linkErrors then s.linkErrorAt c v.linkErrors else s.alerts) ∧
    s.cellsKeptBut ((s.setRxOpen c b).setFaultCounts c v) c ∧
    s.changesOnly ((s.setRxOpen c b).setFaultCounts c v) [.cells, .alerts] := by
  have hopen := s.setRxOpen_changes c b
  have hcell := s.cell_setRxOpen c c b
  rw [if_pos rfl] at hcell
  refine ⟨?_, ?_, (s.modCell_cellsKeptBut c _).trans (State.setFaultCounts_cellsKeptBut _ c v),
    hopen.seq (State.setFaultCounts_changes _ c v)⟩
  · rw [State.cell_setFaultCounts, hcell]
  · rw [State.alerts_setFaultCounts, hcell, State.linkErrorAt_congr hopen, hopen.alerts]

/-- The counts after a framing fault (R14). -/
def PortCounts.framed (k : PortCounts) : PortCounts :=
  { k with framing := if k.framing = 0xFFFF then 0xFFFF else k.framing + 1 }

theorem State.countFraming_setRxOpen (s : State) (c : CellId) (b : Bool) :
    (s.setRxOpen c b).countFraming c = (s.setRxOpen c b).setFaultCounts c (s.cell c).counts.framed := by
  rw [State.countFraming, satAdd_half_one, State.cell_setRxOpen, if_pos rfl]
  rfl

theorem State.alerts_of_framed (s : State) (c : CellId) :
    (if (s.cell c).counts.linkErrors < (s.cell c).counts.framed.linkErrors then
      s.linkErrorAt c (s.cell c).counts.framed.linkErrors else s.alerts) =
    if (s.cell c).counts.framing = 0xFFFF then s.alerts else s.linkErrorAt c
      ((s.cell c).counts.crc.toNat + (s.cell c).counts.framing.toNat + 1) := by
  by_cases h : (s.cell c).counts.framing = 0xFFFF
  · simp [PortCounts.linkErrors, PortCounts.framed, h]
  · have hnat : ((s.cell c).counts.framing + 1).toNat = (s.cell c).counts.framing.toNat + 1 := by
      rw [← toNat_satAdd_half_one h, satAdd_half_one, if_neg h]
    have hsum : (s.cell c).counts.framed.linkErrors =
        (s.cell c).counts.crc.toNat + (s.cell c).counts.framing.toNat + 1 := by
      simp only [PortCounts.linkErrors, PortCounts.framed, if_neg h, hnat]
      omega
    rw [if_neg h, hsum, if_pos (by unfold PortCounts.linkErrors; omega)]

/-! ## The commands of a cell link -/

theorem exec_cellFrameReception {s : State} {c : CellId} (h : (s.cell c).cfg.mode ≠ .off) (bs : List Byte) :
    exec (.cellFrameReception c bs) s = .next ((s.setRxOpen c false).receiveCell c bs) := if_neg h

theorem exec_cellOpenFrameDiscard {s : State} {c : CellId} (h : (s.cell c).cfg.mode ≠ .off) (cause : DiscardCause) :
    exec (.cellOpenFrameDiscard c cause) s = .next ((s.setRxOpen c (reopens cause)).countFraming c) := if_neg h

theorem reopens_iff (cause : DiscardCause) : reopens cause = true ↔ cause = .startDelimiter := by
  cases cause <;> simp [reopens]

/-- Settles O16: a CRC fault is one count, and LINK_ERROR by the sum it leaves. -/
theorem crcMismatchIsCounted : Obligations.CrcMismatchIsCounted := by
  refine fun s c bytes cause => ⟨fun hoff => ⟨if_pos hoff, if_pos hoff⟩, fun hmode hcrc hfull => ?_⟩
  have hcell := s.cell_setRxOpen c c false
  rw [if_pos rfl] at hcell
  have hreceive : (s.setRxOpen c false).receiveCell c bytes = (s.setRxOpen c false).setFaultCounts c
      { (s.cell c).counts with crc := (s.cell c).counts.crc + 1 } := by
    simp only [State.receiveCell, hcrc, State.countCrc, hcell, satAdd_half_one, if_neg hfull]
  have hnat : ((s.cell c).counts.crc + 1).toNat = (s.cell c).counts.crc.toNat + 1 := by
    rw [← toNat_satAdd_half_one hfull, satAdd_half_one, if_neg hfull]
  have hlt : (s.cell c).counts.linkErrors <
      ({ (s.cell c).counts with crc := (s.cell c).counts.crc + 1 } : PortCounts).linkErrors := by
    simp only [PortCounts.linkErrors, hnat]; omega
  have hsum : ({ (s.cell c).counts with crc := (s.cell c).counts.crc + 1 } : PortCounts).linkErrors =
      (s.cell c).counts.crc.toNat + (s.cell c).counts.framing.toNat + 1 := by
    simp only [PortCounts.linkErrors, hnat]; omega
  obtain ⟨hnew, halerts, hcells, hchanges⟩ := s.faultCounted c false
    { (s.cell c).counts with crc := (s.cell c).counts.crc + 1 }
  rw [if_pos hlt, hsum] at halerts
  exact ⟨_, (exec_cellFrameReception hmode bytes).trans (congrArg _ hreceive), by rw [hnew], by rw [hnew], by rw [hnew],
    by rw [hnew], halerts, hcells, hchanges⟩

/-! ## Framing faults -/

theorem parseTouchdown_eq_none {o : ByteOrder} {p : List Byte}
    (h : p.length < 8 ∨ 16 < (p.getD 7 0).toNat ∨ p.length ≠ 8 + 8 * (p.getD 7 0).toNat) : parseTouchdown o p = none := by
  have hcount : p.getD 7 0 = byteAt p 7 := rfl
  rw [hcount] at h
  unfold parseTouchdown
  by_cases h1 : p.length < 8
  · rw [if_pos h1]
  · by_cases h2 : 16 < (byteAt p 7).toNat
    · rw [if_neg h1, if_pos h2]
    · rw [if_neg h1, if_neg h2, if_pos (by omega)]

theorem parseTester_of_contentFault (o : ByteOrder) {f : OutFrame} (h : contentFault f) :
    parseTester o f.cls f.payload = none := by
  rcases h with ⟨h1, h2⟩ | ⟨hcls, hp⟩ | ⟨hcls, hp⟩
  · rw [parseTester, if_neg h1, if_neg h2]
  · rw [parseTester, if_pos hcls, parseTouchdown_eq_none hp, Option.map_none]
  · rw [parseTester, if_neg (by rw [hcls]; decide), if_pos hcls, parseMarker, if_pos hp, Option.map_none]

/-- Bytes that are no frame, and a whole frame that is no tester frame, are counted as a framing fault. -/
theorem receiveCell_of_fault (s : State) (c : CellId) {bytes : List Byte}
    (h : framingFault bytes ∨ ∃ f : OutFrame, f.payload.length ≤ 1024 ∧ bytes = f.wire ∧ contentFault f) :
    s.receiveCell c bytes = s.countFraming c := by
  rcases h with h | ⟨f, hlen, rfl, hf⟩
  · simp only [State.receiveCell, (checkFrame_framing_iff bytes).2 h]
  · simp only [State.receiveCell, checkFrame_wire hlen, parseTester_of_contentFault _ hf]

/-- Settles O17: a frame given up, and one that is no frame, are the same count of a framing fault. -/
theorem openFrameDiscardIsCounted : Obligations.OpenFrameDiscardIsCounted := by
  refine fun s c cause => ⟨fun hmode => ?_, fun bytes hmode hfault => ?_, ?_⟩
  · obtain ⟨hnew, halerts, hcells, hchanges⟩ := s.faultCounted c (reopens cause) (s.cell c).counts.framed
    rw [s.alerts_of_framed c] at halerts
    exact ⟨_, (exec_cellOpenFrameDiscard hmode cause).trans (congrArg _ (s.countFraming_setRxOpen c _)), by rw [hnew]; rfl,
      by rw [hnew]; exact reopens_iff cause, by rw [hnew], by rw [hnew], halerts, hcells, hchanges⟩
  · obtain ⟨hnew, halerts, hcells, hchanges⟩ := s.faultCounted c false (s.cell c).counts.framed
    rw [s.alerts_of_framed c] at halerts
    exact ⟨_, (exec_cellFrameReception hmode bytes).trans (congrArg _ ((receiveCell_of_fault _ c hfault).trans
      (s.countFraming_setRxOpen c _))), hnew, halerts, hcells, hchanges⟩
  · refine ⟨_, rfl, ?_, reopens_iff cause, s.setRx_changes _⟩
    rw [← satAdd_half_one]
    rfl

/-! ## Duplicates and overruns (R8, R10) -/

theorem length_touchdown_sentIn (o : ByteOrder) (td : Touchdown) :
    (td.sentIn o).length = 8 + 8 * td.entries.length := by
  rw [← length_entries_sentIn o]
  cases o <;> simp [Touchdown.sentIn, inOrder, wordBytes, halfBytes] <;> omega

/-- A touchdown's frame is offered to the FIFO as it was sent. -/
theorem receiveCell_touchdownWire (s : State) (c : CellId) (route : Byte) {td : Touchdown} (h : td.entries.length ≤ 16) :
    s.receiveCell c (touchdownWire (s.cell c).cfg.order route td) = s.offer c route (.touchdown td) := by
  have hcheck : checkFrame (touchdownWire (s.cell c).cfg.order route td) = .good 0x01 route (td.sentIn _) :=
    checkFrame_wire (f := ⟨0x01, route, td.sentIn _⟩) (by rw [length_touchdown_sentIn]; omega)
  have hparse := (testerPayloadIsReadBack (s.cell c).cfg.order td ⟨0, ⟨0, 0⟩, 0⟩).1 h
  simp only [State.receiveCell, hcheck, hparse]

theorem receiveCell_markerWire (s : State) (c : CellId) (route : Byte) (m : Marker) :
    s.receiveCell c (markerWire (s.cell c).cfg.order route m) = s.offer c route (.marker m) := by
  have hlen : (m.sentIn (s.cell c).cfg.order).length = 7 := by cases (s.cell c).cfg.order <;> rfl
  have hcheck : checkFrame (markerWire (s.cell c).cfg.order route m) = .good 0x02 route (m.sentIn _) :=
    checkFrame_wire (f := ⟨0x02, route, m.sentIn _⟩) (by rw [hlen]; omega)
  have hparse : parseTester (s.cell c).cfg.order 0x02 (m.sentIn (s.cell c).cfg.order) = some (.marker m) := by
    rw [parseTester, if_neg (by decide), if_pos rfl, parseMarker_sentIn, Option.map_some]
  simp only [State.receiveCell, hcheck, hparse]

/-- A tester frame received on an enabled port is offered to its FIFO. -/
theorem exec_touchdownWire {s : State} {c : CellId} (hmode : (s.cell c).cfg.mode ≠ .off) (route : Byte) {td : Touchdown}
    (h : td.entries.length ≤ 16) :
    exec (.cellFrameReception c (touchdownWire (s.cell c).cfg.order route td)) s =
      .next ((s.setRxOpen c false).offer c route (.touchdown td)) := by
  rw [exec_cellFrameReception hmode, ← receiveCell_touchdownWire _ c route h, State.cell_setRxOpen, if_pos rfl]

theorem exec_markerWire {s : State} {c : CellId} (hmode : (s.cell c).cfg.mode ≠ .off) (route : Byte) (m : Marker) :
    exec (.cellFrameReception c (markerWire (s.cell c).cfg.order route m)) s =
      .next ((s.setRxOpen c false).offer c route (.marker m)) := by
  rw [exec_cellFrameReception hmode, ← receiveCell_markerWire _ c route m, State.cell_setRxOpen, if_pos rfl]

theorem offer_overrun {s : State} {c : CellId} (h : 16 ≤ (s.cell c).fifo.length) (route : Byte) (f : TesterFrame) :
    s.offer c route f =
      (s.modCell c fun k => { k with counts := { k.counts with overrun := satAdd k.counts.overrun 1 } }).raise
        { kind := .fifoOverrun, cell := some c } := if_pos h

theorem offer_marker {s : State} {c : CellId} (h : (s.cell c).fifo.length < 16) (route : Byte) (m : Marker) :
    s.offer c route (.marker m) = s.pushFifo c (.marker route m) := if_neg (Nat.not_le.2 h)

theorem offer_touchdown {s : State} {c : CellId} (h : (s.cell c).fifo.length < 16) (route : Byte) (td : Touchdown) :
    s.offer c route (.touchdown td) =
      if (s.cell c).tracker = some td.seq then
        s.modCell c fun k => { k with counts := { k.counts with duplicate := satAdd k.counts.duplicate 1 } }
      else s.admitTouchdown c route td := if_neg (Nat.not_le.2 h)

/-- Settles O19: a duplicate is one count; an overrun is one count and FIFO_OVERRUN, whatever the frame. -/
theorem duplicatesAndOverrunsAreDiscarded : Obligations.DuplicatesAndOverrunsAreDiscarded := by
  intro s c route td m hmode hentries
  have hopen := s.setRxOpen_changes c false
  have hcell := s.cell_setRxOpen c c false
  rw [if_pos rfl] at hcell
  refine ⟨fun hroom hdup => ?_, fun bytes hbytes hfull => ?_⟩
  · refine ⟨_, exec_touchdownWire hmode route hentries, ?_⟩
    rw [offer_touchdown (by rw [hcell]; exact hroom), if_pos (by rw [hcell]; exact hdup)]
    exact ⟨by rw [State.cell_modCell_same, hcell]; rfl,
      (s.modCell_cellsKeptBut c _).trans (State.modCell_cellsKeptBut _ c _), hopen.trans (State.modCell_changes _ c _)⟩
  · have hoffer : ∃ f, exec (.cellFrameReception c bytes) s = .next ((s.setRxOpen c false).offer c route f) := by
      rcases List.mem_pair.1 hbytes with rfl | rfl
      · exact ⟨_, exec_touchdownWire hmode route hentries⟩
      · exact ⟨_, exec_markerWire hmode route m⟩
    obtain ⟨f, hexec⟩ := hoffer
    refine ⟨_, hexec, ?_⟩
    rw [offer_overrun (by rw [hcell]; exact hfull.ge)]
    have hcount := hopen.trans (State.modCell_changes (s.setRxOpen c false) c
      fun k => { k with counts := { k.counts with overrun := satAdd k.counts.overrun 1 } })
    refine ⟨?_, ?_, ?_, ?_, State.alerts_raise_congr hcount.alerts hcount.time _,
      ((s.modCell_cellsKeptBut c _).trans (State.modCell_cellsKeptBut _ c _)).trans (State.raise_cellsKeptBut _ rfl),
      hcount.seq (State.raise_changes _ _)⟩
    all_goals rw [State.cell_raise, State.cell_modCell_same, hcell]
    rfl

/-! ## Admission (R7, R9, R11 to R13) -/

theorem State.cell_emit (s : State) (o : Sent) (c : CellId) : (s.emit o).cell c = s.cell c := rfl

theorem State.cell_setFlow (s : State) (c d : CellId) (f : Flow) :
    (s.setFlow c f).cell d = { s.cell d with flow := if d = c then f else (s.cell d).flow } := by
  by_cases h : (s.cell c).flow = f
  · rw [State.setFlow, if_pos h]
    by_cases hd : d = c
    · subst hd; rw [if_pos rfl, ← h]
    · rw [if_neg hd]
  · have hmod : (s.modCell c fun k => { k with flow := f }).cell d =
        { s.cell d with flow := if d = c then f else (s.cell d).flow } := by
      rw [State.cell_modCell]
      by_cases hd : d = c
      · subst hd; simp
      · simp [hd]
    rw [State.setFlow, if_neg h]
    dsimp only
    split <;> exact hmod

theorem State.sent_setFlow (s : State) (c : CellId) (f : Flow) : (s.setFlow c f).sent =
    if (s.cell c).flow ≠ f ∧ (s.cell c).cfg.mode ≠ .off then s.sent ++ [.flow c f] else s.sent := by
  unfold State.setFlow
  by_cases h : (s.cell c).flow = f
  · simp [h]
  · by_cases hm : (s.cell c).cfg.mode = .off
    · simp [h, hm, State.modCell, State.setCell]
    · simp [h, hm, State.modCell, State.setCell, State.emit]

theorem State.setFlow_cellsKeptBut (s : State) (c : CellId) (f : Flow) : s.cellsKeptBut (s.setFlow c f) c :=
  fun d hd => by rw [State.cell_setFlow, if_neg hd]

/-- An admission brings a GO port to 12 frames (R12). -/
def Cell.fills (k : Cell) : Bool := decide (k.flow = .go ∧ k.fifo.length = 11)

/-- The flow state after an admission (R12). -/
def Cell.flowAfterPush (k : Cell) : Flow := if k.fills then .hold else k.flow

theorem State.pushFifo_eq (s : State) (c : CellId) (e : FifoEntry) : s.pushFifo c e =
    if (s.cell c).fills then (s.modCell c fun k => { k with fifo := k.fifo ++ [e] }).setFlow c .hold
    else s.modCell c fun k => { k with fifo := k.fifo ++ [e] } := by
  unfold State.pushFifo Cell.fills
  dsimp only
  rw [State.cell_modCell_same]
  simp [Config.holdAt]

theorem State.cell_pushFifo (s : State) (c : CellId) (e : FifoEntry) : (s.pushFifo c e).cell c = { s.cell c with
    fifo := (s.cell c).fifo ++ [e], flow := (s.cell c).flowAfterPush } := by
  rw [State.pushFifo_eq, Cell.flowAfterPush]
  split
  · rw [State.cell_setFlow, State.cell_modCell_same, if_pos rfl]
  · rw [State.cell_modCell_same]

theorem State.sent_pushFifo {s : State} {c : CellId} (hmode : (s.cell c).cfg.mode ≠ .off) (e : FifoEntry) :
    (s.pushFifo c e).sent = if (s.cell c).fills then s.sent ++ [.flow c .hold] else s.sent := by
  have hsent : ∀ f, (s.modCell c f).sent = s.sent := fun f => (s.modCell_changes c f).sent
  rw [State.pushFifo_eq]
  by_cases h : (s.cell c).fills = true
  · have hgo : (s.cell c).flow = .go := by simpa using (of_decide_eq_true h).1
    rw [if_pos h, if_pos h, State.sent_setFlow, State.cell_modCell_same, hsent]
    simp [hgo, hmode]
  · rw [if_neg h, if_neg h, hsent]

theorem State.pushFifo_cellsKeptBut (s : State) (c : CellId) (e : FifoEntry) : s.cellsKeptBut (s.pushFifo c e) c := by
  rw [State.pushFifo_eq]
  split
  · exact (s.modCell_cellsKeptBut c _).trans (State.setFlow_cellsKeptBut _ c _)
  · exact s.modCell_cellsKeptBut c _

theorem State.flow_and_sent_of_push {s t : State} {c : CellId} (hflow : (t.cell c).flow = (s.cell c).flowAfterPush)
    (hsent : t.sent = if (s.cell c).fills then s.sent ++ [.flow c .hold] else s.sent) :
    if (s.cell c).flow = .go ∧ (s.cell c).fifo.length = 11 then
      (t.cell c).flow = .hold ∧ t.sent = s.sent ++ [.flow c .hold]
    else (t.cell c).flow = (s.cell c).flow ∧ t.sent = s.sent := by
  by_cases h : (s.cell c).flow = .go ∧ (s.cell c).fifo.length = 11
  · have hf : (s.cell c).fills = true := decide_eq_true h
    rw [Cell.flowAfterPush, if_pos hf] at hflow
    rw [if_pos hf] at hsent
    rw [if_pos h]
    exact ⟨hflow, hsent⟩
  · have hf : ¬ (s.cell c).fills = true := fun hf => h (of_decide_eq_true hf)
    rw [Cell.flowAfterPush, if_neg hf] at hflow
    rw [if_neg hf] at hsent
    rw [if_neg h]
    exact ⟨hflow, hsent⟩

theorem gapOf_eq {tracker : Option Half} {seq gap : Half} (hlast : ∀ last, tracker = some last → gap = seq - last - 1)
    (hnone : tracker = none → gap = 0) : gapOf tracker seq = gap := by
  cases tracker with
  | none => exact (hnone rfl).symm
  | some last => exact (hlast last rfl).symm

section

variable (s : State) (c : CellId) (route : Byte) (td : Touchdown)

/-- The gap an admission finds (R9). -/
def State.gapHere : Half := gapOf (s.cell c).tracker td.seq

/-- The state of an admission before its gap is counted. -/
def State.tracked : State :=
  (s.pushFifo c (.touchdown route td (s.gapHere c td))).modCell c fun k => { k with tracker := some td.seq }

theorem State.admitTouchdown_eq : s.admitTouchdown c route td =
    if s.gapHere c td = 0 then s.tracked c route td
    else ((s.tracked c route td).modCell c fun k =>
      { k with counts := { k.counts with gap := satAdd k.counts.gap (s.gapHere c td).toNat } }).raise
        { kind := .seqGap, cell := some c, value := some (s.gapHere c td) } := rfl

theorem State.tracked_changes : s.changesOnly (s.tracked c route td) [.cells, .sent] :=
  (s.pushFifo_changes c _).trans (State.modCell_changes _ c _).mono

theorem State.cell_tracked : (s.tracked c route td).cell c = { s.cell c with
    fifo := (s.cell c).fifo ++ [.touchdown route td (s.gapHere c td)], flow := (s.cell c).flowAfterPush
    tracker := some td.seq } := by
  rw [State.tracked, State.cell_modCell_same, State.cell_pushFifo]

theorem satAdd_zero {w : Nat} (a : BitVec w) : satAdd a 0 = a := by
  refine BitVec.eq_of_toNat_eq ?_
  have h := a.isLt
  rw [satAdd, BitVec.toNat_ofNat, Nat.add_zero, min_eq_left (by omega), Nat.mod_eq_of_lt h]

theorem State.cell_admitTouchdown : (s.admitTouchdown c route td).cell c = { s.cell c with
    fifo := (s.cell c).fifo ++ [.touchdown route td (s.gapHere c td)], flow := (s.cell c).flowAfterPush
    tracker := some td.seq
    counts := { (s.cell c).counts with gap := satAdd (s.cell c).counts.gap (s.gapHere c td).toNat }
    stopLatch := ((s.admitTouchdown c route td).cell c).stopLatch } := by
  rw [State.admitTouchdown_eq]
  by_cases h : s.gapHere c td = 0
  · rw [if_pos h, State.cell_tracked, h]
    exact congrArg (fun g => ({ s.cell c with
      fifo := (s.cell c).fifo ++ [.touchdown route td 0], flow := (s.cell c).flowAfterPush, tracker := some td.seq,
      counts := { (s.cell c).counts with gap := g } } : Cell)) (satAdd_zero (s.cell c).counts.gap).symm
  · rw [if_neg h, State.cell_raise, State.cell_modCell_same, State.cell_tracked]

theorem State.alerts_admitTouchdown : (s.admitTouchdown c route td).alerts =
    if s.gapHere c td = 0 then s.alerts
    else (s.raise { kind := .seqGap, cell := some c, value := some (s.gapHere c td) }).alerts := by
  have h := s.tracked_changes c route td
  rw [State.admitTouchdown_eq]
  split
  · exact h.alerts
  · exact State.alerts_raise_congr ((State.modCell_changes _ c _).alerts.trans h.alerts)
      ((State.modCell_changes _ c _).time.trans h.time) _

theorem State.sent_admitTouchdown (hmode : (s.cell c).cfg.mode ≠ .off) : (s.admitTouchdown c route td).sent =
    if (s.cell c).fills then s.sent ++ [.flow c .hold] else s.sent := by
  have h : (s.tracked c route td).sent = if (s.cell c).fills then s.sent ++ [.flow c .hold] else s.sent :=
    (State.modCell_changes _ c _).sent.trans (State.sent_pushFifo hmode _)
  rw [State.admitTouchdown_eq]
  split
  · exact h
  · exact ((State.modCell_changes _ c _).seq (State.raise_changes _ _) (ds := [.cells, .alerts])).sent.trans h

theorem State.admitTouchdown_cellsKeptBut : s.cellsKeptBut (s.admitTouchdown c route td) c := by
  have h : s.cellsKeptBut (s.tracked c route td) c :=
    (s.pushFifo_cellsKeptBut c _).trans (State.modCell_cellsKeptBut _ c _)
  rw [State.admitTouchdown_eq]
  split
  · exact h
  · exact (h.trans (State.modCell_cellsKeptBut _ c _)).trans (State.raise_cellsKeptBut _ rfl)

theorem State.admitTouchdown_changes : s.changesOnly (s.admitTouchdown c route td) [.cells, .alerts, .sent] := by
  have h := s.tracked_changes c route td
  rw [State.admitTouchdown_eq]
  split
  · exact h.mono
  · exact h.seq ((State.modCell_changes _ c _).seq (State.raise_changes _ _) (ds := [.cells, .alerts]))

end

/-- Settles O18: what the admission of a touchdown, and of a marker, leaves of its cell, the alerts and the outputs. -/
theorem touchdownIsAdmitted : Obligations.TouchdownIsAdmitted := by
  refine ⟨fun s c route td gap hmode hentries hroom hnew hlast hnone => ?_, fun s c route m hmode hroom => ?_⟩
  · obtain hgap := gapOf_eq hlast hnone
    have hopen := s.setRxOpen_changes c false
    have hcell := s.cell_setRxOpen c c false
    rw [if_pos rfl] at hcell
    have hgap' : (s.setRxOpen c false).gapHere c td = gap := by rw [State.gapHere, hcell]; exact hgap
    have hadmit : (s.setRxOpen c false).offer c route (.touchdown td) = (s.setRxOpen c false).admitTouchdown c route td := by
      rw [offer_touchdown (by rw [hcell]; exact hroom), if_neg (by rw [hcell]; exact hnew)]
    have hafter := (s.setRxOpen c false).cell_admitTouchdown c route td
    rw [hcell, hgap'] at hafter
    have halerts := (s.setRxOpen c false).alerts_admitTouchdown c route td
    rw [hgap', State.alerts_raise_congr hopen.alerts hopen.time, hopen.alerts] at halerts
    have hsent := (s.setRxOpen c false).sent_admitTouchdown c route td (by rw [hcell]; exact hmode)
    rw [hcell, hopen.sent] at hsent
    refine ⟨_, (exec_touchdownWire hmode route hentries).trans (congrArg _ hadmit), by rw [hafter], by rw [hafter],
      by rw [hafter]; rfl, by rw [hafter], halerts, State.flow_and_sent_of_push (by rw [hafter]; rfl) hsent, ?_,
      (s.modCell_cellsKeptBut c _).trans (State.admitTouchdown_cellsKeptBut _ c route td),
      hopen.seq (State.admitTouchdown_changes _ c route td)⟩
    generalize (s.setRxOpen c false).admitTouchdown c route td = t at hafter
    rw [hafter]
  · have hopen := s.setRxOpen_changes c false
    have hcell := s.cell_setRxOpen c c false
    rw [if_pos rfl] at hcell
    have hafter := (s.setRxOpen c false).cell_pushFifo c (.marker route m)
    rw [hcell] at hafter
    have hsent := State.sent_pushFifo (s := s.setRxOpen c false) (c := c) (by rw [hcell]; exact hmode) (.marker route m)
    rw [hcell, hopen.sent] at hsent
    refine ⟨_, (exec_markerWire hmode route m).trans (congrArg _ (offer_marker (by rw [hcell]; exact hroom) route m)), ?_,
      State.flow_and_sent_of_push (by rw [hafter]; rfl) hsent,
      (s.modCell_cellsKeptBut c _).trans (State.pushFifo_cellsKeptBut _ c _), hopen.seq (State.pushFifo_changes _ c _)⟩
    rw [hafter]

end Sys2Proof.Machine

/-! SUPPORT. Requests that read, and those that write one small thing (R27, R32, R180 to R191). -/

namespace Sys2Proof.Machine

set_option Elab.async false

/-! ## What a served request comes to -/

theorem State.respond_eq (u : State) (name : Byte) (rq : Request) (p : Reply) :
    u.respond name rq p = u.withHall { u.hall with resp := u.hall.resp ++ u.repliesTo name rq p } := by
  unfold State.respond State.repliesTo
  split
  · rw [List.append_nil]; rfl
  · rfl

theorem serve_sized {s u : State} {name : Byte} {rq : Request} {p : Reply} {n : Nat}
    {act : List Byte → State → State × Reply} (ht : s.takesNow name rq) (hlen : rq.args.length = n)
    (hact : act rq.args s.requestTaken = (u, p)) :
    serve name rq (sized n rq act) s = .next (u.respond name rq p) := by
  rw [sized_of_length hlen]
  exact serve_of_takesNow ht hact

theorem serve_sized_onlyReplies {s : State} {name : Byte} {rq : Request} {p : Reply} {n : Nat}
    {act : List Byte → State → State × Reply} (ht : s.takesNow name rq) (hlen : rq.args.length = n)
    (hact : act rq.args s.requestTaken = (s.requestTaken, p)) :
    serve name rq (sized n rq act) s = .next (s.withHall (s.answered name rq p)) := by
  rw [serve_sized ht hlen hact, State.respond_requestTaken]

/-! ## Selectors -/

@[simp] theorem cellOfByte_natByte (c : CellId) : cellOfByte (natByte c.val) = some c := by
  have hbyte : (natByte c.val).toNat = c.val := toNat_natByte (by omega)
  simp [cellOfByte, hbyte]

theorem onCell_of_some {b : Byte} {c : CellId} (h : cellOfByte b = some c) (act : CellId → State → State × Reply) :
    onCell b act = act c := by
  funext s
  simp [onCell, h]

theorem onCell_natByte (c : CellId) (act : CellId → State → State × Reply) : onCell (natByte c.val) act = act c :=
  onCell_of_some (cellOfByte_natByte c) act

theorem onSlot_of_some {b : Byte} {i : SlotId} (h : slotOfByte b = some i) (act : SlotId → State → State × Reply) :
    onSlot b act = act i := by
  funext s
  simp [onSlot, h]

theorem onBank_of_some {b : Byte} {lb : BankId} (h : bankOfByte b = some lb) (act : BankId → State → State × Reply) :
    onBank b act = act lb := by
  funext s
  simp [onBank, h]

@[simp] theorem State.cell_requestTaken (s : State) (c : CellId) : s.requestTaken.cell c = s.cell c := rfl

/-! ## Requests that read (R180, R181, R182, R184, R185, R54) -/

theorem bankReadOf_part {s : State} {lb : BankId} {a p : List Byte} (h : (s.bank lb).part a = some p) :
    bankReadOf a lb s = (s, okReply ((s.bank lb).headerBytes ++ p)) := by
  simp only [bankReadOf, h]

theorem byteAt_of_head {a : List Byte} {b : Byte} (h : a.head? = some b) : byteAt a 0 = b := by
  obtain ⟨rest, rfl⟩ := List.head?_eq_some_iff.1 h
  rfl

/-- Settles O43: each reading request answers from the state it is taken in. -/
theorem readsChangeNothing : Obligations.ReadsChangeNothing := by
  refine fun s rq => ⟨fun ht ha => ?_, fun ht ha => ?_, fun ht ha => ?_, fun b i ht ha hi => ?_, fun b c ht ha hc => ?_,
    fun b lb p ht hlen hb hlb hp => ?_⟩
  · exact serve_sized_onlyReplies (act := fun _ s => (s, okReply s.identBytes)) ht (by rw [ha]; rfl) rfl
  · exact serve_sized_onlyReplies (act := fun _ s => (s, okReply (wordBytes s.time))) ht (by rw [ha]; rfl) rfl
  · exact serve_sized_onlyReplies (act := fun _ s => (s, okReply s.tableBytes)) ht (by rw [ha]; rfl) rfl
  · refine serve_sized_onlyReplies (act := fun a => onSlot (byteAt a 0) fun i s => (s, okReply (s.readBytes i))) ht
      (by rw [ha]; rfl) ?_
    rw [ha, byteAt_cons_zero, onSlot_of_some hi]
    rfl
  · refine serve_sized_onlyReplies
      (act := fun a => onCell (byteAt a 0) fun c => withOption (byteAt a 1) fun o => cellReadOn o c) ht
      (by rw [ha]; rfl) ?_
    rw [ha, byteAt_cons_zero, onCell_of_some hc]
    rfl
  · refine serve_sized_onlyReplies (act := fun a => onBank (byteAt a 0) (bankReadOf a)) ht hlen ?_
    rw [byteAt_of_head hb, onBank_of_some hlb, bankReadOf_part (by simpa using hp), State.bank_requestTaken]

/-! ## TIME_SET, a clearing CELL_READ and STOP_CLEAR (R16, R27, R32) -/

/-- Settles O45: each write is one block update between the take and the reply. -/
theorem smallWritesTouchWhatTheyName : Obligations.SmallWritesTouchWhatTheyName := by
  refine fun s rq c => ⟨fun w ht ha => ?_, fun ht ha => ?_, fun ht ha => ?_⟩
  · have hexec : exec (.timeSet rq) s = .next ((s.requestTaken.withTime w).respond 0x02 rq (okReply (wordBytes w))) := by
      refine serve_sized (act := fun a s => (s.withTime (wordAt a 0), okReply (wordBytes (wordAt a 0)))) ht
        (by rw [ha]; rfl) ?_
      rw [ha, wordAt_wordBytes]
    rw [hexec, State.respond_eq]
    rfl
  · have hc := s.requestTaken.modCell_changes c fun k => { k with counts := .zero }
    have hexec : exec (.cellRead rq) s = .next ((s.requestTaken.clearCounts c).respond 0x11 rq
        (okReply ((s.cell c).readBytes c))) := by
      refine serve_sized (act := fun a => onCell (byteAt a 0) fun c => withOption (byteAt a 1) fun o => cellReadOn o c) ht
        (by rw [ha]; rfl) ?_
      rw [ha, byteAt_cons_zero, onCell_natByte]
      rfl
    refine ⟨_, hexec, ?_, State.hall_respond hc 0x11 rq _, ?_, State.served_changes hc 0x11 rq _⟩
    · rw [(State.respond_changes _ 0x11 rq _).cell, State.clearCounts, State.cell_modCell_same, State.cell_requestTaken]
      rfl
    · exact (s.requestTaken.modCell_cellsKeptBut c _).trans ((State.respond_changes _ 0x11 rq _).cellsKeptBut c)
  · have hc := s.requestTaken.modCell_changes c fun k => { k with stopLatch := false }
    have hexec : exec (.stopClear rq) s = .next ((s.requestTaken.modCell c fun k =>
        { k with stopLatch := false }).respond 0x13 rq (okReply [boolByte (s.cell c).stopLatch])) := by
      refine serve_sized (act := fun a => onCell (byteAt a 0) fun c s =>
        (s.modCell c fun k => { k with stopLatch := false }, okReply [boolByte (s.cell c).stopLatch])) ht
        (by rw [ha]; rfl) ?_
      rw [ha, byteAt_cons_zero, onCell_natByte]
      rfl
    have hcell : (((s.requestTaken.modCell c fun k => { k with stopLatch := false }).respond 0x13 rq
        (okReply [boolByte (s.cell c).stopLatch])).cell c) = { s.cell c with stopLatch := false } := by
      rw [(State.respond_changes _ 0x13 rq _).cell, State.cell_modCell_same, State.cell_requestTaken]
    refine ⟨_, hexec, hcell, ?_, State.hall_respond hc 0x13 rq _, ?_, State.served_changes hc 0x13 rq _⟩
    · rw [State.stopLine_running, hcell]
    · exact (s.requestTaken.modCell_cellsKeptBut c _).trans ((State.respond_changes _ 0x13 rq _).cellsKeptBut c)

/-! ## CELL_SET (R1, R2, R182) -/

theorem masked_eq_some {α : Type} {m : Byte} {k : Nat} {old v : α} {code : Option α}
    (h : if m.getLsbD k then code = some v else v = old) : masked m k old code = some v := by
  unfold masked maskBit
  cases hm : m.getLsbD k with
  | true => simpa [hm] using h
  | false => simpa [hm, eq_comm] using h

theorem masked_eq_none {α : Type} {m : Byte} {k : Nat} (old : α) {code : Option α} (hm : m.getLsbD k = true)
    (h : code = none) : masked m k old code = none := by
  simp [masked, maskBit, hm, h]

theorem State.configure_changes (s : State) (c : CellId) (g : CellConfig) :
    s.changesOnly (s.configure c g) [.cells, .sent] := by
  have h := s.modCell_changes c fun k => { k with cfg := g }
  unfold State.configure
  dsimp only
  split
  · exact h.mono
  · split
    · exact (h.trans (State.modCell_changes _ c _)).mono
    · split
      · exact h.seq (State.emit_changes _ _)
      · exact h.mono

theorem State.configure_cellsKeptBut (s : State) (c : CellId) (g : CellConfig) : s.cellsKeptBut (s.configure c g) c := by
  have h := s.modCell_cellsKeptBut c fun k => { k with cfg := g }
  unfold State.configure
  dsimp only
  split
  · exact h
  · split
    · exact h.trans (State.modCell_cellsKeptBut _ c _)
    · split
      · exact h.trans ((State.emit_changes _ _).cellsKeptBut c)
      · exact h

/-- A cell after its configuration is stored: a change to OFF resets the tracker and abandons an open frame (R2, R3). -/
theorem State.cell_configure (s : State) (c : CellId) (g : CellConfig) : (s.configure c g).cell c = { s.cell c with
    cfg := g
    tracker := if g.mode = .off ∧ (s.cell c).cfg.mode ≠ .off then none else (s.cell c).tracker
    rxOpen := if g.mode = .off ∧ (s.cell c).cfg.mode ≠ .off then false else (s.cell c).rxOpen } := by
  unfold State.configure
  dsimp only
  by_cases hsame : (s.cell c).cfg.mode = g.mode
  · have hnot : ¬ (g.mode = .off ∧ (s.cell c).cfg.mode ≠ .off) := fun h => h.2 (hsame.trans h.1)
    rw [if_pos hsame, if_neg hnot, if_neg hnot, State.cell_modCell_same]
  · rw [if_neg hsame]
    by_cases hoff : g.mode = .off
    · have hto : g.mode = .off ∧ (s.cell c).cfg.mode ≠ .off := ⟨hoff, fun h => hsame (h.trans hoff.symm)⟩
      rw [if_pos hoff, if_pos hto, if_pos hto, State.cell_modCell_same, State.cell_modCell_same]
    · have hnot : ¬ (g.mode = .off ∧ (s.cell c).cfg.mode ≠ .off) := fun h => hoff h.1
      rw [if_neg hoff, if_neg hnot, if_neg hnot]
      split
      · rw [State.cell_emit, State.cell_modCell_same]
      · rw [State.cell_modCell_same]

theorem State.sent_configure (s : State) (c : CellId) (g : CellConfig) : (s.configure c g).sent = s.sent ++
    (if (s.cell c).cfg.mode = .off ∧ g.mode ≠ .off then [.flow c (s.cell c).flow] else []) := by
  have h : ∀ f, (s.modCell c f).sent = s.sent := fun f => (s.modCell_changes c f).sent
  unfold State.configure
  dsimp only
  by_cases hsame : (s.cell c).cfg.mode = g.mode
  · have hnot : ¬ ((s.cell c).cfg.mode = .off ∧ g.mode ≠ .off) := fun hn => hn.2 (hsame.symm.trans hn.1)
    rw [if_pos hsame, if_neg hnot, List.append_nil, h]
  · rw [if_neg hsame]
    by_cases hoff : g.mode = .off
    · have hnot : ¬ ((s.cell c).cfg.mode = .off ∧ g.mode ≠ .off) := fun hn => hn.2 hoff
      rw [if_pos hoff, if_neg hnot, List.append_nil, (State.modCell_changes _ c _).sent, h]
    · by_cases hfrom : (s.cell c).cfg.mode = .off
      · rw [if_neg hoff, if_pos hfrom, if_pos ⟨hfrom, hoff⟩]
        exact congrArg (· ++ _) (h _)
      · have hnot : ¬ ((s.cell c).cfg.mode = .off ∧ g.mode ≠ .off) := fun hn => hfrom hn.1
        rw [if_neg hoff, if_neg hfrom, if_neg hnot, List.append_nil, h]

theorem exec_cellSet {s : State} {rq : Request} {c : CellId} {rest : List Byte} (hargs : rq.args = natByte c.val :: rest)
    (hlen : rest.length = 8) : exec (.cellSet rq) s = serve 0x10 rq (cellSetOn rq.args c) s := by
  show serve 0x10 rq (sized 9 rq fun a => onCell (byteAt a 0) (cellSetOn a)) s = _
  rw [sized_of_length (by simp [hargs, hlen])]
  have hcell : onCell (byteAt rq.args 0) (cellSetOn rq.args) = cellSetOn rq.args c := by
    rw [hargs, byteAt_cons_zero, onCell_natByte]
  rw [hcell]

theorem cellSetOn_of_some {s : State} {c : CellId} {a : List Byte} {g : CellConfig}
    (h : (s.cell c).cfg.update a = some g) :
    cellSetOn a c s = (s.configure c g, okReply (natByte c.val :: g.bytes)) := by
  simp only [cellSetOn, h]

theorem cellSetOn_of_none {s : State} {c : CellId} {a : List Byte} (h : (s.cell c).cfg.update a = none) :
    cellSetOn a c s = decline .badArgument s := by
  simp only [cellSetOn, h]

/-- Settles O44: the configuration is stored whole, or one bad code refuses it. -/
theorem cellSetStoresTheSettings : Obligations.CellSetStoresTheSettings := by
  intro s rq c m b2 b3 b4 b5 b6 b7 b8 mode order lp up ht hargs
  have hexec := exec_cellSet (s := s) hargs rfl
  refine ⟨fun hmode horder hlp hup => ?_, fun hbad => ?_⟩
  · have hupdate : (s.requestTaken.cell c).cfg.update rq.args = some (
        { mode := mode, order := order
          recipe := if maskBit m 2 then clampFin 7 b4.toNat else (s.cell c).cfg.recipe
          grace := if maskBit m 3 then b5 else (s.cell c).cfg.grace
          loadPol := lp, unloadPol := up
          filter := if maskBit m 6 then filterOfByte b8 else (s.cell c).cfg.filter }) := by
      rw [hargs, State.cell_requestTaken, CellConfig.update]
      simp only [byteAt_cons_zero, byteAt_cons_succ, masked_eq_some hmode, masked_eq_some horder, masked_eq_some hlp,
        masked_eq_some hup] <;> rfl
    have hc := s.requestTaken.configure_changes c
    generalize hg : (CellConfig.mk mode order (if maskBit m 2 then clampFin 7 b4.toNat else (s.cell c).cfg.recipe)
      (if maskBit m 3 then b5 else (s.cell c).cfg.grace) lp up
      (if maskBit m 6 then filterOfByte b8 else (s.cell c).cfg.filter)) = g at hupdate
    have hcell := s.requestTaken.cell_configure c g
    have hgmode : g.mode = mode := by rw [← hg]
    have hcell' : (((s.requestTaken.configure c g).respond 0x10 rq (okReply (natByte c.val :: g.bytes))).cell c) = _ :=
      ((State.respond_changes _ 0x10 rq _).cell c).trans hcell
    refine ⟨_, g, hexec.trans (serve_of_takesNow ht (cellSetOn_of_some hupdate)), by rw [hcell'], hgmode, by rw [← hg],
      by rw [← hg], by rw [← hg], ?_, by rw [← hg]; rfl, by rw [← hg]; rfl, by rw [hcell', ← hgmode]; rfl, by rw [hcell']; rfl,
      by rw [hcell']; rfl, by rw [hcell']; rfl, by rw [hcell']; rfl, ?_, State.hall_respond (hc g) 0x10 rq _, ?_,
      State.served_changes (hc g) 0x10 rq _⟩
    · rw [← hg]
      show Fin.val (if maskBit m 2 then clampFin 7 b4.toNat else (s.cell c).cfg.recipe) = _
      unfold maskBit
      split <;> rfl
    · rw [(State.respond_changes _ 0x10 rq _).sent, State.sent_configure, ← hgmode]
      rfl
    · exact (s.requestTaken.configure_cellsKeptBut c g).trans ((State.respond_changes _ 0x10 rq _).cellsKeptBut c)
  · refine hexec.trans (serve_onlyReplies ht (cellSetOn_of_none ?_))
    rw [hargs, State.cell_requestTaken, CellConfig.update]
    simp only [byteAt_cons_zero, byteAt_cons_succ]
    rcases hbad with ⟨hm, hcode⟩ | ⟨hm, hcode⟩ | ⟨hm, hcode⟩ | ⟨hm, hcode⟩
    · rw [masked_eq_none _ hm hcode]
    all_goals
      rw [masked_eq_none _ hm hcode]
      split
      · contradiction
      · rfl

end Sys2Proof.Machine

/-! SUPPORT. The requests about sealing, sending and dumping a record, and about the link (R167, R188 to R191). -/

namespace Sys2Proof.Machine

set_option Elab.async false

/-! ## WAFER_SEAL (R188) -/

theorem exec_waferSeal {rq : Request} {b : Byte} (hargs : rq.args = [b]) (s : State) :
    exec (.waferSeal rq) s = serve 0x43 rq (onSlot b (waferSealBy (requesterOf rq))) s := by
  show serve 0x43 rq (sized 1 rq fun a => onSlot (byteAt a 0) (waferSealBy (requesterOf rq))) s = _
  rw [sized_of_length (by simp [hargs]), hargs, byteAt_cons_zero]

theorem State.sealable_iff {s : State} {q : Fin 4} {i : SlotId} :
    s.sealable q i = true ↔ s.tag q = some i ∧ ∃ r, s.record i = some r ∧ r.isActive = true := by
  unfold State.sealable
  cases s.record i <;> simp

theorem waferSealBy_sealed {s : State} {q : Fin 4} {i : SlotId} {r' : Record} (h : s.sealable q i = true)
    (hr : (s.sealSlot i (some .host)).record i = some r') :
    waferSealBy q i s = ((s.sealSlot i (some .host)).setTag q none, okReply r'.sealBytes) := by
  have hrec : ((s.sealSlot i (some .host)).setTag q none).record i = some r' :=
    ((s.sealSlot i (some .host)).setTag_changes q none).record i |>.trans hr
  rw [waferSealBy, if_pos h]
  simp only [State.sealReply, hrec]

theorem waferSealBy_changed {s : State} {q : Fin 4} {i : SlotId} (h : ¬ s.sealable q i = true) :
    waferSealBy q i s = (s.setTag q none, bareReply .changed) := if_neg h

/-- Settles O57: the seal of the one record the requester's tag is on, or the tag cleared alone. -/
theorem waferSealNeedsTheTag : Obligations.WaferSealNeedsTheTag := by
  refine fun s rq ht => ⟨fun i hargs => ⟨fun r htag hr hstate => ?_, fun hno => ?_⟩, fun b hargs hb => ?_⟩
  · have hr' : s.requestTaken.record i = some r := by simpa using hr
    have ha : r.isActive = true := Record.isActive_iff.2 hstate
    have hsealable : s.requestTaken.sealable (requesterOf rq) i = true :=
      State.sealable_iff.2 ⟨by simpa using htag, r, hr', ha⟩
    obtain ⟨b, hrec⟩ := State.record_sealSlot_same hr' ha (some .host)
    have hseal := s.requestTaken.sealSlot_changes i (some .host)
    have hc := hseal.trans ((s.requestTaken.sealSlot i (some .host)).setTag_changes (requesterOf rq) none).mono
    have hexec : exec (.waferSeal rq) s = _ := (exec_waferSeal hargs s).trans (serve_of_takesNow ht
      (congrFun (onSlot_natByte i _) _ |>.trans (waferSealBy_sealed hsealable hrec)))
    have hresp := State.respond_changes ((s.requestTaken.sealSlot i (some .host)).setTag (requesterOf rq) none) 0x43 rq
      (okReply ((r.judgedAs (some .host) s.requestTaken.time (s.requestTaken.recipeOf r)).withOwed b).sealBytes)
    refine ⟨_, (r.judgedAs (some .host) s.requestTaken.time (s.requestTaken.recipeOf r)).withOwed b, hexec, ?_, rfl, rfl,
      rfl, rfl, rfl, fun q => ?_, ?_, fun hclosing => ?_,
      State.hall_respond hc 0x43 rq _, State.served_changes hc 0x43 rq _⟩
    · rw [hresp.record, ((s.requestTaken.sealSlot i (some .host)).setTag_changes _ none).record, hrec]
    · rw [hresp.tag]
      by_cases hq : q = requesterOf rq
      · rw [hq, State.tag_setTag_same]
        simp
      · rw [State.tag_setTag_other _ _ hq, State.tag_sealSlot hr' ha]
        split
        · simp
        · assumption
    · rw [hresp.tag, State.tag_setTag_same]
    · rw [hresp.cell, ((s.requestTaken.sealSlot i (some .host)).setTag_changes _ none).cell, State.cell_sealSlot hr' ha]
      exact if_pos ⟨hclosing, rfl⟩
  · have hnot : ¬ s.requestTaken.sealable (requesterOf rq) i = true := fun h => by
      obtain ⟨htag, r, hr, ha⟩ := State.sealable_iff.1 h
      rcases hno with hno | hno
      · exact hno htag
      · have := Record.isSealed_iff.2 (hno r (by simpa using hr))
        rw [Record.isSealed_eq_not, ha] at this
        cases this
    have hc := s.requestTaken.setTag_changes (requesterOf rq) none
    refine ⟨_, (exec_waferSeal hargs s).trans (serve_of_takesNow ht
      (congrFun (onSlot_natByte i _) _ |>.trans (waferSealBy_changed hnot))), ?_, fun q hq => ?_,
      State.hall_respond hc 0x43 rq _, State.served_changes hc 0x43 rq _⟩
    · simp
    · simp [State.tag_setTag_other _ _ hq]
  · exact (exec_waferSeal hargs s).trans (serve_onlyReplies ht (congrFun (onSlot_of_above hb _) _))

/-! ## WAFER_SEND (R163, R167, R189) -/

theorem waferSendOf_refused {s : State} {i : SlotId} {r : Record} (h : r.state = .opened ∨ r.state = .closing) :
    waferSendOf i r s = decline .refusedState s :=
  if_pos (by rw [Record.isSealed_eq_not, Record.isActive_iff.2 h]; rfl)

theorem waferSendOf_owed {s : State} {i : SlotId} {r : Record} (h : r.state = .closed ∨ r.state = .exported)
    (ho : i ∈ s.xport.owed) : waferSendOf i r s = (s, okReply [2]) := by
  rw [waferSendOf, if_neg (by rw [Record.isSealed_iff.2 h]; simp), if_pos ho]
  rfl

theorem waferSendOf_sent {s : State} {i : SlotId} {r : Record} (h : r.state = .closed ∨ r.state = .exported)
    (ho : i ∉ s.xport.owed) : waferSendOf i r s = (s.queueFinal i, okReply [(s.xport.finalOutcome i).code]) := by
  rw [waferSendOf, if_neg (by rw [Record.isSealed_iff.2 h]; simp), if_neg ho]

/-! ### Queuing a FINAL, case by case of R163 -/

section

variable {s : State} {i : SlotId}

theorem State.queueFinal_of_present (h : (i, SumKind.final) ∈ s.xport.sumQ) :
    s.queueFinal i = s ∧ s.xport.finalOutcome i = .present := ⟨if_pos h, if_pos h⟩

theorem State.queueFinal_of_room (h : (i, SumKind.final) ∉ s.xport.sumQ) (hroom : s.xport.sumQ.length < 8) :
    s.queueFinal i = s.withXport { s.xport with sumQ := s.xport.sumQ ++ [(i, .final)] } ∧
      s.xport.finalOutcome i = .queued :=
  ⟨(if_neg h).trans (if_pos hroom), (if_neg h).trans (if_pos (.inl hroom))⟩

theorem State.queueFinal_of_progress {front back : List (SlotId × SumKind)} {j : SlotId}
    (h : (i, SumKind.final) ∉ s.xport.sumQ) (hfull : 8 ≤ s.xport.sumQ.length)
    (hq : s.xport.sumQ = front ++ (j, .progress) :: back) (hfront : ∀ e ∈ front, e.2 = .final) :
    s.queueFinal i = s.withXport { s.xport with sumQ := front ++ back ++ [(i, .final)] } ∧
      s.xport.finalOutcome i = .queued := by
  have hany : (s.xport.sumQ.any fun e => e.2 == .progress) = true := by simp [hq]
  have hout : s.xport.finalOutcome i = .queued := (if_neg h).trans (if_pos (.inr hany))
  refine ⟨?_, hout⟩
  rw [← eraseP_progress hq hfront]
  exact (if_neg h).trans ((if_neg (Nat.not_lt.2 hfull)).trans (if_pos hany))

theorem State.queueFinal_of_finals (h : (i, SumKind.final) ∉ s.xport.sumQ) (hfull : 8 ≤ s.xport.sumQ.length)
    (hall : ∀ e ∈ s.xport.sumQ, e.2 = .final) :
    s.queueFinal i = (s.setOwedFlag i true).withXport { s.xport with owed := s.xport.owed ++ [i] } ∧
      s.xport.finalOutcome i = .owed := by
  have hany : ¬ (s.xport.sumQ.any fun e => e.2 == .progress) = true := by
    rw [List.any_eq_true]
    rintro ⟨e, he, hp⟩
    rw [hall e he] at hp
    cases hp
  exact ⟨(if_neg h).trans ((if_neg (Nat.not_lt.2 hfull)).trans (if_neg hany)),
    (if_neg h).trans (if_neg (not_or.2 ⟨Nat.not_lt.2 hfull, hany⟩))⟩

end

/-- Settles O59: the reply names the case of R163 that queuing the FINAL came to. -/
theorem waferSendQueuesTheFinal : Obligations.WaferSendQueuesTheFinal := by
  intro s rq i ht hargs
  refine ⟨fun hr => serve_onRecord_noWafer ht hargs hr _,
    fun r hr hs => serve_onRecord_onlyReplies ht hargs hr (waferSendOf_refused hs), fun r hr hs => ?_⟩
  have hsend : ∀ {t : State} {out : SendOutcome}, i ∉ s.xport.owed →
      s.requestTaken.queueFinal i = t ∧ s.xport.finalOutcome i = out →
      exec (.waferSend rq) s = .next (t.respond 0x46 rq (okReply [out.code])) := fun ho ⟨hq, hout⟩ => by
    rw [← hq, ← hout]
    exact serve_onRecord_of_some ht hargs hr (waferSendOf_sent hs (s := s.requestTaken) ho)
  refine ⟨fun hpresent => ?_, fun hf ho hroom => ?_, fun front j back hf ho hfull hq hfront => ?_,
    fun hf ho hfull hall => ?_⟩
  · by_cases ho : i ∈ s.xport.owed
    · exact serve_onRecord_onlyReplies ht hargs hr (waferSendOf_owed hs (s := s.requestTaken) ho)
    · have hf := State.queueFinal_of_present (s := s.requestTaken) (hpresent.resolve_right ho)
      exact (hsend ho hf).trans (congrArg _ (State.respond_requestTaken s 0x46 rq _))
  · have hc := s.requestTaken.withXport_changes { s.xport with sumQ := s.xport.sumQ ++ [(i, .final)] }
    exact ⟨_, hsend ho (State.queueFinal_of_room (s := s.requestTaken) hf hroom),
      (State.respond_changes _ 0x46 rq _).xport, State.hall_respond hc 0x46 rq _, State.served_changes hc 0x46 rq _⟩
  · have hc := s.requestTaken.withXport_changes { s.xport with sumQ := front ++ back ++ [(i, .final)] }
    exact ⟨_, hsend ho (State.queueFinal_of_progress (s := s.requestTaken) hf hfull hq hfront),
      (State.respond_changes _ 0x46 rq _).xport, State.hall_respond hc 0x46 rq _, State.served_changes hc 0x46 rq _⟩
  · have hflag := s.requestTaken.setOwedFlag_changes i true
    have hx := (s.requestTaken.setOwedFlag i true).withXport_changes { s.xport with owed := s.xport.owed ++ [i] }
    have hc := hflag.seq hx (ds := [.dir, .xport])
    have hresp := State.respond_changes ((s.requestTaken.setOwedFlag i true).withXport
      { s.xport with owed := s.xport.owed ++ [i] }) 0x46 rq (okReply [SendOutcome.owed.code])
    have hrec : ∀ j, (((s.requestTaken.setOwedFlag i true).withXport
        { s.xport with owed := s.xport.owed ++ [i] }).respond 0x46 rq (okReply [SendOutcome.owed.code])).record j =
        if j = i then (s.record i).map (·.withOwed true) else s.record j := fun j => by
      rw [hresp.record, hx.record, State.record_setOwedFlag]
      rfl
    obtain ⟨hexport, hseal⟩ := (s.requestTaken.setOwedFlag_orders i true).trans (hx.orders.trans hresp.orders)
    refine ⟨_, hsend ho (State.queueFinal_of_finals (s := s.requestTaken) hf hfull hall), hresp.xport, ?_,
      fun j hj => ?_, hexport, hseal, State.hall_respond hc 0x46 rq _, State.served_changes hc 0x46 rq _⟩
    · exact (hrec i).trans (by rw [if_pos rfl, hr]; rfl)
    · exact (hrec j).trans (if_neg hj)

/-! ## MAP_SEND and MAP_STOP (R168, R169, R172, R190) -/

theorem mapSendOf_refused {s : State} {i : SlotId} {r : Record} (h : r.frame = none) :
    mapSendOf i r s = decline .refusedState s := if_pos (by rw [h]; rfl)

theorem mapSendOf_holding {s : State} {i : SlotId} {r : Record} {f : FrameId} (h : r.frame = some f) :
    mapSendOf i r s = (s.requestMap i, okReply [s.xport.sendCode i]) := if_neg (by rw [h]; simp)

section

variable {s : State} {i : SlotId}

theorem State.pending_any : (s.xport.mapQ.any fun e => e.1 == i) = true ↔ ∃ e ∈ s.xport.mapQ, e.1 = i := by
  simp [List.any_eq_true]

theorem State.requestMap_of_pending (h : ∃ e ∈ s.xport.mapQ, e.1 = i) :
    s.requestMap i = s ∧ s.xport.sendCode i = 2 := ⟨if_pos (State.pending_any.2 h), if_pos (State.pending_any.2 h)⟩

theorem State.startDump_of_running {d : Dump} (h : s.xport.dump = some d) : s.startDump = s := by
  simp only [State.startDump, h]

theorem State.startDump_of_pending {e : SlotId × Origin} {rest : List (SlotId × Origin)} (hd : s.xport.dump = none)
    (hq : s.xport.mapQ = e :: rest) : s.startDump = s.withXport { s.xport with mapQ := rest, dump := s.dumpFor e } := by
  simp only [State.startDump, hd, hq]

theorem State.dumpFor_of_record {r : Record} {f : FrameId} (hr : s.record i = some r) (hf : r.frame = some f)
    (o : Origin) : s.dumpFor (i, o) = some (newDump i o r f (s.recipeOf r)) := by
  simp only [State.dumpFor, hr, hf, Option.map_some]

theorem State.requestMap_of_idle {r : Record} {f : FrameId} (hr : s.record i = some r) (hf : r.frame = some f)
    (hq : s.xport.mapQ = []) (hd : s.xport.dump = none) :
    s.requestMap i = s.withXport { s.xport with dump := some (newDump i .request r f (s.recipeOf r)) } ∧
      s.xport.sendCode i = 3 := by
  have hno : ¬ (s.xport.mapQ.any fun e => e.1 == i) = true := by simp [hq]
  have hx := s.withXport_changes { s.xport with mapQ := s.xport.mapQ ++ [(i, .request)] }
  refine ⟨?_, ?_⟩
  · have hstart := State.startDump_of_pending (s := s.withXport { s.xport with mapQ := s.xport.mapQ ++ [(i, .request)] })
      (e := (i, .request)) (rest := []) hd (by simp [hq])
    rw [State.requestMap, if_neg hno, hstart, State.dumpFor_of_record ((hx.record i).trans hr) hf, hx.recipeOf]
    simp [hq, State.withXport]
  · rw [ExportEngine.sendCode, if_neg hno, if_pos (by simp [hq, hd])]

theorem State.requestMap_of_running (hno : ∀ e ∈ s.xport.mapQ, e.1 ≠ i) (hd : s.xport.dump ≠ none) :
    s.requestMap i = s.withXport { s.xport with mapQ := s.xport.mapQ ++ [(i, .request)] } ∧
      s.xport.sendCode i = 1 := by
  have hno' : ¬ (s.xport.mapQ.any fun e => e.1 == i) = true := fun h => by
    obtain ⟨e, he, hi⟩ := State.pending_any.1 h
    exact hno e he hi
  obtain ⟨d, hd⟩ := Option.ne_none_iff_exists'.1 hd
  refine ⟨?_, ?_⟩
  · rw [State.requestMap, if_neg hno']
    exact State.startDump_of_running hd
  · rw [ExportEngine.sendCode, if_neg hno', if_neg (by simp [hd])]

end

/-- Settles O60: the pending list and the dump as the three codes of a MAP_SEND tell them; a MAP_STOP marks the dump. -/
theorem mapRequestsStartAndStopDumps : Obligations.MapRequestsStartAndStopDumps := by
  refine fun s rq => ⟨fun i ht hargs => ⟨fun hr => serve_onRecord_noWafer ht hargs hr _,
    fun r hr hf => serve_onRecord_onlyReplies ht hargs hr (mapSendOf_refused hf), fun r f hr hf => ?_⟩, fun ht ha => ?_⟩
  · have hsend : ∀ {t : State} {code : Byte}, s.requestTaken.requestMap i = t ∧ s.xport.sendCode i = code →
        exec (.mapSend rq) s = .next (t.respond 0x50 rq (okReply [code])) := fun ⟨hq, hcode⟩ => by
      rw [← hq, ← hcode]
      exact serve_onRecord_of_some ht hargs hr (mapSendOf_holding hf)
    refine ⟨fun hp => ?_, fun hq hd => ?_, fun hno hd => ?_⟩
    · exact (hsend (State.requestMap_of_pending (s := s.requestTaken) hp)).trans
        (congrArg _ (State.respond_requestTaken s 0x50 rq _))
    · have hc := s.requestTaken.withXport_changes
        { s.xport with dump := some (newDump i .request r f (s.requestTaken.recipeOf r)) }
      exact ⟨_, newDump i .request r f (s.requestTaken.recipeOf r),
        hsend (State.requestMap_of_idle (s := s.requestTaken) hr hf hq hd),
        (State.respond_changes _ 0x50 rq _).xport, rfl, rfl, rfl, rfl, rfl, rfl, rfl, Record.isActive_iff, rfl, rfl, rfl,
        State.hall_respond hc 0x50 rq _, State.served_changes hc 0x50 rq _⟩
    · have hc := s.requestTaken.withXport_changes { s.xport with mapQ := s.xport.mapQ ++ [(i, .request)] }
      exact ⟨_, hsend (State.requestMap_of_running (s := s.requestTaken) hno hd),
        (State.respond_changes _ 0x50 rq _).xport, State.hall_respond hc 0x50 rq _, State.served_changes hc 0x50 rq _⟩
  · have hexec : exec (.mapStop rq) s = .next ((s.requestTaken.modDump fun d => { d with aborted := true }).respond 0x51 rq
        (okReply [indexByte (s.xport.dump.map fun d => d.slot)])) :=
      serve_sized (act := fun _ (s : State) => (s.modDump fun d => { d with aborted := true },
        okReply [indexByte (s.xport.dump.map fun d : Dump => d.slot)])) ht (by rw [ha]; rfl) rfl
    refine ⟨fun hd => ?_, fun d hd => ?_⟩
    · have hsame : (s.requestTaken.modDump fun d => { d with aborted := true }) = s.requestTaken := by
        have hx : ({ s.xport with dump := none } : ExportEngine) = s.xport := by rw [← hd]
        unfold State.modDump
        rw [show s.requestTaken.xport.dump = none from hd, Option.map_none]
        exact congrArg s.requestTaken.withXport hx
      rw [hsame, hd] at hexec
      exact hexec.trans (congrArg _ (State.respond_requestTaken s 0x51 rq _))
    · have hc := s.requestTaken.modDump_changes fun d => { d with aborted := true }
      rw [hd] at hexec
      refine ⟨_, hexec, (State.respond_changes _ 0x51 rq _).xport.trans ?_, State.hall_respond hc 0x51 rq _,
        State.served_changes hc 0x51 rq _⟩
      show ({ s.xport with dump := s.xport.dump.map _ } : ExportEngine) = _
      rw [hd]
      rfl

/-! ## LINK_READ (R191) -/

theorem State.drawn_changes (s : State) : s.changesOnly s.drawn [.draws] := by
  unfold State.drawn
  split
  · exact s.withDraws_changes _
  · exact .refl s _

/-- What LINK_READ leaves before its reply: the draw of a free value, and with its option the counts cleared. -/
def State.linkRead (s : State) (clear : Bool) : State :=
  if clear then s.drawn.setRx s.hall.rx.cleared else s.drawn

theorem State.linkRead_changes (s : State) (clear : Bool) : s.changesOnly (s.linkRead clear) [.hall, .draws] := by
  unfold State.linkRead
  split
  · exact s.drawn_changes.seq (State.setRx_changes _ _)
  · exact s.drawn_changes.mono

theorem State.hall_linkRead (s : State) (clear : Bool) : (s.linkRead clear).hall = { s.hall with
    rx := if clear then s.hall.rx.cleared else s.hall.rx } := by
  cases clear with
  | false => exact s.drawn_changes.hall
  | true => exact congrArg (fun h : HallPort => { h with rx := s.hall.rx.cleared }) s.drawn_changes.hall

/-- Settles O55: the report is read from the state the request is taken in, and the option clears three counts. -/
theorem linkReadReportsAndClears : Obligations.LinkReadReportsAndClears := by
  rintro s rq clear p ht hargs rfl
  have hexec : exec (.linkRead rq) s = .next ((s.requestTaken.linkRead clear).respond 0x60 rq
      (okReply (s.requestTaken.linkBytes ++ s.requestTaken.dumpBytes))) := by
    refine serve_sized (act := fun a => withOption (byteAt a 0) linkReadWith) ht (by rw [hargs]; rfl) ?_
    have hopt : ((if clear then 1 else 0 : Byte) = 1) = (clear = true) := by cases clear <;> simp
    rw [hargs, byteAt_cons_zero, withOption_of_code (by cases clear <;> simp)]
    simp only [hopt, Bool.decide_eq_true]
    rfl
  refine ⟨_, hexec, ?_, (s.requestTaken_changes.mono.trans (State.linkRead_changes _ clear)).trans
    (State.respond_changes _ 0x60 rq _).mono⟩
  have hnode : (s.requestTaken.linkRead clear).node = s.node := (State.linkRead_changes _ clear).node
  rw [State.respond_eq, State.withHall_hall, State.hall_linkRead]
  have hreplies : ∀ q, (s.requestTaken.linkRead clear).repliesTo 0x60 rq q = s.repliesTo 0x60 rq q := fun q => by
    unfold State.repliesTo
    rw [replyFrame_congr hnode]
  rw [hreplies]
  cases clear <;> rfl

end Sys2Proof.Machine

/-! SUPPORT. The writes of a bank being loaded (R45 to R50). -/

namespace Sys2Proof.Machine

set_option Elab.async false

/-! ## The shared checks (R45) -/

section

variable {s : State} {rq : Request} {lb : BankId} {n : Nat}

theorem bankWrite_of_head (hb : rq.args.head? = some lb.code) (hlen : rq.args.length = n)
    (act : List Byte → BankId → State → State × Reply) :
    sized n rq (fun a => bankWrite rq (byteAt a 0) (act a)) = asOwner rq lb (act rq.args lb) := by
  funext t
  rw [sized_of_length hlen, byteAt_of_head hb, bankWrite, onBank_code]

theorem asOwner_refused (h : (s.bank lb).state ≠ .loading ∨ (s.bank lb).owner ≠ some (requesterOf rq))
    (act : State → State × Reply) : asOwner rq lb act s = decline .refusedState s :=
  if_neg fun hown => h.elim (fun hl => hl hown.1) fun ho => ho hown.2

theorem serve_bankWrite_refused {name : Byte} (ht : s.takesNow name rq) (hlen : rq.args.length = n)
    (hb : rq.args.head? = some lb.code)
    (h : (s.bank lb).state ≠ .loading ∨ (s.bank lb).owner ≠ some (requesterOf rq))
    (act : List Byte → BankId → State → State × Reply) :
    serve name rq (sized n rq fun a => bankWrite rq (byteAt a 0) (act a)) s =
      .next (s.withHall (s.answered name rq { status := .refusedState, data := [] })) := by
  rw [bankWrite_of_head hb hlen]
  exact serve_onlyReplies ht (asOwner_refused (by simpa using h) _)

theorem bankWrite_of_owner (hlen : rq.args.length = n) (hb : rq.args.head? = some lb.code)
    (hl : (s.bank lb).state = .loading) (ho : (s.bank lb).owner = some (requesterOf rq))
    (act : List Byte → BankId → State → State × Reply) :
    sized n rq (fun a => bankWrite rq (byteAt a 0) (act a)) s.requestTaken = act rq.args lb s.requestTaken := by
  rw [bankWrite_of_head hb hlen, asOwner_of_owner (by simpa using hl) (by simpa using ho)]

end

/-- Settles O48: whatever the request writes, the check on the owner comes before it. -/
theorem bankWritesNeedTheOwner : Obligations.BankWritesNeedTheOwner := by
  intro i s rq name lb hn _ hi hrecipe hzone hclose hxlate hclass ht hb hno
  simp only [List.mem_cons, List.not_mem_nil, or_false] at hi
  obtain rfl | rfl | rfl | rfl | rfl := hi <;> cases hn
  · exact serve_bankWrite_refused ht (hrecipe rfl) hb hno fun a i => bankRecipeOf a i
  · exact serve_bankWrite_refused ht (hxlate rfl) hb hno fun a i => bankXlateOf a i
  · exact serve_bankWrite_refused ht (hclass rfl) hb hno fun a i => bankClassOf a i
  · exact serve_bankWrite_refused ht (hzone rfl) hb hno fun a i => bankZoneOf a i
  · exact serve_bankWrite_refused ht (hclose rfl) hb hno fun _ i => bankCloseOf i

/-! ## Clamps and selectors -/

theorem toNat_clampBits {w lo hi : Nat} (v : BitVec w) (hlo : lo ≤ hi) (hhi : hi < 2 ^ w) :
    (clampBits lo hi v).toNat = max lo (min v.toNat hi) := by
  unfold clampBits
  split
  · rw [BitVec.toNat_ofNat, Nat.mod_eq_of_lt (by omega)]; omega
  · split
    · rw [BitVec.toNat_ofNat, Nat.mod_eq_of_lt hhi]; omega
    · omega

theorem val_clampFin (m n : Nat) : (clampFin m n).val = min n m := rfl

@[simp] theorem recipeOfByte_natByte (r : Fin 8) : recipeOfByte (natByte r.val) = some r := by
  have hbyte : (natByte r.val).toNat = r.val := toNat_natByte (by omega)
  simp [recipeOfByte, hbyte]

/-! ## BANK_RECIPE (R46) -/

theorem bankRecipeOf_stored {s : State} {a : List Byte} {lb : BankId} {r : Fin 8} {rc : Recipe}
    (hr : recipeOfByte (byteAt a 1) = some r) (hrc : recipeOfBytes a = some rc) :
    bankRecipeOf a lb s = (s.setBank lb ((s.bank lb).setRecipe r rc), okReply (natByte r.val :: rc.bytes)) := by
  simp only [bankRecipeOf, hr, hrc]

/-- Settles O49: the fields read at their offsets, each clamped, G against the stored grid. -/
theorem bankRecipeStoresWithClamps : Obligations.BankRecipeStoresWithClamps := by
  intro s rq lb r use pol den ex sites run unk per w h lim k m g inUse policy denom exporting ht hl ho hargs huse hpol hden
    hex
  have hw : halfAt rq.args 3 = w := by rw [hargs]; exact half_of_bytes w
  have hh : halfAt rq.args 5 = h := by rw [hargs]; exact half_of_bytes h
  have hg : wordAt rq.args 7 = g := by rw [hargs]; exact wordAt_wordBytes g
  have hlim : halfAt rq.args 14 = lim := by rw [hargs]; exact half_of_bytes lim
  have hk : halfAt rq.args 16 = k := by rw [hargs]; exact half_of_bytes k
  have hm : halfAt rq.args 18 = m := by rw [hargs]; exact half_of_bytes m
  have hrc : recipeOfBytes rq.args = some (
      { inUse := inUse, width := clampBits 1 512 w, height := clampBits 1 512 h
        gross := clampBits 1 ((clampBits 1 512 w).toNat * (clampBits 1 512 h).toNat) g
        siteCount := clampBits 1 16 sites, policy := policy, denominator := denom
        yieldLimit := clampBits 0 10000 lim, interval := k, minSample := m, runLimit := run
        unknownBin := clampFin 63 unk.toNat, exporting := exporting, period := per }) := by
    have huse' : boolOfByte (byteAt rq.args 2) = some inUse := by rw [hargs]; exact huse
    have hpol' : policyOfByte (byteAt rq.args 12) = some policy := by rw [hargs]; exact hpol
    have hden' : denominatorOfByte (byteAt rq.args 13) = some denom := by rw [hargs]; exact hden
    have hex' : exportOfByte (byteAt rq.args 22) = some exporting := by rw [hargs]; exact hex
    unfold recipeOfBytes
    rw [huse', hpol', hden', hex', hw, hh, hg, hlim, hk, hm, hargs]
    rfl
  have hsel : recipeOfByte (byteAt rq.args 1) = some r := by rw [hargs]; exact recipeOfByte_natByte r
  have hwidth := toNat_clampBits (lo := 1) (hi := 512) w (by omega) (by omega)
  have hheight := toNat_clampBits (lo := 1) (hi := 512) h (by omega) (by omega)
  have harea : 1 ≤ (clampBits 1 512 w).toNat * (clampBits 1 512 h).toNat := Nat.mul_pos (by omega) (by omega)
  have harea' : (clampBits 1 512 w).toNat * (clampBits 1 512 h).toNat ≤ 512 * 512 :=
    Nat.mul_le_mul (by omega) (by omega)
  obtain ⟨t, hexec, hbank, hother, hgen, hhall, hchanges⟩ : s.onlyReplacesBank (.bankRecipe rq) 0x21 rq lb
      ((s.bank lb).setRecipe r _) (okReply (natByte r.val :: _)) :=
    State.onlyReplacesBank_of_serve (act := sized 24 rq fun a => bankWrite rq (byteAt a 0) fun i => bankRecipeOf a i) rfl ht
      ((bankWrite_of_owner (by rw [hargs]; rfl) (by rw [hargs]; rfl) hl ho fun a i => bankRecipeOf a i).trans
        ((bankRecipeOf_stored hsel hrc).trans (by rw [State.bank_requestTaken])))
  refine ⟨t, _, hexec, hbank, rfl, hwidth, hheight, ?_, ?_, rfl, rfl, ?_, rfl, rfl, rfl, val_clampFin _ _, rfl, rfl, hother,
    hgen, hhall, hchanges⟩
  · exact toNat_clampBits g harea (by omega)
  · exact toNat_clampBits sites (by omega) (by omega)
  · exact (toNat_clampBits lim (by omega) (by omega)).trans (Nat.zero_max _)

/-! ## BANK_ZONE (R49) -/

theorem bankZoneOf_stored {s : State} {a : List Byte} {lb : BankId} {z : Fin 8} {v : ZoneEntry}
    (hz : zoneOfByte (byteAt a 1) = some z) (hv : zoneOfBytes a = some v) :
    bankZoneOf a lb s = (s.setBank lb ((s.bank lb).setZone z v), okReply (natByte (z.val + 1) :: v.bytes)) := by
  simp only [bankZoneOf, hz, hv]

theorem bankZoneOf_refused {s : State} {a : List Byte} {lb : BankId} (hz : zoneOfByte (byteAt a 1) = none) :
    bankZoneOf a lb s = decline .badArgument s := by
  simp only [bankZoneOf, hz]

theorem zoneOfByte_natByte (z : Fin 8) : zoneOfByte (natByte (z.val + 1)) = some z := by
  have hbyte : (natByte (z.val + 1)).toNat = z.val + 1 := toNat_natByte (by omega)
  simp only [zoneOfByte, hbyte]
  rw [dif_pos (by omega)]
  rfl

theorem zoneOfByte_of_out {z : Byte} (h : z = 0 ∨ 8 < z.toNat) : zoneOfByte z = none := by
  refine dif_neg fun hin => ?_
  rcases h with rfl | h
  · exact absurd hin.1 (by decide)
  · omega

/-- Settles O52: the six fields read at their offsets and clamped; a zone that names no entry is refused. -/
theorem bankZoneStoresWithClamps : Obligations.BankZoneStoresWithClamps := by
  intro s rq lb z en nx ny x y lim on ht hl ho hargs hen
  have hlen : rq.args.length = 11 := by rw [hargs]; rfl
  have hb : rq.args.head? = some lb.code := by rw [hargs]; rfl
  have hsel : byteAt rq.args 1 = z := by rw [hargs]; rfl
  refine ⟨fun k hzone => ?_, fun hout => ?_⟩
  · have hx : halfAt rq.args 3 = x := by rw [hargs]; exact half_of_bytes x
    have hy : halfAt rq.args 6 = y := by rw [hargs]; exact half_of_bytes y
    have hlim : halfAt rq.args 9 = lim := by rw [hargs]; exact half_of_bytes lim
    have hv : zoneOfBytes rq.args = some (
        { enabled := on, xCompare := clampBits 0 511 x, xBits := clampBits 0 9 nx, yCompare := clampBits 0 511 y
          yBits := clampBits 0 9 ny, limit := clampBits 0 10000 lim }) := by
      have hen' : boolOfByte (byteAt rq.args 2) = some on := by rw [hargs]; exact hen
      unfold zoneOfBytes
      rw [hen', hx, hy, hlim, hargs]
      rfl
    have hzone' : zoneOfByte (byteAt rq.args 1) = some k := by rw [hsel, hzone, zoneOfByte_natByte]
    obtain ⟨t, hexec, hbank, hother, hgen, hhall, hchanges⟩ : s.onlyReplacesBank (.bankZone rq) 0x24 rq lb
        ((s.bank lb).setZone k _) (okReply (natByte (k.val + 1) :: _)) :=
      State.onlyReplacesBank_of_serve (act := sized 11 rq fun a => bankWrite rq (byteAt a 0) fun i => bankZoneOf a i) rfl ht
        ((bankWrite_of_owner hlen hb hl ho fun a i => bankZoneOf a i).trans
          ((bankZoneOf_stored hzone' hv).trans (by rw [State.bank_requestTaken])))
    rw [← hzone] at hhall
    refine ⟨t, _, hexec, hbank, rfl, ?_, ?_, ?_, ?_, ?_, hother, hgen, hhall, hchanges⟩
    all_goals exact (toNat_clampBits _ (by omega) (by omega)).trans (Nat.zero_max _)
  · have hserve : exec (.bankZone rq) s =
        serve 0x24 rq (sized 11 rq fun a => bankWrite rq (byteAt a 0) fun i => bankZoneOf a i) s := rfl
    exact hserve.trans (serve_onlyReplies ht ((bankWrite_of_owner hlen hb hl ho fun a i => bankZoneOf a i).trans
      (bankZoneOf_refused (by rw [hsel, zoneOfByte_of_out hout]))))

/-! ## BANK_XLATE (R47) -/

theorem writeXlate_wf (r : Fin 8) (vs : List Byte) {m : List Host.Cell} (hm : storeWf unassigned m) (k : Nat) :
    storeWf unassigned (writeXlate r k vs m) := by
  induction vs generalizing k m with
  | nil => exact hm
  | cons v vs ih => exact ih (storeWrite_wf _ _ _ _ hm) (k + 1)

theorem storeRead_writeXlate_other {r : Fin 8} {vs : List Byte} {m : List Host.Cell} (hm : storeWf unassigned m) {k a : Nat}
    (h : ∀ n, n < vs.length → a ≠ 512 * r.val + (k + n)) :
    storeRead unassigned (writeXlate r k vs m) a = storeRead unassigned m a := by
  induction vs generalizing k m with
  | nil => rfl
  | cons v vs ih =>
    have hhead : a ≠ xlateAddr r k := h 0 (by simp)
    rw [writeXlate, ih (storeWrite_wf _ _ _ _ hm) fun n hn => ?_, storeRead_storeWrite_other _ _ _ hhead hm]
    have := h (n + 1) (by simpa using hn)
    omega

theorem storeRead_writeXlate {r : Fin 8} {vs : List Byte} {m : List Host.Cell} (hm : storeWf unassigned m) {k n : Nat}
    (h : n < vs.length) :
    storeRead unassigned (writeXlate r k vs m) (512 * r.val + (k + n)) = xlateValue (vs.getD n 0) := by
  induction vs generalizing k n m with
  | nil => simp at h
  | cons v vs ih =>
    rw [writeXlate]
    cases n with
    | zero =>
      rw [storeRead_writeXlate_other (storeWrite_wf _ _ _ _ hm) fun n _ => by omega]
      exact storeRead_storeWrite_same _ _ _ _ hm
    | succ n =>
      have hnext := ih (storeWrite_wf unassigned m (xlateAddr r k) (xlateValue v) hm) (k := k + 1)
        (n := n) (by simpa using h)
      have haddr : k + (n + 1) = k + 1 + n := by omega
      rw [haddr, hnext]
      rfl

theorem bankXlateOf_stored {s : State} {a : List Byte} {lb : BankId} {r : Fin 8} (hn : (byteAt a 4).toNat ≤ 64)
    (hr : recipeOfByte (byteAt a 1) = some r) :
    bankXlateOf a lb s = (s.setBank lb { s.bank lb with
        xlate := writeXlate r (halfAt a 2).toNat ((a.drop 5).take (512 - (halfAt a 2).toNat)) (s.bank lb).xlate },
      okReply [natByte ((a.drop 5).take (512 - (halfAt a 2).toNat)).length]) := by
  rw [bankXlateOf, if_neg (Nat.not_lt.2 hn)]
  simp only [hr]

theorem xlate_wf_of_storesCanonical {s : State} (h : s.storesCanonical) (lb : BankId) :
    storeWf unassigned (s.bank lb).xlate := by
  obtain ⟨ha, hb, -⟩ := h
  cases lb
  · exact ha
  · exact hb

/-- Settles O50: the entries up to soft bin 511 are written in turn, each at its own address. -/
theorem bankXlateWritesTheRow : Obligations.BankXlateWritesTheRow := by
  intro s rq lb r first vs ht hcanon hl ho hlen hargs
  have hcount : (byteAt rq.args 4).toNat = vs.length := by
    have : byteAt rq.args 4 = natByte vs.length := by rw [hargs]; rfl
    rw [this, toNat_natByte (by omega)]
  have hfirst : halfAt rq.args 2 = first := by rw [hargs]; exact half_of_bytes first
  have hdrop : rq.args.drop 5 = vs := by rw [hargs]; rfl
  have hsel : recipeOfByte (byteAt rq.args 1) = some r := by rw [hargs]; exact recipeOfByte_natByte r
  have hsize : rq.args.length = 5 + (byteAt rq.args 4).toNat := by rw [hcount, hargs]; simp [halfBytes]; omega
  have hwf := xlate_wf_of_storesCanonical hcanon lb
  have hact := (bankWrite_of_owner hsize (by rw [hargs]; rfl) hl ho fun a i => bankXlateOf a i).trans
    (bankXlateOf_stored (s := s.requestTaken) (lb := lb) (by omega) hsel)
  rw [hfirst, hdrop, State.bank_requestTaken] at hact
  obtain ⟨t, hexec, hbank, hother, hgen, hhall, hchanges⟩ := State.onlyReplacesBank_of_serve (i := .bankXlate rq)
    (act := sized (5 + (byteAt rq.args 4).toNat) rq fun a => bankWrite rq (byteAt a 0) fun i => bankXlateOf a i) rfl ht hact
  have hxlate : (t.bank lb).xlate =
      writeXlate r first.toNat (vs.take (512 - first.toNat)) (s.bank lb).xlate := by rw [hbank]
  rw [List.length_take, min_comm] at hhall
  refine ⟨t, hexec, fun n hn hin => ?_, fun a ha => ?_, by rw [hxlate, hbank], hother, hgen, hhall, hchanges⟩
  · have hn' : n < (vs.take (512 - first.toNat)).length := by rw [List.length_take]; omega
    rw [hxlate, storeRead_writeXlate hwf hn']
    have htake : (vs.take (512 - first.toNat)).getD n 0 = vs.getD n 0 := by
      simp only [List.getD_eq_getElem?_getD, List.getElem?_take_of_lt (show n < 512 - first.toNat by omega)]
    rw [htake]
    rfl
  · rw [hxlate]
    refine storeRead_writeXlate_other hwf fun n hn => ha n ?_ ?_
    · rw [List.length_take] at hn; omega
    · rw [List.length_take] at hn; omega

/-! ## BANK_CLASS (R48) -/

/-- The entry a pair of class code and limit stands for, when the code names a class (R48). -/
def binEntryOf (e : Byte × Half) : Option BinEntry :=
  (classOfByte e.1).map fun c => { cls := c, limit := clampBits 0 10000 e.2 }

/-- A list of pairs as BANK_CLASS carries it. -/
def binPairBytes (es : List (Byte × Half)) : List Byte := es.flatMap fun e => e.1 :: halfBytes e.2

theorem parseBins_cons (e : Byte × Half) (es : List (Byte × Half)) :
    parseBins (binPairBytes (e :: es)) =
      match binEntryOf e, parseBins (binPairBytes es) with
      | some b, some bs => some (b :: bs)
      | _, _ => none := by
  have hlimit : halfAt [e.2.extractLsb' 8 8, e.2.extractLsb' 0 8] 0 = e.2 := half_of_bytes e.2
  show (match classOfByte e.1, parseBins (binPairBytes es) with
    | some c, some es => some (({ cls := c, limit := clampBits 0 10000 (halfAt [_, _] 0) } : BinEntry) :: es)
    | _, _ => none) = _
  rw [hlimit, binEntryOf]
  cases classOfByte e.1 <;> cases parseBins (binPairBytes es) <;> rfl

theorem parseBins_of_codes {es : List (Byte × Half)} (h : ∀ e ∈ es, classOfByte e.1 ≠ none) :
    ∃ bs, parseBins (binPairBytes es) = some bs ∧ List.Forall₂ (fun e b => binEntryOf e = some b) es bs := by
  induction es with
  | nil => exact ⟨[], rfl, .nil⟩
  | cons e es ih =>
    obtain ⟨bs, hbs, hall⟩ := ih fun e he => h e (List.mem_cons_of_mem _ he)
    obtain ⟨c, hc⟩ := Option.ne_none_iff_exists'.1 (h e List.mem_cons_self)
    have hb : binEntryOf e = some { cls := c, limit := clampBits 0 10000 e.2 } := by rw [binEntryOf, hc]; rfl
    exact ⟨_ :: bs, by rw [parseBins_cons, hb, hbs], .cons hb hall⟩

theorem parseBins_of_bad_code {es : List (Byte × Half)} (h : ∃ e ∈ es, classOfByte e.1 = none) :
    parseBins (binPairBytes es) = none := by
  induction es with
  | nil => simp at h
  | cons e es ih =>
    rw [parseBins_cons]
    by_cases he : classOfByte e.1 = none
    · rw [binEntryOf, he]; rfl
    · obtain ⟨x, hx, hc⟩ := h
      have hx' : x ∈ es := (List.mem_cons.1 hx).resolve_left fun hxe => he (hxe ▸ hc)
      rw [ih ⟨x, hx', hc⟩]
      cases binEntryOf e <;> rfl

theorem writeBins_get (es : List BinEntry) (first : Nat) (v : Vector BinEntry 64) (b : Fin 64) :
    (writeBins first es v)[b.val] =
      if first ≤ b.val then (es[b.val - first]?).getD v[b.val] else v[b.val] := by
  induction es generalizing first v with
  | nil => simp [writeBins]
  | cons e es ih =>
    rw [writeBins, ih]
    by_cases hb : b.val = first
    · subst hb
      simp
    · have hget : (v.setIfInBounds first e)[b.val] = v[b.val] := by
        rw [Vector.getElem_setIfInBounds_ne _ (fun h => hb h.symm)]
      by_cases hlt : first ≤ b.val
      · have hidx : b.val - first = b.val - (first + 1) + 1 := by omega
        rw [if_pos hlt, if_pos (by omega), hidx, List.getElem?_cons_succ, hget]
      · rw [if_neg hlt, if_neg (by omega), hget]

theorem bankClassOf_stored {s : State} {a : List Byte} {lb : BankId} {bs : List BinEntry} (hn : (byteAt a 2).toNat ≤ 16)
    (hb : parseBins (a.drop 3) = some bs) :
    bankClassOf a lb s = (s.setBank lb { s.bank lb with
        bins := writeBins (byteAt a 1).toNat (bs.take (64 - (byteAt a 1).toNat)) (s.bank lb).bins },
      okReply [natByte (bs.take (64 - (byteAt a 1).toNat)).length]) := by
  rw [bankClassOf, if_neg (Nat.not_lt.2 hn)]
  simp only [hb]

theorem bankClassOf_refused {s : State} {a : List Byte} {lb : BankId} (hb : parseBins (a.drop 3) = none) :
    bankClassOf a lb s = decline .badArgument s := by
  rw [bankClassOf, hb]
  split <;> rfl

/-- Settles O51: the list is parsed whole or refused whole; then each entry up to B63 is written in turn. -/
theorem bankClassWritesTheBins : Obligations.BankClassWritesTheBins := by
  intro s rq lb first es ht hl ho hlen hargs
  have hcount : (byteAt rq.args 2).toNat = es.length := by
    have : byteAt rq.args 2 = natByte es.length := by rw [hargs]; rfl
    rw [this, toNat_natByte (by omega)]
  have hfirst : byteAt rq.args 1 = first := by rw [hargs]; rfl
  have hdrop : rq.args.drop 3 = binPairBytes es := by rw [hargs]; rfl
  have hpairs : (binPairBytes es).length = 3 * es.length := by
    rw [binPairBytes, List.length_flatMap]
    simp [halfBytes, Nat.mul_comm]
  have hsize : rq.args.length = 3 + 3 * (byteAt rq.args 2).toNat := by
    rw [hcount, ← hpairs, ← hdrop, List.length_drop]
    have : 3 ≤ rq.args.length := by rw [hargs]; simp
    omega
  have hown := bankWrite_of_owner (n := 3 + 3 * (byteAt rq.args 2).toNat) hsize (by rw [hargs]; rfl) hl ho
    fun a i => bankClassOf a i
  refine ⟨fun hcodes => ?_, fun hbad => ?_⟩
  · obtain ⟨bs, hbs, hall⟩ := parseBins_of_codes hcodes
    have hact := hown.trans (bankClassOf_stored (s := s.requestTaken) (lb := lb) (by omega) (by rw [hdrop, hbs]))
    rw [hfirst, State.bank_requestTaken] at hact
    obtain ⟨t, hexec, hbank, hother, hgen, hhall, hchanges⟩ := State.onlyReplacesBank_of_serve (i := .bankClass rq)
      (act := sized (3 + 3 * (byteAt rq.args 2).toNat) rq fun a => bankWrite rq (byteAt a 0) fun i => bankClassOf a i)
      rfl ht hact
    have hbins : (t.bank lb).bins = writeBins first.toNat (bs.take (64 - first.toNat)) (s.bank lb).bins := by rw [hbank]
    rw [List.length_take, min_comm, ← hall.length_eq] at hhall
    refine ⟨t, hexec, fun n b e hn hb => ?_, fun b hb => ?_, by rw [hbins, hbank], hother, hgen, hhall, hchanges⟩
    · obtain ⟨hlt, rfl⟩ := List.getElem?_eq_some_iff.1 hn
      have hlt' : n < bs.length := hall.length_eq ▸ hlt
      have hentry : binEntryOf es[n] = some bs[n] := List.Forall₂.get hall hlt hlt'
      have hget : (t.bank lb).bins[b.val] = bs[n] := by
        rw [hbins, writeBins_get, if_pos (by omega), show b.val - first.toNat = n by omega,
          List.getElem?_take_of_lt (by omega), List.getElem?_eq_getElem hlt']
        rfl
      rw [hget]
      obtain ⟨c, hc, hc'⟩ := Option.map_eq_some_iff.1 hentry
      rw [← hc', hc]
      exact ⟨rfl, (toNat_clampBits _ (by omega) (by omega)).trans (Nat.zero_max _)⟩
    · rw [hbins, writeBins_get]
      split
      case isTrue hle =>
        have hnone : (bs.take (64 - first.toNat))[b.val - first.toNat]? = none := by
          rw [List.getElem?_eq_none_iff, List.length_take]
          by_contra hin
          exact hb (b.val - first.toNat) (by rw [hall.length_eq]; omega) (by omega)
        rw [hnone]
        rfl
      case isFalse => rfl
  · have hserve : exec (.bankClass rq) s = serve 0x23 rq (sized (3 + 3 * (byteAt rq.args 2).toNat) rq fun a =>
        bankWrite rq (byteAt a 0) fun i => bankClassOf a i) s := rfl
    exact hserve.trans (serve_onlyReplies ht (hown.trans (bankClassOf_refused (by rw [hdrop, parseBins_of_bad_code hbad]))))

end Sys2Proof.Machine

/-! SUPPORT. The step itself, the resets and the pause of the hall link: what each block holds after a reset, the laws
the reset state meets, and commands that hold the link. -/

namespace Sys2Proof.Machine
set_option Elab.async false

/-! ## The step and the pause (O1, O40) -/

/-- Settles O1: the front of the queue selects the command. -/
theorem stepRunsTheFrontCommand : Obligations.StepRunsTheFrontCommand := by
  intro s c rest h
  rw [step, h]

theorem State.atBoundary_of_paused {s : State} (h : s.hall.paused = true) : s.atBoundary = false := by
  simp [State.atBoundary, h]

/-- Settles O40: PAUSE and RESUME write the pause state, and a paused link is at no frame boundary. -/
theorem pauseHoldsTheLink : Obligations.PauseHoldsTheLink := by
  intro s
  refine ⟨rfl, rfl, fun hp => ?_, fun st f ht => ?_⟩
  · show execTransmitTake s = _
    rw [execTransmitTake, State.atBoundary_of_paused hp]
    rfl
  · show execTransmitCompletion s = _
    rw [execTransmitCompletion, ht]
    rfl

/-! ## After a reset -/

section
variable (s : State) (straps : BitVec 4)

theorem State.cell_resetAll (c : CellId) :
    (s.resetAll straps).cell c = Cell.reset (s.cell c).loadLine.pin (s.cell c).unloadLine.pin := by
  simp [State.cell, State.resetAll]

theorem State.bank_resetAll (lb : BankId) : (s.resetAll straps).bank lb = Bank.reset := by
  cases lb <;> rfl

theorem State.record_resetAll (i : SlotId) : (s.resetAll straps).record i = none := by
  simp [State.record, State.resetAll, State.reset, Directory.reset]

theorem State.progressTimer_resetAll (i : SlotId) : (s.resetAll straps).progressTimer i = none := by
  simp [State.progressTimer, State.resetAll, State.reset, ExportEngine.reset]

theorem State.frame_resetAll (f : FrameId) : (s.resetAll straps).frame f = { dies := [], serial := 0 } := by
  simp [State.frame, State.resetAll, State.reset, MapStore.reset]

theorem State.tag_resetAll (q : Fin 4) : (s.resetAll straps).tag q = none := by
  simp [State.tag, State.resetAll, State.reset]

theorem Cell.line_reset (load unload : Level) (l : Line) :
    (Cell.reset load unload).line l = InputLine.reset (match l with | .load => load | .unload => unload) := by
  cases l <;> rfl

end

/-- Settles O14: each block is read off the reset state. -/
theorem powerOnResetLeavesResetValues : Obligations.PowerOnResetLeavesResetValues := by
  intro straps s
  refine ⟨s.resetAll straps, rfl, rfl, fun c => ?_, rfl, rfl, rfl, fun lb _ => ?_, fun i => ?_, rfl, fun c => ?_,
    fun f => ?_, rfl, rfl, rfl, rfl, rfl, rfl, rfl, State.tag_resetAll s straps⟩
  · rw [State.cell_resetAll]
    refine ⟨rfl, rfl, rfl, rfl, rfl, rfl, rfl, rfl, rfl, rfl, fun k => ?_, fun l => ?_⟩
    · simp [Cell.reset]
    · rw [Cell.line_reset]
      cases l <;> rfl
  · rw [State.bank_resetAll]
    refine ⟨rfl, rfl, rfl, rfl, fun n => rfl, fun n => ?_, fun n => ?_⟩
    · simp [Bank.reset, Recipe.clear, ZoneEntry.clear]
    · simp [Bank.reset, BinEntry.clear]
  · exact ⟨State.record_resetAll s straps i, State.progressTimer_resetAll s straps i⟩
  · rw [State.stopLine_running, State.cell_resetAll]
    exact ⟨rfl, rfl⟩
  · rw [State.frame_resetAll]

/-- Settles O15: the request taken leaves nothing a reset reads, and the free value drawn is the straps. -/
theorem hallResetIsPowerOnReset : Obligations.HallResetIsPowerOnReset := by
  intro rq s ht hargs
  have hexec : exec (.resetAll rq) s = .next s.requestTaken.hallReset := by
    show execResetAll rq s = _
    rw [execResetAll, State.takeRequest_of_takesNow ht]
    exact if_pos hargs
  refine ⟨Config.strapLevels s.draws, _, s.resetAll (Config.strapLevels s.draws), hexec, rfl, ?_, rfl, rfl, rfl,
    fun c => ?_⟩
  · exact State.withDraws_changes _ _
  · show ((s.resetAll (Config.strapLevels s.draws)).cell c).stopLatch = false
    rw [State.cell_resetAll]
    rfl

/-! ## The laws the reset state meets -/

@[simp] theorem State.cell_reset (c : CellId) : State.reset.cell c = Cell.reset .low .low := by
  simp [State.cell, State.reset]

@[simp] theorem State.record_reset (i : SlotId) : State.reset.record i = none := by
  simp [State.record, State.reset, Directory.reset]

@[simp] theorem State.progressTimer_reset (i : SlotId) : State.reset.progressTimer i = none := by
  simp [State.progressTimer, State.reset, ExportEngine.reset]

@[simp] theorem State.frame_reset (f : FrameId) : State.reset.frame f = { dies := [], serial := 0 } := by
  simp [State.frame, State.reset, MapStore.reset]

theorem mem_free_reset (f : FrameId) : f ∈ MapStore.reset.free := by
  revert f
  decide

theorem storeWf_nil (d : Byte) : storeWf d [] := ⟨List.Pairwise.nil, fun _ h => absurd h List.not_mem_nil⟩

/-! A FREE slot satisfies none of the tests that the laws make on records. -/

theorem State.isBoundTo_of_none {s : State} {i : SlotId} (h : s.record i = none) (lb : BankId) :
    s.isBoundTo lb i = false := by
  rw [State.isBoundTo, h]

theorem State.active_of_none {s : State} {i : SlotId} (h : s.record i = none) : s.active i = none := by
  rw [State.active, h]

theorem State.holdsFrame_of_none {s : State} {i : SlotId} (h : s.record i = none) (f : FrameId) :
    s.holdsFrame i f = false := by
  rw [State.holdsFrame, h]

theorem State.isIn_of_none {s : State} {i : SlotId} (h : s.record i = none) (l : List RecordState) :
    s.isIn i l = false := by
  rw [State.isIn, h]

theorem State.owesSummary_of_none {s : State} {i : SlotId} (h : s.record i = none) : s.owesSummary i = false := by
  rw [State.owesSummary, h]

theorem reset_withinCapacities : State.reset.withinCapacities := by
  refine ⟨fun c => ?_, Nat.zero_le _, Nat.zero_le _, Nat.zero_le _, Nat.zero_le _, Nat.zero_le _⟩
  rw [State.cell_reset]
  exact ⟨fun _ => Nat.zero_lt_succ _, fun h => nomatch h⟩

theorem reset_storesCanonical : State.reset.storesCanonical :=
  ⟨storeWf_nil _, storeWf_nil _, fun f => by rw [State.frame_reset]; exact storeWf_nil _⟩

theorem reset_bankLaw : State.reset.bankLaw :=
  ⟨fun h => BankState.noConfusion h.1, by decide, by decide⟩

theorem reset_boundLaw : State.reset.boundLaw := by
  intro lb _
  have hnone : allSlots.filter (State.reset.isBoundTo lb) = [] :=
    List.filter_eq_nil_iff.2 fun i _ => by simp [State.isBoundTo_of_none (State.record_reset i)]
  rw [hnone]
  cases lb <;> rfl

theorem reset_recordLaw : State.reset.recordLaw := by
  refine ⟨fun i j _ r hr => ?_, fun i r hr => ?_⟩
  all_goals
    rw [State.active_of_none (State.record_reset i)] at hr
    exact nomatch hr

theorem reset_frameLaw : State.reset.frameLaw := by
  refine ⟨by decide, fun f => ?_⟩
  have hfree : f ∈ State.reset.maps.free := mem_free_reset f
  rw [if_pos hfree]
  exact fun i => State.holdsFrame_of_none (State.record_reset i) f

theorem reset_tallyLaw : State.reset.tallyLaw := fun i r hr => by
  rw [State.record_reset] at hr
  exact nomatch hr

theorem reset_directoryLists : State.reset.directoryLists := by
  have hout : ∀ (i : SlotId) l, ¬ State.reset.isIn i l = true := fun i l => by
    simp [State.isIn_of_none (State.record_reset i)]
  exact ⟨List.nodup_nil, fun i => iff_of_false List.not_mem_nil (hout i _), List.nodup_nil,
    fun i => iff_of_false List.not_mem_nil (hout i _), fun i h => absurd (State.progressTimer_reset i) h⟩

theorem reset_summaryLists : State.reset.summaryLists := by
  have hout : ∀ i : SlotId, ¬ State.reset.owesSummary i = true := fun i => by
    simp [State.owesSummary_of_none (State.record_reset i)]
  exact ⟨List.nodup_nil, Nat.zero_le _, fun _ h => absurd h List.not_mem_nil, List.nodup_nil,
    fun i => iff_of_false List.not_mem_nil (hout i), fun i h => absurd h List.not_mem_nil, fun h => absurd rfl h⟩

theorem reset_listLaw : State.reset.listLaw :=
  ⟨reset_directoryLists, reset_summaryLists,
    ⟨List.nodup_nil, fun _ h => absurd h List.not_mem_nil, fun _ => rfl⟩⟩

theorem reset_alertLaw : State.reset.alertLaw :=
  ⟨fun _ h => absurd h List.not_mem_nil, List.Pairwise.nil, List.Pairwise.nil⟩

/-- Settles O8: every law is one of a part with no record, empty queues and empty stores. -/
theorem resetMeetsTheLaws : Obligations.ResetMeetsTheLaws :=
  ⟨reset_withinCapacities, reset_storesCanonical, reset_bankLaw, reset_boundLaw, reset_alertLaw, reset_listLaw,
    reset_frameLaw, reset_tallyLaw, reset_recordLaw⟩

end Sys2Proof.Machine

/-! SUPPORT. The line unit and its timers: recognitions, stamps, the millisecond step and the progress expiry, and what
a closing leaves of the cells (R24 to R31, R75, R76, R162). -/

namespace Sys2Proof.Machine

set_option Elab.async false

/-! ## What a closing leaves of a cell -/

/-- Between two states of a cell only its STOP latch and its grace timer have moved: all that seals and entries to
CLOSING touch. -/
def Cell.onlyTimed (k k' : Cell) : Prop := k' = { k with stopLatch := k'.stopLatch, graceTimer := k'.graceTimer }

theorem Cell.onlyTimed.refl (k : Cell) : k.onlyTimed k := rfl

theorem Cell.onlyTimed.trans {k k' k'' : Cell} (h : k.onlyTimed k') (h' : k'.onlyTimed k'') : k.onlyTimed k'' := by
  unfold Cell.onlyTimed at *
  calc k'' = { k' with stopLatch := k''.stopLatch, graceTimer := k''.graceTimer } := h'
    _ = _ := by rw [h]

/-- Every cell's part in a run of seals and closings on cell c. -/
structure State.closesOn (s t : State) (c : CellId) : Prop where
  timed : ∀ d, (s.cell d).onlyTimed (t.cell d)
  kept  : s.cellsKeptBut t c

theorem State.closesOn.refl (s : State) (c : CellId) : s.closesOn s c := ⟨fun _ => .refl _, .refl s c⟩

theorem State.closesOn.trans {s t u : State} {c : CellId} (h : s.closesOn t c) (k : t.closesOn u c) : s.closesOn u c :=
  ⟨fun d => (h.timed d).trans (k.timed d), h.kept.trans k.kept⟩

theorem State.changesOnly.closesOn {s t : State} {bs : List Block} (h : s.changesOnly t bs) (c : CellId)
    (hb : .cells ∉ bs := by decide) : s.closesOn t c :=
  ⟨fun d => by rw [h.cell d hb]; exact .refl _, h.cellsKeptBut c hb⟩

theorem State.raiseAll_cellsKeptBut (s : State) {as : List Alert} {c : CellId} (h : ∀ a ∈ as, a.cell = some c) :
    s.cellsKeptBut (s.raiseAll as) c := by
  induction as generalizing s with
  | nil => exact .refl s c
  | cons a as ih =>
    exact (s.raise_cellsKeptBut (h a List.mem_cons_self)).trans (ih _ fun b hb => h b (List.mem_cons_of_mem _ hb))

/-- A final evaluation raises its alerts on the record's cell. -/
theorem Record.cell_of_finalNotices {r : Record} {i : SlotId} {rc : Recipe} {k : Bank} {a : Alert}
    (h : a ∈ r.finalNotices i rc k) : a.cell = some r.cell := by
  simp only [Record.finalNotices, Record.yieldNotices, Record.zoneNotices, Record.binNotices, List.mem_append,
    List.mem_filterMap] at h
  rcases h with (h | ⟨z, _, h⟩) | ⟨b, _, h⟩
  · split at h
    · rw [List.mem_singleton.1 h]; rfl
    · split at h
      · exact absurd h List.not_mem_nil
      · split at h
        · rw [List.mem_singleton.1 h]; rfl
        · exact absurd h List.not_mem_nil
  · split at h
    · exact nomatch h
    · split at h
      · rw [← Option.some.inj h]; rfl
      · exact nomatch h
  · split at h
    · exact nomatch h
    · split at h
      · rw [← Option.some.inj h]; rfl
      · exact nomatch h

/-- A seal touches its record's cell alone. -/
theorem State.sealSlot_closesOn {s : State} {i : SlotId} {c : CellId} (h : ∀ r, s.record i = some r → r.cell = c)
    (w : Option CloseReason) : s.closesOn (s.sealSlot i w) c := by
  by_cases hidle : ∀ r, s.record i = some r → r.isActive = false
  · rw [State.sealSlot_of_idle hidle]
    exact .refl s c
  · push Not at hidle
    obtain ⟨r, hr, ha⟩ := hidle
    have hactive : r.isActive = true := Bool.eq_true_of_not_eq_false ha
    have hraises : s.cellsKeptBut (s.sealRaises i r) c :=
      h r hr ▸ s.raiseAll_cellsKeptBut fun a => Record.cell_of_finalNotices
    refine ⟨fun d => ?_, fun d hd => ?_⟩
    · rw [State.cell_sealSlot hr hactive w d]
      rfl
    · rw [State.cell_sealSlot hr hactive w d, hraises d hd, if_neg fun hc => hd (hc.2.trans (h r hr))]

theorem State.sealIf_closesOn {s : State} {o : Option SlotId} {c : CellId}
    (h : ∀ i r, o = some i → s.record i = some r → r.cell = c) (w : CloseReason) : s.closesOn (s.sealIf o w) c := by
  cases o with
  | none => exact .refl s c
  | some i => exact State.sealSlot_closesOn (fun r => h i r rfl) _

theorem State.sealClosing_closesOn (s : State) (c : CellId) (w : CloseReason) :
    s.closesOn (s.sealIf (s.closingOn c) w) c :=
  State.sealIf_closesOn (fun _ _ hi hr => (State.closingOn_spec hi hr).2) w

/-- A change of a cell's grace timer alone. -/
theorem State.setGrace_closesOn (s : State) (c : CellId) (f : Cell → Option Timer) :
    s.closesOn (s.modCell c fun k => { k with graceTimer := f k }) c := by
  refine ⟨fun d => ?_, s.modCell_cellsKeptBut c _⟩
  rw [State.cell_modCell]
  split
  · next h => rw [h]; rfl
  · exact .refl _

theorem State.stopGrace_closesOn (s : State) (c : CellId) : s.closesOn (s.stopGrace c) c :=
  s.setGrace_closesOn c fun _ => none

/-- The cell of a record is part of its standing. -/
theorem State.cell_of_standing {s t : State} {i : SlotId} {c : CellId} (h : t.standing i = s.standing i)
    (hs : ∀ r, s.record i = some r → r.cell = c) : ∀ r, t.record i = some r → r.cell = c := fun r hr => by
  have hsome : s.standing i = some r.standing := h ▸ State.standing_of_record hr
  obtain ⟨q, hq, hqr⟩ := State.standing_eq_some.1 hsome
  exact (congrArg Standing.cell hqr).symm.trans (hs q hq)

/-- The other slots keep their standing in a seal. -/
theorem State.standing_sealSlot_other (s : State) {i j : SlotId} (h : j ≠ i) (w : Option CloseReason) :
    (s.sealSlot i w).standing j = s.standing j := by
  by_cases hidle : ∀ r, s.record i = some r → r.isActive = false
  · rw [State.sealSlot_of_idle hidle]
  · push Not at hidle
    obtain ⟨r, hr, ha⟩ := hidle
    rw [State.standing_sealSlot hr (Bool.eq_true_of_not_eq_false ha), if_neg h]

/-- A record keeps its cell when it seals. -/
theorem State.cell_sealSlot_record {s : State} {i j : SlotId} {c : CellId} (h : ∀ r, s.record i = some r → r.cell = c)
    (w : Option CloseReason) : ∀ r, (s.sealSlot j w).record i = some r → r.cell = c := by
  by_cases hij : i = j
  · subst hij
    by_cases hidle : ∀ r, s.record i = some r → r.isActive = false
    · rwa [State.sealSlot_of_idle hidle]
    · push Not at hidle
      obtain ⟨q, hq, ha⟩ := hidle
      obtain ⟨b, hb⟩ := State.record_sealSlot_same hq (Bool.eq_true_of_not_eq_false ha) w
      intro r hr
      rw [hb] at hr
      rw [← Option.some.inj hr]
      exact h q hq
  · exact State.cell_of_standing (s.standing_sealSlot_other hij w) h

theorem State.cell_sealIf_record {s : State} {i : SlotId} {c : CellId} (h : ∀ r, s.record i = some r → r.cell = c)
    (o : Option SlotId) (w : CloseReason) : ∀ r, (s.sealIf o w).record i = some r → r.cell = c := by
  cases o with
  | none => exact h
  | some j => exact State.cell_sealSlot_record h _

theorem State.startGrace_closesOn {s : State} {i : SlotId} {c : CellId} (h : ∀ r, s.record i = some r → r.cell = c) :
    s.closesOn (s.startGrace i c) c := by
  unfold State.startGrace
  split
  · exact State.sealSlot_closesOn h none
  · exact s.setGrace_closesOn c fun k => some { elapsed := 0, length := 20 * k.cfg.grace.toNat }

theorem State.moveToClosing_closesOn {s : State} {i : SlotId} {c : CellId} (h : ∀ r, s.record i = some r → r.cell = c)
    (w : CloseReason) (stamp : Word) : s.closesOn (s.moveToClosing i w stamp) c := by
  unfold State.moveToClosing
  split
  · exact .refl s c
  · next r hr =>
    rw [h r hr]
    refine (s.sealClosing_closesOn c .forced).trans (((State.modRecord_changes _ _ _).seq
      (State.setProgress_changes _ _ _) (ds := [.dir, .xport])).closesOn c |>.trans (State.startGrace_closesOn ?_))
    intro q hq
    rw [(State.setProgress_changes _ i none).record, State.record_modRecord, if_pos rfl] at hq
    obtain ⟨q0, hq0, rfl⟩ := Option.map_eq_some_iff.1 hq
    exact State.cell_sealIf_record h _ _ q0 hq0

theorem State.closeOpen_closesOn (s : State) (c : CellId) (w : CloseReason) (stamp : Word) :
    s.closesOn (s.closeOpen c w stamp) c := by
  unfold State.closeOpen
  split
  · exact .refl s c
  · next i hi => exact State.moveToClosing_closesOn (fun r hr => (State.openOn_spec hi hr).2) w stamp

/-! ## The lines of a cell (R23, R24) -/

@[simp] theorem Cell.line_setLine (k : Cell) (l m : Line) (v : InputLine) :
    (k.setLine l v).line m = if m = l then v else k.line m := by
  cases l <;> cases m <;> rfl

theorem State.cell_setLine (s : State) (c d : CellId) (l : Line) (v : InputLine) :
    (s.setLine c l v).cell d = if d = c then (s.cell c).setLine l v else s.cell d := s.cell_modCell c d _

@[simp] theorem State.cell_setLine_same (s : State) (c : CellId) (l : Line) (v : InputLine) :
    (s.setLine c l v).cell c = (s.cell c).setLine l v := by rw [State.cell_setLine, if_pos rfl]

theorem State.setLine_changes (s : State) (c : CellId) (l : Line) (v : InputLine) :
    s.changesOnly (s.setLine c l v) [.cells] := s.modCell_changes c _

theorem State.setLine_cellsKeptBut (s : State) (c : CellId) (l : Line) (v : InputLine) :
    s.cellsKeptBut (s.setLine c l v) c := s.modCell_cellsKeptBut c _

theorem Cell.onlyTimed.line {k k' : Cell} (h : k.onlyTimed k') (l : Line) : k'.line l = k.line l := by
  rw [h]
  cases l <;> rfl

/-! ## Recognitions (R24, R25) -/

section

variable {s : State} {c : CellId} {l : Line} {v : Level}

theorem State.recognizeDue_of_none (h : ((s.cell c).line l).candidate = none) : s.recognizeDue c l = s := by
  rw [State.recognizeDue, h]

theorem State.recognizeDue_of_candidate {d : Candidate} (h : ((s.cell c).line l).candidate = some d) :
    s.recognizeDue c l = if d.width ≤ d.held then s.recognize c l d.level else s := by
  rw [State.recognizeDue, h]
  simp only [Candidate.isDue, decide_eq_true_eq]

theorem State.recognizeDue_of_waiting (h : ∀ d, ((s.cell c).line l).candidate = some d → d.held < d.width) :
    s.recognizeDue c l = s := by
  cases hd : ((s.cell c).line l).candidate with
  | none => exact State.recognizeDue_of_none hd
  | some d => rw [State.recognizeDue_of_candidate hd, if_neg (Nat.not_le.2 (h d hd))]

theorem State.rawChange_cancels (hpin : ((s.cell c).line l).pin ≠ v) (h : ((s.cell c).line l).recognized = v) :
    s.rawChange c l v = s.setLine c l { (s.cell c).line l with pin := v, candidate := none } := by
  rw [State.rawChange, if_neg hpin, if_pos h.symm]

theorem State.rawChange_recognizes (hpin : ((s.cell c).line l).pin ≠ v) (h : ((s.cell c).line l).recognized ≠ v)
    (hoff : (s.cell c).cfg.filter = .off) : s.rawChange c l v = s.recognize c l v := by
  rw [State.rawChange, if_neg hpin, if_neg (Ne.symm h), if_pos hoff]

theorem State.rawChange_opens (hpin : ((s.cell c).line l).pin ≠ v) (h : ((s.cell c).line l).recognized ≠ v)
    (hon : (s.cell c).cfg.filter ≠ .off) :
    s.rawChange c l v = s.setLine c l { (s.cell c).line l with
      pin := v, candidate := some { level := v, held := 0, width := (s.cell c).cfg.filter.width } } := by
  rw [State.rawChange, if_neg hpin, if_neg (Ne.symm h), if_neg hon]

/-- Both ways of recognizing a level come to the same: the line's recognition. -/
theorem State.recognizesNow.exec_eq {i : Instr} (h : s.recognizesNow i c l v) : exec i s = .next (s.recognize c l v) := by
  rcases h with ⟨rfl, d, hd, rfl, hheld⟩ | ⟨rfl, hoff, hnone, hpin, hrec⟩
  · show execEdgeRecognition c l d.level s = _
    rw [execEdgeRecognition, hd]
    simp only [if_true]
    rw [State.recognizeDue_of_candidate hd, if_pos hheld]
  · show execLineLevelChange c l v s = _
    rw [execLineLevelChange, State.recognizeDue_of_none hnone, State.rawChange_recognizes hpin hrec hoff]

/-- The recognized level, before what an active edge does. -/
def State.levelled (s : State) (c : CellId) (l : Line) (v : Level) : State :=
  s.setLine c l { pin := v, recognized := v, candidate := none }

theorem Polarity.isActive_iff (p : Polarity) (v : Level) : p.isActive v = true ↔ p.activeTo v := by
  cases p <;> cases v <;> simp [Polarity.isActive, Polarity.activeTo]

theorem State.recognize_of_active (h : ((s.cell c).cfg.polarity l).activeTo v) :
    s.recognize c l v = (s.levelled c l v).activeEdge c l := if_pos ((Polarity.isActive_iff _ v).2 h)

theorem State.recognize_of_passive (h : ¬ ((s.cell c).cfg.polarity l).activeTo v) :
    s.recognize c l v = s.levelled c l v := if_neg fun ha => h ((Polarity.isActive_iff _ v).1 ha)

theorem State.levelled_changes : s.changesOnly (s.levelled c l v) [.cells] := s.setLine_changes c l _

theorem State.levelled_cellsKeptBut : s.cellsKeptBut (s.levelled c l v) c := s.setLine_cellsKeptBut c l _

@[simp] theorem State.cell_levelled :
    (s.levelled c l v).cell c = (s.cell c).setLine l { pin := v, recognized := v, candidate := none } :=
  s.cell_setLine_same c l _

/-- The state of an active UNLOAD edge before the UNLOAD event is delivered. -/
def State.unloadStamped (s : State) (c : CellId) (v : Level) : State :=
  (s.levelled c .unload v).modCell c fun k => { k with lastUnload := some s.time }

theorem State.unloadStamped_changes : s.changesOnly (s.unloadStamped c v) [.cells] :=
  s.levelled_changes.trans (State.modCell_changes _ c _)

theorem State.unloadStamped_cellsKeptBut : s.cellsKeptBut (s.unloadStamped c v) c :=
  s.levelled_cellsKeptBut.trans (State.modCell_cellsKeptBut _ c _)

theorem State.cell_unloadStamped :
    (s.unloadStamped c v).cell c = { s.cell c with
      unloadLine := { pin := v, recognized := v, candidate := none }, lastUnload := some s.time } := by
  rw [State.unloadStamped, State.cell_modCell, if_pos rfl, State.cell_levelled]
  rfl

theorem State.recognize_unload_active (h : (s.cell c).cfg.unloadPol.activeTo v) :
    s.recognize c .unload v = (s.unloadStamped c v).closeOpen c .unload s.time :=
  State.recognize_of_active (l := .unload) h

/-- A recognition moves its own line and no other. -/
theorem State.recognize_line : ((s.recognize c l v).cell c).line l = { pin := v, recognized := v, candidate := none } ∧
    (∀ k, k ≠ l → ((s.recognize c l v).cell c).line k = (s.cell c).line k) ∧
    s.cellsKeptBut (s.recognize c l v) c := by
  by_cases ha : ((s.cell c).cfg.polarity l).activeTo v
  · cases l with
    | load =>
      rw [State.recognize_of_active ha]
      refine ⟨?_, fun k hk => ?_, s.levelled_cellsKeptBut.trans (State.modCell_cellsKeptBut _ c _)⟩
      · show ((State.modCell _ c _).cell c).line _ = _
        rw [State.cell_modCell, if_pos rfl, State.cell_levelled]
        rfl
      · show ((State.modCell _ c _).cell c).line _ = _
        rw [State.cell_modCell, if_pos rfl, State.cell_levelled]
        cases k
        · exact absurd rfl hk
        · rfl
    | unload =>
      rw [State.recognize_unload_active ha]
      have hcloses := (s.unloadStamped c v).closeOpen_closesOn c .unload s.time
      refine ⟨?_, fun k hk => ?_, s.unloadStamped_cellsKeptBut.trans hcloses.kept⟩
      · rw [(hcloses.timed c).line, State.cell_unloadStamped]
        rfl
      · rw [(hcloses.timed c).line, State.cell_unloadStamped]
        cases k
        · rfl
        · exact absurd rfl hk
  · rw [State.recognize_of_passive ha]
    refine ⟨?_, fun k hk => ?_, s.levelled_cellsKeptBut⟩
    · rw [State.cell_levelled, Cell.line_setLine, if_pos rfl]
    · rw [State.cell_levelled, Cell.line_setLine, if_neg hk]

end

/-- Settles O20: the three outcomes of a raw change, by the recognized level and the filter. -/
theorem levelChangeOpensOrCancelsACandidate : Obligations.LevelChangeOpensOrCancelsACandidate := by
  intro s c l v hpin
  have hexec : exec (.lineLevelChange c l v) s = .next ((s.recognizeDue c l).rawChange c l v) := rfl
  refine ⟨fun hon hnone hrec => ⟨_, hexec, ?_⟩, fun d hd hheld hrec => ⟨_, hexec, ?_⟩,
    fun hoff hnone hrec => ⟨_, hexec, ?_⟩⟩
  · rw [State.recognizeDue_of_none hnone, State.rawChange_opens hpin hrec hon]
    exact ⟨by simp, by simp, s.setLine_cellsKeptBut c l _, s.setLine_changes c l _⟩
  · rw [State.recognizeDue_of_candidate hd, if_neg (Nat.not_le.2 hheld), State.rawChange_cancels hpin hrec]
    exact ⟨by simp, by simp, s.setLine_cellsKeptBut c l _, s.setLine_changes c l _⟩
  · rw [State.recognizeDue_of_none hnone, State.rawChange_recognizes hpin hrec hoff]
    exact State.recognize_line

/-- Settles O21: the recognition of a LOAD level, in the active direction and in the other. -/
theorem loadEdgeIsStamped : Obligations.LoadEdgeIsStamped := by
  intro s i c v h
  refine ⟨_, h.exec_eq, ?_⟩
  by_cases ha : (s.cell c).cfg.loadPol.activeTo v
  · rw [State.recognize_of_active (l := .load) ha, if_pos ha]
    refine ⟨?_, s.levelled_cellsKeptBut.trans (State.modCell_cellsKeptBut _ c _),
      s.levelled_changes.trans (State.modCell_changes _ c _)⟩
    show (State.modCell _ c _).cell c = _
    rw [State.cell_modCell, if_pos rfl, State.cell_levelled]
    rfl
  · rw [State.recognize_of_passive (l := .load) ha, if_neg ha]
    exact ⟨State.cell_levelled, s.levelled_cellsKeptBut, s.levelled_changes⟩

/-! ## The millisecond step (R26) -/

section

variable {s : State}

theorem State.progressDue_of_running {i : SlotId} {m : Timer} (h : s.progressTimer i = some m) :
    s.progressDue i = if m.length ≤ m.elapsed then s.progressExpire i else s := by
  rw [State.progressDue, h]
  simp only [Timer.isDue, decide_eq_true_eq]

theorem State.progressDue_of_waiting {i : SlotId} (h : ∀ m, s.progressTimer i = some m → m.elapsed < m.length) :
    s.progressDue i = s := by
  cases hm : s.progressTimer i with
  | none => rw [State.progressDue, hm]
  | some m => rw [State.progressDue_of_running hm, if_neg (Nat.not_le.2 (h m hm))]

theorem State.graceDue_of_waiting {c : CellId} (h : ∀ m, (s.cell c).graceTimer = some m → m.elapsed < m.length) :
    s.graceDue c = s := by
  cases hm : (s.cell c).graceTimer with
  | none => exact State.graceDue_of_stopped hm
  | some m => rw [State.graceDue_of_running hm, if_neg (Nat.not_le.2 (h m hm))]

/-- With nothing due, nothing settles. -/
theorem State.settle_of_waiting (hl : ∀ c l d, ((s.cell c).line l).candidate = some d → d.held < d.width)
    (hg : ∀ c m, (s.cell c).graceTimer = some m → m.elapsed < m.length)
    (hp : ∀ i m, s.progressTimer i = some m → m.elapsed < m.length) : s.settle = s := by
  have hlines : ∀ c, (s.recognizeDue c .load).recognizeDue c .unload = s := fun c => by
    rw [State.recognizeDue_of_waiting (hl c .load), State.recognizeDue_of_waiting (hl c .unload)]
  have hcells : allCells.foldl (fun s c => (s.recognizeDue c .load).recognizeDue c .unload) s = s :=
    List.foldl_fixed' hlines _
  have hgraces : allCells.foldl State.graceDue s = s :=
    List.foldl_fixed' (fun c => State.graceDue_of_waiting (hg c)) _
  rw [State.settle, hcells, hgraces]
  exact List.foldl_fixed' (fun i => State.progressDue_of_waiting (hp i)) _

theorem State.cell_tick (c : CellId) : s.tick.cell c = (s.cell c).tick := by
  simp [State.tick, State.cell]

theorem State.progressTimer_tick (i : SlotId) : s.tick.progressTimer i = (s.progressTimer i).map Timer.tick := by
  simp [State.tick, State.progressTimer]

end

/-- Settles O23: the step's time moves whatever settles, and with nothing due the step is the tick alone. -/
theorem timeCountAdvances : Obligations.TimeCountAdvances := by
  intro s
  refine ⟨s.settle.tick, rfl, ?_, s.settle_changes.seq s.settle.tick_changes, fun hl hg hp => ?_⟩
  · show s.settle.time + 1 = _
    rw [s.settle_changes.time]
  · rw [State.settle_of_waiting hl hg hp]
    refine ⟨s.tick_changes, fun c => ?_, fun i => s.progressTimer_tick i, rfl⟩
    rw [State.cell_tick]
    exact ⟨rfl, fun l => by cases l <;> rfl, rfl, rfl, rfl, rfl, rfl⟩

/-! ## The progress expiry (R162) -/

theorem State.startProgress_of_record {s : State} {i : SlotId} {r : Record} (h : s.record i = some r) :
    s.startProgress i = s.setProgress i (s.recipeOf r).progressTimer := by
  rw [State.startProgress, h]

theorem State.progressTimer_requestProgress (s : State) (i j : SlotId) :
    (s.requestProgress i).progressTimer j = s.progressTimer j := by
  unfold State.requestProgress
  split
  · rfl
  · split <;> rfl

theorem State.sumQ_requestProgress (s : State) (i : SlotId) :
    (s.requestProgress i).xport.sumQ =
      if (i, SumKind.progress) ∉ s.xport.sumQ ∧ s.xport.sumQ.length < 8 then s.xport.sumQ ++ [(i, .progress)]
      else s.xport.sumQ := by
  unfold State.requestProgress
  by_cases hm : (i, SumKind.progress) ∈ s.xport.sumQ
  · rw [if_pos hm, if_neg fun h => h.1 hm]
  · rw [if_neg hm]
    by_cases hlen : s.xport.sumQ.length < 8
    · rw [if_pos (show s.xport.sumQ.length < Config.sumCap from hlen), if_pos ⟨hm, hlen⟩]
      rfl
    · rw [if_neg (show ¬ s.xport.sumQ.length < Config.sumCap from hlen), if_neg fun h => hlen h.2]

/-- Settles O25: the request, and then the timer's next period. -/
theorem progressExpiryRequestsASummary : Obligations.ProgressExpiryRequestsASummary := by
  intro s i m r hm hdue hr hperiod
  have hchanges := s.requestProgress_changes i
  have hexec : s.progressDue i = (s.requestProgress i).setProgress i (s.recipeOf r).progressTimer := by
    rw [State.progressDue_of_running hm, if_pos hdue, State.progressExpire,
      State.startProgress_of_record ((hchanges.record i).trans hr), hchanges.recipeOf]
  refine ⟨s.progressDue i, rfl, ?_⟩
  rw [hexec]
  refine ⟨?_, s.sumQ_requestProgress i, fun j hj => ?_, hchanges.trans (State.setProgress_changes _ _ _)⟩
  · rw [State.progressTimer_setProgress, if_pos rfl]
    exact if_neg hperiod
  · rw [State.progressTimer_setProgress, if_neg hj, State.progressTimer_requestProgress]

end Sys2Proof.Machine

/-! SUPPORT. The map store and the site runs: what the resolution of one result leaves of the die cells, the record, the
serial and the tags, the zone lookup, and the run of a site (R40, R64, R103 to R113). -/

namespace Sys2Proof.Machine

set_option Elab.async false

/-! ## Die cells (R97, R98, R199) -/

theorem dieAddr_inj {x x' y y' : Nat} (hx : x < 512) (hx' : x' < 512) (h : dieAddr x y = dieAddr x' y') :
    x = x' ∧ y = y' := by
  simp only [dieAddr, Config.dieSide] at h
  omega

theorem dieOfByte_tested (b : Fin 64) {n : Nat} (h1 : 1 ≤ n) (h3 : n ≤ 3) :
    dieOfByte (DieCell.tested b n).byte = .tested b n := by
  have hb := b.isLt
  have hbyte : ((DieCell.tested b n).byte).toNat = 64 * n + b.val := by
    rw [DieCell.byte, toNat_natByte (by omega)]
  have hcount : (64 * n + b.val) / 64 = n := by omega
  have hbin : (64 * n + b.val) % 64 = b.val := by omega
  simp only [dieOfByte, hbyte, hcount, hbin]
  rw [if_neg (by omega)]

theorem State.frame_setFrame (s : State) (f g : FrameId) (v : MapFrame) :
    (s.setFrame f v).frame g = if g = f then v else s.frame g := by
  split
  · next h => rw [h, State.frame_setFrame_same]
  · next h => exact s.frame_setFrame_other v h

/-- A die cell is read off its frame's store. -/
theorem State.die_congr {s t : State} {f : FrameId} (h : (t.frame f).dies = (s.frame f).dies) (x y : Nat) :
    t.die f x y = s.die f x y := by
  rw [State.die, State.die, h]

section

variable {s : State} {f : FrameId} {x y : Nat} {d : DieCell}

theorem State.frame_setDie (g : FrameId) :
    (s.setDie f x y d).frame g = if g = f then
      { s.frame f with dies := storeWrite untestedDie (s.frame f).dies (dieAddr x y) d.byte } else s.frame g :=
  s.frame_setFrame f g _

theorem State.die_setDie_same (hwf : storeWf untestedDie (s.frame f).dies) (hd : dieOfByte d.byte = d) :
    (s.setDie f x y d).die f x y = d := by
  rw [State.die, State.frame_setDie, if_pos rfl]
  simp only
  rw [storeRead_storeWrite_same _ _ _ _ hwf, hd]

theorem State.die_setDie_other (hwf : storeWf untestedDie (s.frame f).dies) (hx : x < 512) {x' y' : Nat}
    (hx' : x' < 512) (h : (x', y') ≠ (x, y)) : (s.setDie f x y d).die f x' y' = s.die f x' y' := by
  have haddr : dieAddr x' y' ≠ dieAddr x y := fun he =>
    h (Prod.ext_iff.2 (dieAddr_inj hx' hx he))
  rw [State.die, State.frame_setDie, if_pos rfl]
  simp only
  rw [storeRead_storeWrite_other _ _ _ haddr hwf, State.die]

theorem State.frame_countChange (i : SlotId) (g : FrameId) :
    (s.countChange i f y).frame g = if g = f then { s.frame f with serial := (s.frame f).serial + 1 } else s.frame g := by
  rw [State.countChange, (State.changeNotice_changes _ i f y).frame, State.frame_setFrame]

theorem State.die_countChange (i : SlotId) (x' y' : Nat) : (s.countChange i f y).die f x' y' = s.die f x' y' :=
  State.die_congr (by rw [State.frame_countChange, if_pos rfl]) x' y'

theorem State.xport_countChange (i : SlotId) :
    (s.countChange i f y).xport = { s.xport with dump := s.xport.dump.map fun d =>
      if d.slot = i ∧ d.frame = f ∧ d.gone = false ∧ y < d.nextRow then { d with dirty := true } else d } := rfl

theorem State.tag_clearTagsOn_ne (i : SlotId) (q : Fin 4) : (s.clearTagsOn i).tag q ≠ some i := by
  rw [State.tag_clearTagsOn]
  split
  · exact nofun
  · assumption

end

/-! ## The resolution of one result (R103 to R112) -/

/-- What every non-void result against a die cell writes: the record's counts and the die, its tags being cleared. -/
def State.dieResolved (s : State) (i : SlotId) (f : FrameId) (q : SiteResult) (r' : Record) (b : Fin 64) (n : Nat) :
    State := ((s.clearTagsOn i).setSlot i (some r')).setDie f q.x q.y (.tested b n)

section

variable {s : State} {i : SlotId} {f : FrameId} {q : SiteResult} {r r' : Record} {b : Fin 64} {n : Nat}

theorem State.dieResolved_changes : s.changesOnly (s.dieResolved i f q r' b n) [.dir, .maps, .tags] :=
  ((s.clearTagsOn_changes i).mono.trans (State.setSlot_changes _ i _).mono).trans (State.setDie_changes _ _ _ _ _).mono

theorem State.record_dieResolved (j : SlotId) :
    (s.dieResolved i f q r' b n).record j = if j = i then some r' else s.record j := by
  rw [State.dieResolved, (State.setDie_changes _ _ _ _ _).record, State.record_setSlot, (s.clearTagsOn_changes i).record]

theorem State.frame_dieResolved (g : FrameId) :
    (s.dieResolved i f q r' b n).frame g = if g = f then
      { s.frame f with dies := storeWrite untestedDie (s.frame f).dies (dieAddr q.x q.y) (DieCell.tested b n).byte }
    else s.frame g := State.frame_setDie g

theorem State.die_dieResolved_same (hwf : storeWf untestedDie (s.frame f).dies) (h1 : 1 ≤ n) (h3 : n ≤ 3) :
    (s.dieResolved i f q r' b n).die f q.x q.y = .tested b n :=
  State.die_setDie_same hwf (dieOfByte_tested b h1 h3)

theorem State.die_dieResolved_other (hwf : storeWf untestedDie (s.frame f).dies) (hx : q.x < 512) {x y : Nat}
    (hx' : x < 512) (h : (x, y) ≠ (q.x, q.y)) : (s.dieResolved i f q r' b n).die f x y = s.die f x y :=
  State.die_setDie_other (s := (s.clearTagsOn i).setSlot i (some r')) hwf hx hx' h

theorem State.tag_dieResolved (p : Fin 4) : (s.dieResolved i f q r' b n).tag p ≠ some i := s.tag_clearTagsOn_ne i p

theorem State.resolveResult_new (hv : q.cls ≠ .void) (hm : r.mapFrame = some f) (hd : s.die f q.x q.y = .untested) :
    s.resolveResult i r q = ((s.dieResolved i f q (r.firstResult q) q.bin 1).countChange i f q.y, .new, 1) := by
  have hd' : (s.clearTagsOn i).die f q.x q.y = .untested := hd
  rw [State.resolveResult, if_neg hv, hm]
  simp only
  rw [hd']
  rfl

theorem State.resolveResult_counted (hv : q.cls ≠ .void) (hm : r.mapFrame = none) :
    s.resolveResult i r q = ((s.clearTagsOn i).setSlot i (some (r.firstResult q)), .counted, 0) := by
  rw [State.resolveResult, if_neg hv, hm]
  rfl

theorem State.resolveResult_retest (hv : q.cls ≠ .void) (hm : r.mapFrame = some f)
    (hd : s.die f q.x q.y = .tested b n) :
    s.resolveResult i r q = (s.clearTagsOn i).resolveRetest i r f q b n := by
  have hd' : (s.clearTagsOn i).die f q.x q.y = .tested b n := hd
  rw [State.resolveResult, if_neg hv, hm]
  simp only
  rw [hd']

theorem State.resolveRetest_replaced
    (h : (s.recipeOf r).policy.replaces (s.bank r.bank).bins[b.val].cls = true) :
    (s.clearTagsOn i).resolveRetest i r f q b n =
      ((s.dieResolved i f q (r.countReplace q b (s.bank r.bank).bins[b.val].cls) q.bin (min (n + 1) 3)).countChange
        i f q.y, .replaced, min (n + 1) 3) := if_pos h

/-- The alert of a retest that RECHECK_ONLY keeps (R110). -/
def retestNotice (i : SlotId) (r : Record) (q : SiteResult) : Alert :=
  { kind := .unexpectedRetest, cell := some r.cell, slot := some i, key := some r.key, index := some q.site.val }

theorem State.resolveRetest_kept
    (h : (s.recipeOf r).policy.replaces (s.bank r.bank).bins[b.val].cls = false) :
    (s.clearTagsOn i).resolveRetest i r f q b n =
      (if (s.recipeOf r).policy = .recheckOnly then
          (s.dieResolved i f q (r.countKeep q) b (min (n + 1) 3)).raise (retestNotice i r q)
        else s.dieResolved i f q (r.countKeep q) b (min (n + 1) 3), .kept, min (n + 1) 3) :=
  if_neg (Bool.eq_false_iff.1 h)

end

/-- Settles O32: the equation of a first result, against a die cell and without a map. -/
theorem firstResultIsNewOrCounted : Obligations.FirstResultIsNewOrCounted := by
  intro s i r q hwf hv hx
  refine ⟨fun f htally hf hdie => ?_, fun htally => ?_⟩
  · have hdies := hwf.2.2 f
    rw [State.resolveResult_new hv (Record.mapFrame_of_mapped htally hf) hdie]
    have hchange := State.countChange_changes (s.dieResolved i f q (r.firstResult q) q.bin 1) i f q.y
    refine ⟨rfl, ?_, ?_, fun x y hx' hne => ?_, ?_, ?_, fun g hg => ?_, fun p => ?_, fun j hj => ?_,
      State.dieResolved_changes.seq hchange⟩
    · rw [hchange.record, State.record_dieResolved, if_pos rfl]
    · rw [State.die_countChange, State.die_dieResolved_same hdies (le_refl 1) (by decide)]
    · rw [State.die_countChange, State.die_dieResolved_other hdies hx hx' hne]
    · rw [State.frame_countChange, if_pos rfl, State.frame_dieResolved, if_pos rfl]
    · rw [State.xport_countChange, State.dieResolved_changes.xport]
    · rw [State.frame_countChange, if_neg hg, State.frame_dieResolved, if_neg hg]
    · rw [hchange.tag]
      exact State.tag_dieResolved p
    · rw [hchange.record, State.record_dieResolved, if_neg hj]
  · rw [State.resolveResult_counted hv (Record.mapFrame_of_tallyOnly htally)]
    refine ⟨rfl, State.record_setSlot_same _ i _, s.tag_clearTagsOn_ne i, fun j hj => ?_,
      (s.clearTagsOn_changes i).seq (State.setSlot_changes _ i _)⟩
    rw [State.record_setSlot, if_neg hj, (s.clearTagsOn_changes i).record]

/-! ## Retests (R108 to R111) -/

theorem Policy.replaces_iff (p : Policy) (c0 : BinClass) :
    p.replaces c0 = true ↔ p = .latest ∨ (p = .passWins ∧ c0 ≠ .pass) ∨ (p = .recheckOnly ∧ c0 = .recheck) := by
  cases p <;> simp [Policy.replaces]

/-- One die moves between bins; from a bin to itself nothing moves. -/
theorem moveBin_get (v : Vector Word 64) (old new b : Fin 64) :
    (moveBin v old new)[b.val] = v[b.val] - (if b = old then 1 else 0) + (if b = new then 1 else 0) := by
  have hset : ∀ (w : Vector Word 64) (k : Fin 64) (x : Word), (w.set k.val x)[b.val] = if b = k then x else w[b.val] := by
    intro w k x
    rw [Vector.getElem_set]
    simp only [eq_comm, Fin.ext_iff]
  rw [moveBin, hset]
  by_cases hn : b = new
  · subst hn
    rw [if_pos rfl, if_pos rfl, hset]
    split
    · next h => rw [h]
    · simp
  · rw [if_neg hn, if_neg hn, hset]
    split
    · next h => simp [h]
    · simp

/-- Settles O33: the two outcomes of a retest, by its policy and the old result's class. -/
theorem retestFollowsThePolicy : Obligations.RetestFollowsThePolicy := by
  intro s i r q f b0 n c0 hwf hv htally hf hdie hc0
  subst hc0
  have hdies := hwf.2.2 f
  have hn : 1 ≤ min (n + 1) 3 := by omega
  have hn3 : min (n + 1) 3 ≤ 3 := by omega
  rw [State.resolveResult_retest hv (Record.mapFrame_of_mapped htally hf) hdie]
  cases hrep : (s.recipeOf r).policy.replaces (s.bank r.bank).bins[b0.val].cls with
  | true =>
    rw [State.resolveRetest_replaced hrep]
    have hchange := State.countChange_changes (s.dieResolved i f q
      (r.countReplace q b0 (s.bank r.bank).bins[b0.val].cls) q.bin (min (n + 1) 3)) i f q.y
    refine ⟨r.countReplace q b0 (s.bank r.bank).bins[b0.val].cls, ?_, rfl, rfl, rfl, rfl, rfl, ?_,
      fun hx x y hx' hne => ?_, fun g hg => ?_, fun p => ?_, fun j hj => ?_⟩
    · rw [hchange.record, State.record_dieResolved, if_pos rfl]
    · rw [if_pos ((Policy.replaces_iff _ _).1 hrep)]
      refine ⟨rfl, ?_, rfl, rfl, ?_, fun b => moveBin_get r.bins b0 q.bin b, rfl, ?_, ?_⟩
      · rw [State.die_countChange, State.die_dieResolved_same hdies hn hn3]
      · rw [State.frame_countChange, if_pos rfl, State.frame_dieResolved, if_pos rfl]
      · rw [hchange.alerts, State.dieResolved_changes.alerts]
      · rw [State.xport_countChange, State.dieResolved_changes.xport]
    · rw [State.die_countChange, State.die_dieResolved_other hdies hx hx' hne]
    · rw [State.frame_countChange, if_neg hg, State.frame_dieResolved, if_neg hg]
    · rw [hchange.tag]
      exact State.tag_dieResolved p
    · rw [hchange.record, State.record_dieResolved, if_neg hj]
  | false =>
    rw [State.resolveRetest_kept hrep]
    have hraise : ∀ u : State, u.changesOnly
        (if (s.recipeOf r).policy = .recheckOnly then u.raise (retestNotice i r q) else u) [.cells, .alerts] := fun u => by
      split
      · exact u.raise_changes _
      · exact .refl u _
    have hchange := hraise (s.dieResolved i f q (r.countKeep q) b0 (min (n + 1) 3))
    refine ⟨r.countKeep q, ?_, rfl, rfl, rfl, rfl, rfl, ?_, fun hx x y hx' hne => ?_, fun g hg => ?_, fun p => ?_,
      fun j hj => ?_⟩
    · rw [hchange.record, State.record_dieResolved, if_pos rfl]
    · rw [if_neg fun h => Bool.eq_false_iff.1 hrep ((Policy.replaces_iff _ _).2 h)]
      refine ⟨rfl, ?_, rfl, rfl, rfl, rfl, ?_, ?_, ?_⟩
      · rw [State.die_congr (congrArg MapFrame.dies (hchange.frame f)), State.die_dieResolved_same hdies hn hn3]
      · rw [hchange.frame, State.frame_dieResolved, if_pos rfl]
      · rw [hchange.xport, State.dieResolved_changes.xport]
      · split
        · exact State.alerts_raise_congr State.dieResolved_changes.alerts State.dieResolved_changes.time _
        · exact State.dieResolved_changes.alerts
    · rw [State.die_congr (congrArg MapFrame.dies (hchange.frame f)), State.die_dieResolved_other hdies hx hx' hne]
    · rw [hchange.frame, State.frame_dieResolved, if_neg hg]
    · rw [hchange.tag]
      exact State.tag_dieResolved p
    · rw [hchange.record, State.record_dieResolved, if_neg hj]

/-! ## The zone lookup (R40) -/

theorem ZoneEntry.matchesDie_iff (z : ZoneEntry) (x y : Nat) :
    z.matchesDie x y = true ↔ z.enabled = true ∧
      x / 2 ^ (9 - z.xBits.toNat) = z.xCompare.toNat / 2 ^ (9 - z.xBits.toNat) ∧
      y / 2 ^ (9 - z.yBits.toNat) = z.yCompare.toNat / 2 ^ (9 - z.yBits.toNat) := by
  simp [ZoneEntry.matchesDie, axisMatches, and_assoc]

theorem allZoneEntries_find {p : Fin 8 → Bool} {z : Fin 8} :
    allZoneEntries.find? p = some z ↔ p z = true ∧ ∀ z' < z, p z' = false := by
  have hentries : allZoneEntries = List.finRange 8 := rfl
  rw [hentries, ← Fin.find?_eq_find?_finRange, Fin.find?_eq_some_iff]

/-- Settles O34: the lookup is the first match in the order of the entries. -/
theorem zoneLookupTakesTheFirstMatch : Obligations.ZoneLookupTakesTheFirstMatch := by
  intro k x y hit hhit
  have hmatch : ∀ z : Fin 8, k.zones[z.val].matchesDie x y = true ↔ hit z := fun z =>
    (ZoneEntry.matchesDie_iff _ x y).trans (hhit z).symm
  refine ⟨fun z hz hfirst => ?_, fun hnone => ?_⟩
  · have hfind : (allZoneEntries.find? fun i => k.zones[i.val].matchesDie x y) = some z :=
      allZoneEntries_find.2 ⟨(hmatch z).2 hz, fun z' hlt => Bool.eq_false_iff.2 fun h => hfirst z' hlt ((hmatch z').1 h)⟩
    rw [Bank.zoneOf, hfind]
    rfl
  · have hfind : (allZoneEntries.find? fun i => k.zones[i.val].matchesDie x y) = none :=
      List.find?_eq_none.2 fun z _ h => hnone z ((hmatch z).1 h)
    rw [Bank.zoneOf, hfind]

/-! ## The run of a site (R64, R134) -/

theorem toNat_satAdd_byte_one (a : Byte) : satAdd a 1 = BitVec.ofNat 8 (min (a.toNat + 1) 255) := rfl

section

variable {s : State} {c : CellId} {k : Fin 16} {limit : Nat}

/-- A lengthened run, before its check. -/
def State.runCounted (s : State) (c : CellId) (k : Fin 16) : State :=
  s.modCell c fun x => { x with runs := x.runs.set k.val (satAdd (s.cell c).runs[k.val] 1) }

/-- The state with a site's suspect mark set, as its run reaches the limit. -/
def State.marked (s : State) (c : CellId) (k : Fin 16) : State :=
  (s.runCounted c k).modCell c fun x => { x with suspects := x.suspects.set k.val true }

/-- The alert of a run that has reached its limit. -/
def siteRunNotice (c : CellId) (k : Fin 16) (n : Byte) : Alert :=
  { kind := .siteRun, cell := some c, index := some k.val, value := some (n.setWidth 16) }

theorem State.siteRun_of_fault {cls : BinClass} (h : cls = .fail ∨ cls = .recheck) :
    s.siteRun c k cls limit =
      if 0 < limit ∧ limit ≤ (satAdd (s.cell c).runs[k.val] 1).toNat ∧ (s.cell c).suspects[k.val] = false then
        (s.marked c k).raise (siteRunNotice c k (satAdd (s.cell c).runs[k.val] 1))
      else s.runCounted c k := by
  rcases h with rfl | rfl <;> rfl

theorem State.cell_runCounted :
    (s.runCounted c k).cell c = { s.cell c with
      runs := (s.cell c).runs.set k.val (satAdd (s.cell c).runs[k.val] 1) } := by
  rw [State.runCounted, State.cell_modCell, if_pos rfl]

theorem State.cell_marked :
    (s.marked c k).cell c = { s.cell c with
      runs := (s.cell c).runs.set k.val (satAdd (s.cell c).runs[k.val] 1)
      suspects := (s.cell c).suspects.set k.val true } := by
  rw [State.marked, State.cell_modCell, if_pos rfl, State.cell_runCounted]

theorem State.siteRun_cellsKeptBut (cls : BinClass) : s.cellsKeptBut (s.siteRun c k cls limit) c := by
  have hfault : ∀ cls, cls = .fail ∨ cls = .recheck → s.cellsKeptBut (s.siteRun c k cls limit) c := fun cls h => by
    rw [State.siteRun_of_fault h]
    split
    · exact ((s.modCell_cellsKeptBut c _).trans (State.modCell_cellsKeptBut _ c _)).trans
        (State.raise_cellsKeptBut _ rfl)
    · exact s.modCell_cellsKeptBut c _
  cases cls with
  | void => exact .refl s c
  | pass => exact s.modCell_cellsKeptBut c _
  | fail => exact hfault _ (.inl rfl)
  | recheck => exact hfault _ (.inr rfl)

end

/-- Settles O37: the outcomes by class, a fault's by the limit and the mark. -/
theorem siteRunFollowsTheClass : Obligations.SiteRunFollowsTheClass := by
  intro s c k cls limit n hn
  have hsat : n = satAdd (s.cell c).runs[k.val] 1 := hn
  subst hsat
  refine ⟨fun h => by subst h; rfl, fun h => ?_, fun h => ?_, State.siteRun_cellsKeptBut cls⟩
  · subst h
    refine ⟨?_, ?_, s.modCell_changes c _⟩
    · exact congrArg Cell.runs ((s.cell_modCell c c _).trans (if_pos rfl))
    · exact congrArg Cell.suspects ((s.cell_modCell c c _).trans (if_pos rfl))
  · rw [State.siteRun_of_fault h]
    split
    · refine ⟨?_, ?_, ?_⟩
      · rw [State.cell_raise, State.cell_marked]
      · rw [State.cell_raise, State.cell_marked]
      · exact State.alerts_raise_congr (s := s) (t := s.marked c k) rfl rfl _
    · refine ⟨?_, ?_, rfl⟩
      · rw [State.cell_runCounted]
      · rw [State.cell_runCounted]

end Sys2Proof.Machine

/-! SUPPORT. The laws as they stand in the records' standings: what each of them reads, said through `State.standing`,
and the count of the records bound to a bank (R41, R42, R73, R97). -/

namespace Sys2Proof.Machine

set_option Elab.async false

/-! ## The roles of active records -/

/-- What the laws of bound counts and records read of an OPEN or CLOSING record. -/
structure Role where
  state : RecordState
  key   : Key
  cell  : CellId
  bank  : BankId

def Record.role (r : Record) : Role := { state := r.state, key := r.key, cell := r.cell, bank := r.bank }

/-- The role of the record in a slot when it is OPEN or CLOSING; none for any other slot. -/
def State.role (s : State) (i : SlotId) : Option Role := ((s.record i).filter Record.isActive).map Record.role

section

variable {s t : State} {i j : SlotId} {r : Record}

theorem State.role_eq_some {ρ : Role} :
    s.role i = some ρ ↔ ∃ r, s.record i = some r ∧ r.isActive = true ∧ r.role = ρ := by
  simp only [State.role, Option.map_eq_some_iff, Option.filter_eq_some_iff, and_assoc]

theorem State.role_of_record (h : s.record i = some r) :
    s.role i = if r.isActive then some r.role else none := by
  rw [State.role, h, Option.filter_some]
  split <;> rfl

theorem State.role_of_active (h : s.record i = some r) (ha : r.isActive = true) : s.role i = some r.role :=
  (State.role_of_record h).trans (if_pos ha)

theorem State.role_of_idle (h : ∀ r, s.record i = some r → r.isActive = false) : s.role i = none := by
  cases hr : s.record i with
  | none => rw [State.role, hr]; rfl
  | some q => rw [State.role_of_record hr, h q hr]; rfl

theorem State.role_congr (h : t.record i = s.record i) : t.role i = s.role i := by
  rw [State.role, State.role, h]

/-- The role is part of the standing. -/
theorem State.role_of_standing (h : t.standing i = s.standing i) : t.role i = s.role i := by
  cases hs : s.record i with
  | none =>
    have ht : t.record i = none := State.standing_eq_none.1 (h.trans (State.standing_eq_none.2 hs))
    exact State.role_congr (ht.trans hs.symm)
  | some r =>
    obtain ⟨q, hq, hqr⟩ := State.standing_eq_some.1 (h.trans (State.standing_of_record hs))
    have hactive : q.isActive = r.isActive := congrArg (fun p : Standing => p.state == .opened || p.state == .closing) hqr
    have hrole : q.role = r.role :=
      congrArg (fun p : Standing => ({ state := p.state, key := p.key, cell := p.cell, bank := p.bank } : Role)) hqr
    rw [State.role_of_record hq, State.role_of_record hs, hactive, hrole]

theorem State.active_eq_some : s.active i = some r ↔ s.record i = some r ∧ r.isActive = true := by
  unfold State.active
  cases hr : s.record i with
  | none => simp
  | some q =>
    simp only [Option.some.injEq]
    split
    · next h =>
      constructor
      · rintro hqr
        rw [← Option.some.inj hqr]
        exact ⟨rfl, Record.isActive_iff.2 h⟩
      · rintro ⟨rfl, -⟩
        rfl
    · next h =>
      constructor
      · exact nofun
      · rintro ⟨rfl, ha⟩
        exact absurd (Record.isActive_iff.1 ha) h

end

/-! ## The record law (R41, R73) -/

/-- Two roles agree in no key, and not both in cell and state. -/
def Role.apart (p q : Role) : Prop := p.key ≠ q.key ∧ ¬ (p.cell = q.cell ∧ p.state = q.state)

/-- The active records of different slots are apart. -/
def State.apart (s : State) : Prop :=
  ∀ i j, i ≠ j → ∀ p q, s.role i = some p → s.role j = some q → p.apart q

/-- A bank that records may be bound to. -/
def State.binds (s : State) (lb : BankId) : Prop := (s.bank lb).state = .live ∨ (s.bank lb).state = .retiring

/-- Every active record is bound to a bank that is LIVE or RETIRING. -/
def State.bankBound (s : State) : Prop := ∀ i p, s.role i = some p → s.binds p.bank

theorem State.recordLaw_iff {s : State} : s.recordLaw ↔ s.apart ∧ s.bankBound := by
  constructor
  · rintro ⟨hapart, hbank⟩
    refine ⟨fun i j hij p q hp hq => ?_, fun i p hp => ?_⟩
    · obtain ⟨r, hr, hra, rfl⟩ := State.role_eq_some.1 hp
      obtain ⟨r', hr', hra', rfl⟩ := State.role_eq_some.1 hq
      exact hapart i j hij r (State.active_eq_some.2 ⟨hr, hra⟩) r' (State.active_eq_some.2 ⟨hr', hra'⟩)
    · obtain ⟨r, hr, hra, rfl⟩ := State.role_eq_some.1 hp
      exact hbank i r (State.active_eq_some.2 ⟨hr, hra⟩)
  · rintro ⟨hapart, hbank⟩
    refine ⟨fun i j hij r hr q hq => ?_, fun i r hr => ?_⟩
    · obtain ⟨hr, hra⟩ := State.active_eq_some.1 hr
      obtain ⟨hq, hqa⟩ := State.active_eq_some.1 hq
      exact hapart i j hij _ _ (State.role_of_active hr hra) (State.role_of_active hq hqa)
    · obtain ⟨hr, hra⟩ := State.active_eq_some.1 hr
      exact hbank i _ (State.role_of_active hr hra)

/-! ## The bound counts (R42) -/

theorem State.isBoundTo_iff {s : State} {lb : BankId} {i : SlotId} :
    s.isBoundTo lb i = true ↔ ∃ p, s.role i = some p ∧ p.bank = lb := by
  unfold State.isBoundTo
  cases hr : s.record i with
  | none => simp [State.role, hr]
  | some r =>
    rw [State.role_of_record hr]
    cases ha : r.isActive <;> simp [ha, Record.role]

/-- The number of active records bound to a bank. -/
def State.boundTo (s : State) (lb : BankId) : Nat := (allSlots.filter (s.isBoundTo lb)).length

theorem State.boundLaw_iff {s : State} : s.boundLaw ↔ ∀ lb, (s.bank lb).bound = s.boundTo lb := by
  constructor
  · intro h lb
    exact h lb (by cases lb <;> simp)
  · exact fun h lb _ => h lb

theorem State.boundTo_congr {s t : State} {lb : BankId} (h : ∀ i, t.isBoundTo lb i = s.isBoundTo lb i) :
    t.boundTo lb = s.boundTo lb := by
  have hfun : t.isBoundTo lb = s.isBoundTo lb := funext h
  rw [State.boundTo, State.boundTo, hfun]

theorem State.isBoundTo_congr {s t : State} {i : SlotId} (h : t.role i = s.role i) (lb : BankId) :
    t.isBoundTo lb i = s.isBoundTo lb i := by
  rw [Bool.eq_iff_iff, State.isBoundTo_iff, State.isBoundTo_iff, h]

theorem nodup_allSlots : allSlots.Nodup := by decide

/-- One record fewer: the slot's bound standing is gone, and the others are as they were. -/
theorem State.boundTo_of_leaves {s t : State} {lb : BankId} {i : SlotId}
    (hother : ∀ j, j ≠ i → t.isBoundTo lb j = s.isBoundTo lb j) (hs : s.isBoundTo lb i = true)
    (ht : t.isBoundTo lb i = false) : s.boundTo lb = t.boundTo lb + 1 := by
  have herase : allSlots.filter (t.isBoundTo lb) = (allSlots.filter (s.isBoundTo lb)).erase i := by
    rw [(nodup_allSlots.filter _).erase_eq_filter, List.filter_filter]
    refine List.filter_congr fun j _ => ?_
    by_cases hj : j = i
    · rw [hj, ht]; simp
    · rw [hother j hj]; simp [hj]
  have hmem : i ∈ allSlots.filter (s.isBoundTo lb) := List.mem_filter.2 ⟨mem_allSlots i, hs⟩
  have hlen := List.length_erase_of_mem hmem
  have hpos := List.length_pos_of_mem hmem
  rw [State.boundTo, State.boundTo, herase]
  omega

theorem State.boundTo_pos {s : State} {lb : BankId} {i : SlotId} (h : s.isBoundTo lb i = true) : 0 < s.boundTo lb :=
  List.length_pos_of_mem (List.mem_filter.2 ⟨mem_allSlots i, h⟩)

/-! ## The frame law (R97, R99) -/

theorem State.holdsFrame_iff {s : State} {i : SlotId} {f : FrameId} :
    s.holdsFrame i f = true ↔ ∃ p, s.standing i = some p ∧ p.frame = some f := by
  unfold State.holdsFrame
  cases hr : s.record i with
  | none => simp [State.standing, hr]
  | some r => simp [State.standing_of_record hr, Record.standing]

theorem State.holdsFrame_congr {s t : State} {i : SlotId} (h : t.standing i = s.standing i) (f : FrameId) :
    t.holdsFrame i f = s.holdsFrame i f := by
  rw [Bool.eq_iff_iff, State.holdsFrame_iff, State.holdsFrame_iff, h]

/-- The frame law as four facts: the free list holds no frame twice and none that a record holds, every other frame has
a holder, and no frame has two. -/
theorem State.frameLaw_iff {s : State} : s.frameLaw ↔ s.maps.free.Nodup ∧
    (∀ i f, s.holdsFrame i f = true → f ∉ s.maps.free) ∧
    (∀ f, f ∉ s.maps.free → ∃ i, s.holdsFrame i f = true) ∧
    ∀ i j f, s.holdsFrame i f = true → s.holdsFrame j f = true → i = j := by
  constructor
  · rintro ⟨hnodup, h⟩
    have hfree : ∀ i f, s.holdsFrame i f = true → f ∉ s.maps.free := fun i f hi hf => by
      have hf' := h f
      rw [if_pos hf] at hf'
      exact Bool.false_ne_true ((hf' i).symm.trans hi)
    refine ⟨hnodup, hfree, fun f hf => ?_, fun i j f hi hj => ?_⟩
    · have hf' := h f
      rw [if_neg hf] at hf'
      obtain ⟨i, hi, -⟩ := hf'
      exact ⟨i, hi⟩
    · have hf' := h f
      rw [if_neg (hfree i f hi)] at hf'
      obtain ⟨k, -, hk⟩ := hf'
      rw [hk i hi, hk j hj]
  · rintro ⟨hnodup, hfree, hheld, hone⟩
    refine ⟨hnodup, fun f => ?_⟩
    split
    · next hf => exact fun i => Bool.eq_false_iff.2 fun hi => hfree i f hi hf
    · next hf =>
      obtain ⟨i, hi⟩ := hheld f hf
      exact ⟨i, hi, fun j hj => hone j i f hj hi⟩

/-! ## The states on the lists (R74) -/

theorem State.isIn_eq_standing {s : State} {i : SlotId} {l : List RecordState} :
    s.isIn i l = true ↔ ∃ p, s.standing i = some p ∧ p.state ∈ l := by
  unfold State.isIn
  cases hr : s.record i with
  | none => simp [State.standing, hr]
  | some r => simp [State.standing_of_record hr, Record.standing]

theorem State.isIn_congr {s t : State} {i : SlotId} (h : t.standing i = s.standing i) (l : List RecordState) :
    t.isIn i l = s.isIn i l := by
  rw [Bool.eq_iff_iff, State.isIn_eq_standing, State.isIn_eq_standing, h]

end Sys2Proof.Machine

/-! SUPPORT. What a resume and a fresh opening leave of every block, beside what they do to their own record (R83, R85 to
R87). -/

namespace Sys2Proof.Machine

set_option Elab.async false

/-! ## Progress timers (R162) -/

section

variable {s : State} {i : SlotId} {r : Record}

theorem State.xport_startProgress (h : s.record i = some r) :
    (s.startProgress i).xport = { s.xport with
      progress := s.xport.progress.set i.val (s.recipeOf r).progressTimer } := by
  rw [State.startProgress_of_record h]
  rfl

theorem State.progressTimer_startProgress (h : s.record i = some r) (j : SlotId) :
    (s.startProgress i).progressTimer j = if j = i then (s.recipeOf r).progressTimer else s.progressTimer j := by
  rw [State.startProgress_of_record h, State.progressTimer_setProgress]

theorem State.bank_bindBank (lb x : BankId) :
    (s.bindBank lb).bank x = if x = lb then { s.bank x with bound := (s.bank x).bound + 1 } else s.bank x := by
  rw [State.bindBank, State.bank_setBank]
  split
  · next h => rw [h]
  · rfl

theorem State.genCount_bindBank (lb : BankId) : (s.bindBank lb).banks.genCount = s.banks.genCount :=
  s.genCount_setBank lb _

/-- A record's recipe is read off its copy, or off the recipes of its bank. -/
theorem State.recipeOf_congr {t : State} {q : Record} (h : ∀ lb, (t.bank lb).recipes = (s.bank lb).recipes) :
    t.recipeOf q = s.recipeOf q := by
  unfold State.recipeOf
  split
  · rfl
  · rw [h]

theorem State.recipes_bindBank (lb x : BankId) : ((s.bindBank lb).bank x).recipes = (s.bank x).recipes := by
  rw [State.bank_bindBank]
  split <;> rfl

end

/-! ## A resume (R83) -/

/-- The lists as a resume leaves them: off the owed list, the SUM queue and the map pending list, its dump unchained and
its frame in transmission cancelled. -/
def State.unlisted (s : State) (i : SlotId) : State :=
  (((s.dropOwed i).removeSum (i, .final)).removePending i |>.unchainDumpOf i).cancelTx i

/-- The directory as a resume leaves it. -/
def State.reactivated (s : State) (i : SlotId) (c : CellId) : State :=
  ((s.unlisted i).withDir { (s.unlisted i).dir with
    exportOrder := (s.unlisted i).dir.exportOrder.erase i, sealOrder := (s.unlisted i).dir.sealOrder.erase i }).modRecord
    i fun r => r.resumed c

section

variable {s : State} {i : SlotId} {r : Record} (hr : s.record i = some r) (c : CellId)

theorem State.unlisted_changes : s.changesOnly (s.unlisted i) [.dir, .xport, .hall] :=
  ((((s.dropOwed_changes i).trans (State.removeSum_changes _ _)).trans (State.removePending_changes _ i).mono).trans
    (State.modDump_changes _ _).mono).seq (State.cancelTx_changes _ i)

theorem State.unlisted_lists : ((s.dropOwed i).removeSum (i, .final)).changesOnly (s.unlisted i) [.xport, .hall] :=
  (((State.removePending_changes _ i).trans (State.modDump_changes _ _))).seq (State.cancelTx_changes _ i)

theorem State.unlisted_standings : s.sameStandings (s.unlisted i) :=
  (((s.dropOwed_standings i).trans (State.removeSum_standings _ _))).trans (State.unlisted_lists).standing

theorem State.unlisted_orders : s.ordersKept (s.unlisted i) :=
  (((s.dropOwed_orders i).trans (State.removeSum_orders _ _))).trans (State.unlisted_lists).orders

theorem State.xport_unlisted : (s.unlisted i).xport = { ((s.dropOwed i).removeSum (i, .final)).xport with
    mapQ := s.xport.mapQ.filter fun e => e.1 != i
    dump := s.xport.dump.map fun d => if d.slot = i ∧ d.gone = false then { d with origin := .request } else d } := by
  have hsums : s.xport.sumsOnly ((s.dropOwed i).removeSum (i, .final)).xport :=
    (s.dropOwed_sumsOnly i).trans (State.removeSum_sumsOnly _ _)
  rw [← hsums.mapQ, ← hsums.dump]
  rfl

theorem State.hall_unlisted : (s.unlisted i).hall = { s.hall with
    tx := s.hall.tx.map fun t => { t with action := t.action.cancelFor i } } := by
  have hhall : ((s.dropOwed i).removeSum (i, .final)).hall = s.hall :=
    ((s.dropOwed_changes i).trans (State.removeSum_changes _ _)).hall
  rw [← hhall]
  rfl

theorem State.reactivated_changes : s.changesOnly (s.reactivated i c) [.dir, .xport, .hall] :=
  ((s.unlisted_changes).trans (State.withDir_changes _ _).mono).trans (State.modRecord_changes _ i _).mono

theorem State.reactivated_unlisted : (s.unlisted i).changesOnly (s.reactivated i c) [.dir] :=
  (State.withDir_changes _ _).trans (State.modRecord_changes _ i _)

theorem State.record_reactivated_other {j : SlotId} (hj : j ≠ i) :
    (s.reactivated i c).record j = ((s.dropOwed i).removeSum (i, .final)).record j :=
  (State.modRecord_slotsKeptBut _ i _ j hj).trans (State.unlisted_lists.record j)

theorem State.record_reactivated_same (hr : s.record i = some r) :
    (s.reactivated i c).record i = some (r.resumed c) := by
  have hbase : ∃ b, (s.unlisted i).record i = some (r.withOwed b) := by
    rw [State.unlisted_lists.record, State.record_removeSum, State.record_dropOwed, hr]
    by_cases howed : i ∈ s.xport.owed <;> simp only [howed, and_true, and_false, if_true, if_false, Option.map_some] <;>
      split
    · exact ⟨false, rfl⟩
    · exact ⟨false, rfl⟩
    · exact ⟨false, rfl⟩
    · exact ⟨r.flags.summaryOwed, rfl⟩
  obtain ⟨b, hb⟩ := hbase
  rw [State.reactivated, State.record_modRecord, if_pos rfl]
  show ((s.unlisted i).record i).map _ = _
  rw [hb]
  rfl

theorem State.standing_reactivated (hr : s.record i = some r) (j : SlotId) :
    (s.reactivated i c).standing j = if j = i then some { r.standing with state := .opened, cell := c }
      else s.standing j := by
  split
  · next h =>
    subst h
    exact State.standing_of_record (State.record_reactivated_same c hr)
  · next h =>
    have hkept : (s.reactivated i c).record j = (s.unlisted i).record j :=
      (State.record_reactivated_other c h).trans (State.unlisted_lists.record j).symm
    rw [State.standing, hkept]
    exact State.unlisted_standings j

theorem State.exportOrder_reactivated :
    (s.reactivated i c).dir.exportOrder = s.dir.exportOrder.erase i := by
  have h := State.modRecord_orders ((s.unlisted i).withDir { (s.unlisted i).dir with
    exportOrder := (s.unlisted i).dir.exportOrder.erase i, sealOrder := (s.unlisted i).dir.sealOrder.erase i }) i
    fun r => r.resumed c
  exact h.1.trans (congrArg (·.erase i) (State.unlisted_orders).1)

theorem State.sealOrder_reactivated : (s.reactivated i c).dir.sealOrder = s.dir.sealOrder.erase i := by
  have h := State.modRecord_orders ((s.unlisted i).withDir { (s.unlisted i).dir with
    exportOrder := (s.unlisted i).dir.exportOrder.erase i, sealOrder := (s.unlisted i).dir.sealOrder.erase i }) i
    fun r => r.resumed c
  exact h.2.trans (congrArg (·.erase i) (State.unlisted_orders).2)

include hr

theorem State.resumeSlot_of_record :
    s.resumeSlot i c = ((s.reactivated i c).bindBank r.bank).setProgress i
      ((s.bank r.bank).recipes[r.recipe.val]).progressTimer := by
  have hrec : ((s.reactivated i c).bindBank r.bank).record i = some (r.resumed c) :=
    ((State.bindBank_changes _ _).record i).trans (State.record_reactivated_same c hr)
  have hrecipe : ((s.reactivated i c).bindBank r.bank).recipeOf (r.resumed c) =
      (s.bank r.bank).recipes[r.recipe.val] := by
    rw [State.recipeOf_congr fun x => State.recipes_bindBank r.bank x, (s.reactivated_changes c).recipeOf]
    rfl
  have hstart := State.startProgress_of_record hrec
  rw [hrecipe] at hstart
  rw [State.resumeSlot, hr]
  exact hstart

theorem State.resumeSlot_reactivated : (s.reactivated i c).changesOnly (s.resumeSlot i c) [.banks, .xport] := by
  rw [State.resumeSlot_of_record hr]
  exact (State.bindBank_changes _ _).seq (State.setProgress_changes _ _ _)

theorem State.standing_resumeSlot (j : SlotId) :
    (s.resumeSlot i c).standing j = if j = i then some { r.standing with state := .opened, cell := c }
      else s.standing j :=
  ((State.resumeSlot_reactivated hr c).standing (by decide) j).trans (State.standing_reactivated c hr j)

theorem State.record_resumeSlot_same : (s.resumeSlot i c).record i = some (r.resumed c) :=
  ((State.resumeSlot_reactivated hr c).record i).trans (State.record_reactivated_same c hr)

theorem State.record_resumeSlot_other {j : SlotId} (hj : j ≠ i) :
    (s.resumeSlot i c).record j = ((s.dropOwed i).removeSum (i, .final)).record j :=
  ((State.resumeSlot_reactivated hr c).record j).trans (State.record_reactivated_other c hj)

theorem State.exportOrder_resumeSlot : (s.resumeSlot i c).dir.exportOrder = s.dir.exportOrder.erase i :=
  (State.resumeSlot_reactivated hr c).orders.1.trans (State.exportOrder_reactivated c)

theorem State.sealOrder_resumeSlot : (s.resumeSlot i c).dir.sealOrder = s.dir.sealOrder.erase i :=
  (State.resumeSlot_reactivated hr c).orders.2.trans (State.sealOrder_reactivated c)

theorem State.bank_resumeSlot (x : BankId) :
    (s.resumeSlot i c).bank x = if x = r.bank then { s.bank x with bound := (s.bank x).bound + 1 } else s.bank x := by
  rw [State.resumeSlot_of_record hr, (State.setProgress_changes _ _ _).bank, State.bank_bindBank,
    (s.reactivated_changes c).bank]

theorem State.xport_resumeSlot :
    (s.resumeSlot i c).xport = { ((s.dropOwed i).removeSum (i, .final)).xport with
      progress := s.xport.progress.set i.val ((s.bank r.bank).recipes[r.recipe.val]).progressTimer
      mapQ := s.xport.mapQ.filter fun e => e.1 != i
      dump := s.xport.dump.map fun d => if d.slot = i ∧ d.gone = false then { d with origin := .request } else d } := by
  have hbase : ((s.reactivated i c).bindBank r.bank).xport = (s.unlisted i).xport :=
    (State.bindBank_changes _ _).xport.trans (State.reactivated_unlisted c).xport
  have hprogress : (s.unlisted i).xport.progress = s.xport.progress := by
    rw [State.xport_unlisted]
    exact ((s.dropOwed_sumsOnly i).trans (State.removeSum_sumsOnly _ _)).progress
  have hset : (s.resumeSlot i c).xport = { (s.unlisted i).xport with
      progress := (s.unlisted i).xport.progress.set i.val ((s.bank r.bank).recipes[r.recipe.val]).progressTimer } := by
    rw [State.resumeSlot_of_record hr, ← hbase]
    rfl
  rw [hset, hprogress, State.xport_unlisted]

theorem State.hall_resumeSlot :
    (s.resumeSlot i c).hall = { s.hall with tx := s.hall.tx.map fun t => { t with action := t.action.cancelFor i } } := by
  rw [(State.resumeSlot_reactivated hr c).hall, (State.reactivated_unlisted c).hall, State.hall_unlisted]

theorem State.progressTimer_resumeSlot (j : SlotId) :
    (s.resumeSlot i c).progressTimer j =
      if j = i then ((s.bank r.bank).recipes[r.recipe.val]).progressTimer else s.progressTimer j := by
  have hprogress : ((s.reactivated i c).bindBank r.bank).xport.progress = s.xport.progress := by
    rw [(State.bindBank_changes _ _).xport, (State.reactivated_unlisted c).xport, State.xport_unlisted]
    exact ((s.dropOwed_sumsOnly i).trans (State.removeSum_sumsOnly _ _)).progress
  rw [State.resumeSlot_of_record hr, State.progressTimer_setProgress]
  split
  · rfl
  · rw [State.progressTimer, hprogress, State.progressTimer]

end

/-! ## A fresh opening in its slot (R86, R87) -/

/-- The fresh record of an opening from state s. -/
def State.newRecord (s : State) (f : Option FrameId) (c : CellId) (k : Key) (p : Fin 8) (lb : BankId) : Record :=
  freshRecord k c p lb (s.bank lb).gen f (s.cell c).pendingLoad s.time

/-- The alert of an opening without a frame (R86). -/
def noFrameNotice (i : SlotId) (c : CellId) (k : Key) : Alert :=
  { kind := .noFrame, cell := some c, slot := some i, key := some k }

/-- An opening raises NO_FRAME when it has no frame. -/
def State.framed (s : State) (i : SlotId) (f : Option FrameId) (c : CellId) (k : Key) : State :=
  if f.isNone then s.raise (noFrameNotice i c k) else s

section

variable (s : State) (i : SlotId) (f : Option FrameId) (c : CellId) (k : Key) (p : Fin 8) (lb : BankId)

theorem State.framed_changes : s.changesOnly (s.framed i f c k) [.cells, .alerts] := by
  unfold State.framed
  split
  · exact s.raise_changes _
  · exact .refl s _

/-- An opening's record and frame, before the cell, the bank and the timer follow. -/
def State.placed : State := ((s.framed i f c k).clearFrame f).setSlot i (some (s.newRecord f c k p lb))

theorem State.placed_changes : s.changesOnly (s.placed i f c k p lb) [.cells, .dir, .maps, .alerts] :=
  ((s.framed_changes i f c k).mono.trans (State.clearFrame_changes _ f).mono).trans (State.setSlot_changes _ i _).mono

theorem State.openIn_eq :
    s.openIn i f c k p lb = (((s.placed i f c k p lb).modCell c fun x => { x with pendingLoad := none }).bindBank
      lb).setProgress i ((s.bank lb).recipes[p.val]).progressTimer := by
  have hrec : (((s.placed i f c k p lb).modCell c fun x => { x with pendingLoad := none }).bindBank lb).record i =
      some (s.newRecord f c k p lb) := by
    rw [(State.bindBank_changes _ _).record, (State.modCell_changes _ _ _).record]
    exact State.record_setSlot_same _ i _
  have hrecipe : (((s.placed i f c k p lb).modCell c fun x => { x with pendingLoad := none }).bindBank lb).recipeOf
      (s.newRecord f c k p lb) = (s.bank lb).recipes[p.val] := by
    rw [State.recipeOf_congr fun x => State.recipes_bindBank lb x, (State.modCell_changes _ _ _).recipeOf,
      (s.placed_changes i f c k p lb).recipeOf]
    rfl
  have hstart := State.startProgress_of_record hrec
  rw [hrecipe] at hstart
  exact hstart

theorem State.openIn_placed :
    (s.placed i f c k p lb).changesOnly (s.openIn i f c k p lb) [.cells, .banks, .xport] := by
  rw [State.openIn_eq]
  exact ((State.modCell_changes _ c _).seq (State.bindBank_changes _ _) (ds := [.cells, .banks])).seq
    (State.setProgress_changes _ _ _)

theorem State.record_openIn (j : SlotId) :
    (s.openIn i f c k p lb).record j = if j = i then some (s.newRecord f c k p lb) else s.record j := by
  rw [(s.openIn_placed i f c k p lb).record, State.placed, State.record_setSlot, (State.clearFrame_changes _ f).record,
    (s.framed_changes i f c k).record]

theorem State.standing_openIn (j : SlotId) :
    (s.openIn i f c k p lb).standing j = if j = i then some (s.newRecord f c k p lb).standing else s.standing j := by
  rw [State.standing, State.record_openIn]
  split <;> rfl

theorem State.openIn_orders : s.ordersKept (s.openIn i f c k p lb) :=
  (((s.framed_changes i f c k).orders.trans (State.clearFrame_changes _ f).orders).trans
    (State.setSlot_orders _ i _)).trans (s.openIn_placed i f c k p lb).orders

theorem State.bank_openIn (x : BankId) :
    (s.openIn i f c k p lb).bank x = if x = lb then { s.bank x with bound := (s.bank x).bound + 1 } else s.bank x := by
  rw [State.openIn_eq, (State.setProgress_changes _ _ _).bank, State.bank_bindBank, (State.modCell_changes _ c _).bank,
    (s.placed_changes i f c k p lb).bank]

theorem State.maps_openIn : (s.openIn i f c k p lb).maps = (s.clearFrame f).maps := by
  rw [(s.openIn_placed i f c k p lb).maps]
  show ((s.framed i f c k).clearFrame f).maps = _
  have hmaps : (s.framed i f c k).maps = s.maps := (s.framed_changes i f c k).maps
  cases f with
  | none => exact hmaps
  | some f =>
    show ({ (s.framed i _ c k).maps with frames := (s.framed i _ c k).maps.frames.set _ _ } : MapStore) = _
    rw [hmaps]
    rfl

theorem State.xport_openIn :
    (s.openIn i f c k p lb).xport = { s.xport with
      progress := s.xport.progress.set i.val ((s.bank lb).recipes[p.val]).progressTimer } := by
  have hbase : (((s.placed i f c k p lb).modCell c fun x => { x with pendingLoad := none }).bindBank lb).xport = s.xport := by
    rw [(State.bindBank_changes _ _).xport, (State.modCell_changes _ _ _).xport, (s.placed_changes i f c k p lb).xport]
  rw [State.openIn_eq, ← hbase]
  rfl

theorem State.progressTimer_openIn (j : SlotId) :
    (s.openIn i f c k p lb).progressTimer j =
      if j = i then ((s.bank lb).recipes[p.val]).progressTimer else s.progressTimer j := by
  rw [State.openIn_eq, State.progressTimer_setProgress, (State.bindBank_changes _ _).progressTimer,
    (State.modCell_changes _ _ _).progressTimer, (s.placed_changes i f c k p lb).progressTimer]

theorem State.alerts_openIn : (s.openIn i f c k p lb).alerts = (s.framed i f c k).alerts := by
  rw [(s.openIn_placed i f c k p lb).alerts]
  exact (State.setSlot_changes _ i _).alerts.trans (State.clearFrame_changes _ f).alerts

theorem State.cell_openIn (d : CellId) :
    (s.openIn i f c k p lb).cell d = { (s.framed i f c k).cell d with
      pendingLoad := if d = c then none else ((s.framed i f c k).cell d).pendingLoad } := by
  have hplaced : ∀ x, (s.placed i f c k p lb).cell x = (s.framed i f c k).cell x := fun x => by
    rw [State.placed, (State.setSlot_changes _ i _).cell, (State.clearFrame_changes _ f).cell]
  rw [State.openIn_eq, (State.setProgress_changes _ _ _).cell, (State.bindBank_changes _ _).cell, State.cell_modCell]
  split
  · next h => rw [h, hplaced]
  · rw [hplaced]

end

end Sys2Proof.Machine

/-! SUPPORT. What a step of the part can do, said once: every command is a run of the moves below, so a law that each
move keeps is kept by every step (1.5, 3.2, 5.1 to 5.6, 6.5, 8.2, 9.3, 9.4). -/

namespace Sys2Proof.Machine

set_option Elab.async false

/-! ## The changes that moves are made of -/

/-- From s to t every cell keeps its FIFO and its flow state. -/
def State.portsKept (s t : State) : Prop := ∀ c, (t.cell c).fifo = (s.cell c).fifo ∧ (t.cell c).flow = (s.cell c).flow

theorem State.portsKept.refl (s : State) : s.portsKept s := fun _ => ⟨rfl, rfl⟩
theorem State.portsKept.trans {s t u : State} (h : s.portsKept t) (k : t.portsKept u) : s.portsKept u :=
  fun c => ⟨(k c).1.trans (h c).1, (k c).2.trans (h c).2⟩

theorem State.changesOnly.portsKept {s t : State} {bs : List Block} (h : s.changesOnly t bs)
    (hb : .cells ∉ bs := by decide) : s.portsKept t := fun c => by rw [h.cell c hb]; exact ⟨rfl, rfl⟩

theorem State.modCell_portsKept (s : State) (c : CellId) {f : Cell → Cell} (hfifo : ∀ k, (f k).fifo = k.fifo)
    (hflow : ∀ k, (f k).flow = k.flow) : s.portsKept (s.modCell c f) := fun d => by
  rw [State.cell_modCell]
  split
  · next h => rw [h]; exact ⟨hfifo _, hflow _⟩
  · exact ⟨rfl, rfl⟩

/-- The entry of the OPEN record r in slot i to CLOSING (step 2 of R75). -/
def State.closed (s : State) (i : SlotId) (r : Record) (w : CloseReason) (stamp : Word) : State :=
  (s.setSlot i (some (r.enterClosing w stamp))).setProgress i none

/-- A state in which no bank's records are looked up: IDLE, LOADING or READY. -/
def BankState.isLoadable : BankState → Bool
  | .idle => true
  | .loading => true
  | .ready => true
  | .live => false
  | .retiring => false

/-- What the writes of a load, and its open, close and drop, keep of a bank: its count, the canonical form of its
translations, its owner's law, and that it serves no records if it did not (R44 to R51). -/
structure Bank.loadsTo (k v : Bank) : Prop where
  bound  : v.bound = k.bound
  xlate  : storeWf unassigned k.xlate → storeWf unassigned v.xlate
  owner  : k.ownerLaw → v.ownerLaw
  before : k.state.isLoadable = true
  after  : v.state.isLoadable = true

/-- The changes that leave the queues of the hall port, the ports and the commands that wait alone. L is what the laws of
bound counts and records say of the state a step begins in; a move may rely on it. -/
inductive Act (L : Prop) : State → State → Prop
  /-- Blocks that no law reads. -/
  | aside {s t : State} (h : s.changesOnly t [.engine, .time, .tags, .straps, .draws, .sent]) : Act L s t
  /-- Cells, but for their FIFOs and flow states. -/
  | cells {s t : State} (h : s.changesOnly t [.cells]) (hp : s.portsKept t) : Act L s t
  | raise (s : State) (a : Alert) : Act L s (s.raise a)
  /-- Entries leave the alert queue, or its settings change. -/
  | alerts {s t : State} (h : s.changesOnly t [.alerts]) (hq : t.alerts.queue.Sublist s.alerts.queue) : Act L s t
  | load (s : State) (lb : BankId) (v : Bank) (h : (s.bank lb).loadsTo v) : Act L s (s.setBank lb v)
  | activate (s : State) (lb : BankId) (h : (s.bank lb).state = .ready) : Act L s (s.activate lb)
  /-- A record's counts, gaps and flags that no law reads. -/
  | note (s : State) (i : SlotId) (r q : Record) (hr : s.record i = some r) (hs : q.standing = r.standing)
      (ho : q.flags.summaryOwed = r.flags.summaryOwed) : Act L s (s.setSlot i (some q))
  | resolve (s : State) (i : SlotId) (r : Record) (q : SiteResult) (hr : s.record i = some r)
      (hcap : r.counts.t.toNat + r.counts.r.toNat < 1048575) : Act L s (s.resolveResult i r q).1
  | sealing (s : State) (i : SlotId) (w : Option CloseReason) : Act L s (s.sealSlot i w)
  | free (s : State) (i : SlotId) : Act L s (s.freeRecord i)
  | close (s : State) (i : SlotId) (r : Record) (w : CloseReason) (stamp : Word) (hr : s.record i = some r)
      (ho : r.state = .opened) (hl : L → ∀ j q, s.record j = some q → q.state = .closing → q.cell ≠ r.cell) :
      Act L s (s.closed i r w stamp)
  | reopen (s : State) (i : SlotId) (r : Record) (hr : s.record i = some r) (hc : r.state = .closing)
      (hl : L → ∀ j q, s.record j = some q → q.state = .opened → q.cell ≠ r.cell) :
      Act L s (s.setSlot i (some r.reopened))
  /-- A cell's CLOSING and OPEN records change places. -/
  | swap (s : State) (i j : SlotId) (r q : Record) (w : CloseReason) (stamp : Word) (hr : s.record i = some r)
      (hc : r.state = .closing) (hq : s.record j = some q) (ho : q.state = .opened) (hcell : q.cell = r.cell) :
      Act L s ((s.setSlot i (some r.reopened)).closed j q w stamp)
  | resume (s : State) (i : SlotId) (r : Record) (c : CellId) (hr : s.record i = some r) (hs : r.isSealed = true)
      (hlive : (s.bank r.bank).state = .live)
      (hl : L → ∀ j q, s.record j = some q → q.isActive = true → q.key ≠ r.key ∧ (q.state = .opened → q.cell ≠ c)) :
      Act L s (s.resumeSlot i c)
  | opening (s : State) (i : SlotId) (c : CellId) (k : Key) (p : Fin 8) (lb : BankId) (hfree : s.record i = none)
      (hlive : (s.bank lb).state = .live)
      (hl : L → ∀ j q, s.record j = some q → q.isActive = true → q.key ≠ k ∧ (q.state = .opened → q.cell ≠ c)) :
      Act L s (s.takeFrame.1.openIn i s.takeFrame.2 c k p lb)
  | startProgress (s : State) (i : SlotId) (h : ∀ r, s.record i = some r → r.state = .opened) :
      Act L s (s.startProgress i)
  | progressExpire (s : State) (i : SlotId) (h : s.progressTimer i ≠ none) : Act L s (s.progressExpire i)
  /-- Running progress timers run on. -/
  | timers (s : State) (v : Vector (Option Timer) 24) (h : ∀ i : SlotId, v[i.val] ≠ none → s.progressTimer i ≠ none) :
      Act L s (s.withXport { s.xport with progress := v })
  /-- The dump in progress moves on. -/
  | dump (s : State) (d : Dump) (h : s.xport.dump ≠ none) : Act L s (s.setDump (some d))
  | endDump (s : State) (h : s.xport.dump ≠ none) : Act L s (s.setDump none).startDump
  | chainMap (s : State) (i : SlotId) (r : Record) (hr : s.record i = some r) (hf : r.frame.isSome = true) :
      Act L s (s.chainMap i)
  | requestMap (s : State) (i : SlotId) (r : Record) (hr : s.record i = some r) (hf : r.frame.isSome = true) :
      Act L s (s.requestMap i)
  /-- The head of the SUM queue leaves, and its place is filled. -/
  | takeSum (s : State) (e : SlotId × SumKind) (rest : List (SlotId × SumKind)) (h : s.xport.sumQ = e :: rest) :
      Act L s (s.withXport { s.xport with sumQ := rest }).fillPlace
  | queueFinal (s : State) (i : SlotId) (r : Record) (hr : s.record i = some r) (hs : r.isSealed = true)
      (ho : i ∉ s.xport.owed) : Act L s (s.queueFinal i)
  | exportStep (s : State) (i : SlotId) : Act L s (s.exportStep i)

/-- A run of acts. -/
abbrev Acts (L : Prop) : State → State → Prop := Relation.ReflTransGen (Act L)

theorem Act.run {L : Prop} {s t : State} (h : Act L s t) : Acts L s t := .single h

/-- What an act can do, and beside it what happens to the queues of the hall port, to the ports and in a reset. -/
inductive Move (L : Prop) : State → State → Prop
  | act {s t : State} (h : Act L s t) : Move L s t
  | port {s t : State} (h : s.changesOnly t [.cells, .sent]) (hp : ∀ c, (s.cell c).flowLaw → (t.cell c).flowLaw) :
      Move L s t
  | hall {s t : State} (h : s.changesOnly t [.hall]) (hresp : s.hall.resp.length ≤ 8 → t.hall.resp.length ≤ 8)
      (hfwd : s.hall.fwd.length ≤ 64 → t.hall.fwd.length ≤ 64)
      (hrx : s.hall.rx.fifo.length ≤ 4 → t.hall.rx.fifo.length ≤ 4) : Move L s t
  | reset (s : State) (straps : BitVec 4) : Move L s (s.resetAll straps)

/-- A run of moves. -/
abbrev Moves (L : Prop) : State → State → Prop := Relation.ReflTransGen (Move L)

theorem Move.run {L : Prop} {s t : State} (h : Move L s t) : Moves L s t := .single h

theorem Acts.moves {L : Prop} {s t : State} (h : Acts L s t) : Moves L s t := by
  induction h with
  | refl => exact .refl
  | tail _ ha ih => exact ih.tail (.act ha)

/-- A law that every move keeps is kept by a run of them. -/
theorem Moves.keeps {L : Prop} {P : State → Prop} (hP : ∀ s t, Move L s t → P s → P t) {s t : State}
    (h : Moves L s t) (hs : P s) : P t := by
  induction h with
  | refl => exact hs
  | tail _ hm ih => exact hP _ _ hm ih

theorem Acts.keeps {L : Prop} {P : State → Prop} (hP : ∀ s t, Act L s t → P s → P t) {s t : State}
    (h : Acts L s t) (hs : P s) : P t := by
  induction h with
  | refl => exact hs
  | tail _ hm ih => exact hP _ _ hm ih

/-! ## What the acts and moves leave alone -/

/-- From s to t the hall port keeps its queues, and the node address, the commands that wait and the ports stay. -/
structure State.queuesKept (s t : State) : Prop where
  resp    : t.hall.resp = s.hall.resp
  fwd     : t.hall.fwd = s.hall.fwd
  rx      : t.hall.rx = s.hall.rx
  node    : t.node = s.node
  pending : t.pending = s.pending
  ports   : s.portsKept t

theorem State.queuesKept.refl (s : State) : s.queuesKept s := ⟨rfl, rfl, rfl, rfl, rfl, .refl s⟩

theorem State.queuesKept.trans {s t u : State} (h : s.queuesKept t) (k : t.queuesKept u) : s.queuesKept u :=
  ⟨k.resp.trans h.resp, k.fwd.trans h.fwd, k.rx.trans h.rx, k.node.trans h.node, k.pending.trans h.pending,
    h.ports.trans k.ports⟩

theorem State.changesOnly.queuesKept {s t : State} {bs : List Block} (h : s.changesOnly t bs) (hp : s.portsKept t)
    (hhall : .hall ∉ bs := by decide) (hnode : .node ∉ bs := by decide) (hpending : .pending ∉ bs := by decide) :
    s.queuesKept t :=
  ⟨congrArg _ (h.hall hhall), congrArg _ (h.hall hhall), congrArg _ (h.hall hhall), h.node hnode, h.pending hpending, hp⟩

theorem State.raise_portsKept (s : State) (a : Alert) : s.portsKept (s.raise a) := fun c => by
  rw [State.cell_raise]
  exact ⟨rfl, rfl⟩

theorem Cell.onlyTimed.port {k k' : Cell} (h : k.onlyTimed k') : k'.fifo = k.fifo ∧ k'.flow = k.flow := by
  rw [h]
  exact ⟨rfl, rfl⟩

theorem State.sealSlot_portsKept (s : State) (i : SlotId) (w : Option CloseReason) : s.portsKept (s.sealSlot i w) := by
  cases hr : s.record i with
  | none =>
    rw [State.sealSlot_of_idle fun r h => nomatch hr.symm.trans h]
    exact .refl s
  | some r =>
    exact fun c => ((State.sealSlot_closesOn (c := r.cell) (fun q hq => by
      rw [← Option.some.inj (hr.symm.trans hq)]) w).timed c).port

theorem State.freeRecord_queuesKept (s : State) (i : SlotId) : s.queuesKept (s.freeRecord i) := by
  cases hr : s.record i with
  | none =>
    rw [State.freeRecord_of_none hr]
    exact .refl s
  | some r =>
    have hhall := State.hall_freeRecord hr
    have hchanges := s.freeRecord_changes i
    refine ⟨by rw [hhall], by rw [hhall], by rw [hhall], hchanges.node, hchanges.pending, fun c => ?_⟩
    rw [State.cell_freeRecord hr]
    exact ⟨rfl, rfl⟩

theorem State.resumeSlot_queuesKept {s : State} {i : SlotId} {r : Record} (hr : s.record i = some r) (c : CellId) :
    s.queuesKept (s.resumeSlot i c) := by
  have hhall := State.hall_resumeSlot hr c
  have hchanges := s.resumeSlot_changes i c
  exact ⟨by rw [hhall], by rw [hhall], by rw [hhall], hchanges.node, hchanges.pending, hchanges.portsKept⟩

/-- A frame taken from the free list, or from the oldest exported record that holds one. -/
theorem State.takeFrame_only (s : State) : s.changesOnly s.takeFrame.1 [.dir, .maps, .xport] := by
  unfold State.takeFrame
  split
  · exact (s.withMaps_changes _).mono
  · split
    · exact .refl s _
    · exact ((s.modRecord_changes _ _).mono.trans (State.modDump_changes _ _).mono).trans
        (State.removePending_changes _ _).mono

theorem State.openIn_portsKept (s : State) (i : SlotId) (f : Option FrameId) (c : CellId) (k : Key) (p : Fin 8)
    (lb : BankId) : s.portsKept (s.openIn i f c k p lb) := fun d => by
  rw [State.cell_openIn, State.framed]
  split
  · rw [State.cell_raise]
    exact ⟨rfl, rfl⟩
  · exact ⟨rfl, rfl⟩

theorem State.openIn_only (s : State) (i : SlotId) (f : Option FrameId) (c : CellId) (k : Key) (p : Fin 8)
    (lb : BankId) : s.changesOnly (s.openIn i f c k p lb) [.cells, .dir, .maps, .alerts, .banks, .xport] :=
  (s.placed_changes i f c k p lb).mono.trans (s.openIn_placed i f c k p lb).mono

/-- The states a result resolves to, by its class, its record's map and its die (R103 to R111). -/
inductive ResolvesTo (s : State) (i : SlotId) (r : Record) (q : SiteResult) : State → Prop
  | void (hv : q.cls = .void) : ResolvesTo s i r q (s.setSlot i (some r.countVoid))
  | counted (hv : q.cls ≠ .void) (hm : r.mapFrame = none) :
      ResolvesTo s i r q ((s.clearTagsOn i).setSlot i (some (r.firstResult q)))
  | new (f : FrameId) (hm : r.mapFrame = some f) (hd : s.die f q.x q.y = .untested) :
      ResolvesTo s i r q ((s.dieResolved i f q (r.firstResult q) q.bin 1).countChange i f q.y)
  | replaced (f : FrameId) (b : Fin 64) (n : Nat) (hm : r.mapFrame = some f) (hd : s.die f q.x q.y = .tested b n) :
      ResolvesTo s i r q ((s.dieResolved i f q (r.countReplace q b (s.bank r.bank).bins[b.val].cls) q.bin
        (min (n + 1) 3)).countChange i f q.y)
  | kept (f : FrameId) (b : Fin 64) (n : Nat) (hm : r.mapFrame = some f) (hd : s.die f q.x q.y = .tested b n) :
      ResolvesTo s i r q (s.dieResolved i f q (r.countKeep q) b (min (n + 1) 3))
  | noticed (f : FrameId) (b : Fin 64) (n : Nat) (hm : r.mapFrame = some f) (hd : s.die f q.x q.y = .tested b n) :
      ResolvesTo s i r q ((s.dieResolved i f q (r.countKeep q) b (min (n + 1) 3)).raise (retestNotice i r q))

theorem State.resolvesTo (s : State) (i : SlotId) (r : Record) (q : SiteResult) :
    ResolvesTo s i r q (s.resolveResult i r q).1 := by
  by_cases hv : q.cls = .void
  · rw [State.resolveResult_of_void hv]
    exact .void hv
  · cases hm : r.mapFrame with
    | none =>
      rw [State.resolveResult_counted hv hm]
      exact .counted hv hm
    | some f =>
      cases hd : s.die f q.x q.y with
      | untested =>
        rw [State.resolveResult_new hv hm hd]
        exact .new f hm hd
      | tested b n =>
        rw [State.resolveResult_retest hv hm hd]
        cases hrep : (s.recipeOf r).policy.replaces (s.bank r.bank).bins[b.val].cls with
        | true =>
          rw [State.resolveRetest_replaced hrep]
          exact .replaced f b n hm hd
        | false =>
          rw [State.resolveRetest_kept hrep]
          dsimp only
          split
          · exact .noticed f b n hm hd
          · exact .kept f b n hm hd

/-- A result moves its record's tallies and nothing else of any record. -/
theorem State.record_resolveResult (s : State) (i : SlotId) (r : Record) (q : SiteResult) :
    ∃ r', r' = { r with counts := r'.counts, bins := r'.bins, zones := r'.zones, sites := r'.sites } ∧
      ∀ j, (s.resolveResult i r q).1.record j = if j = i then some r' else s.record j := by
  have h := s.resolvesTo i r q
  generalize (s.resolveResult i r q).1 = t at h ⊢
  cases h with
  | void _ => exact ⟨r.countVoid, rfl, fun k => s.record_setSlot i k _⟩
  | counted _ _ =>
    exact ⟨r.firstResult q, rfl, fun k => by rw [State.record_setSlot, (s.clearTagsOn_changes i).record]⟩
  | new f _ _ =>
    exact ⟨r.firstResult q, rfl, fun k => by
      rw [(State.countChange_changes _ i f q.y).record, State.record_dieResolved]⟩
  | replaced f b n _ _ =>
    exact ⟨r.countReplace q b (s.bank r.bank).bins[b.val].cls, rfl, fun k => by
      rw [(State.countChange_changes _ i f q.y).record, State.record_dieResolved]⟩
  | kept f b n _ _ => exact ⟨r.countKeep q, rfl, fun k => State.record_dieResolved k⟩
  | noticed f b n _ _ =>
    exact ⟨r.countKeep q, rfl, fun k => by rw [(State.raise_changes _ _).record, State.record_dieResolved]⟩

theorem State.resolveResult_portsKept (s : State) (i : SlotId) (r : Record) (q : SiteResult) :
    s.portsKept (s.resolveResult i r q).1 := by
  have h := s.resolvesTo i r q
  generalize (s.resolveResult i r q).1 = t at h ⊢
  cases h with
  | void _ => exact (s.setSlot_changes i _).portsKept
  | counted _ _ => exact ((s.clearTagsOn_changes i).seq (State.setSlot_changes _ i _) (ds := [.dir, .tags])).portsKept
  | new f _ _ => exact State.dieResolved_changes.portsKept.trans (State.countChange_changes _ i f q.y).portsKept
  | replaced f b n _ _ => exact State.dieResolved_changes.portsKept.trans (State.countChange_changes _ i f q.y).portsKept
  | kept f b n _ _ => exact State.dieResolved_changes.portsKept
  | noticed f b n _ _ => exact State.dieResolved_changes.portsKept.trans (State.raise_portsKept _ _)

theorem State.closed_changes (s : State) (i : SlotId) (r : Record) (w : CloseReason) (stamp : Word) :
    s.changesOnly (s.closed i r w stamp) [.dir, .xport] :=
  (s.setSlot_changes i _).seq (State.setProgress_changes _ i none)

theorem Act.queuesKept {L : Prop} {s t : State} (h : Act L s t) : s.queuesKept t := by
  cases h with
  | aside h => exact h.queuesKept h.portsKept
  | cells h hp => exact h.queuesKept hp
  | raise a => exact (s.raise_changes a).queuesKept (s.raise_portsKept a)
  | alerts h _ => exact h.queuesKept h.portsKept
  | load lb v _ => exact (s.setBank_changes lb v).queuesKept (s.setBank_changes lb v).portsKept
  | activate lb _ => exact (s.activate_changes lb).queuesKept (s.activate_changes lb).portsKept
  | note i r q _ _ _ => exact (s.setSlot_changes i _).queuesKept (s.setSlot_changes i _).portsKept
  | resolve i r q _ _ => exact (s.resolveResult_changes i r q).queuesKept (s.resolveResult_portsKept i r q)
  | sealing i w => exact (s.sealSlot_changes i w).queuesKept (s.sealSlot_portsKept i w)
  | free i => exact s.freeRecord_queuesKept i
  | close i r w stamp _ _ _ => exact (s.closed_changes i r w stamp).queuesKept (s.closed_changes i r w stamp).portsKept
  | reopen i r _ _ _ => exact (s.setSlot_changes i _).queuesKept (s.setSlot_changes i _).portsKept
  | swap i j r q w stamp _ _ _ _ _ =>
    have hc := (s.setSlot_changes i (some r.reopened)).mono.trans (State.closed_changes _ j q w stamp)
    exact hc.queuesKept hc.portsKept
  | resume i r c hr _ _ _ => exact State.resumeSlot_queuesKept hr c
  | opening i c k p lb _ _ _ =>
    have hf := s.takeFrame_only
    exact (hf.queuesKept hf.portsKept).trans
      ((State.openIn_only _ i _ c k p lb).queuesKept (State.openIn_portsKept _ i _ c k p lb))
  | startProgress i _ => exact (s.startProgress_changes i).queuesKept (s.startProgress_changes i).portsKept
  | progressExpire i _ =>
    have hc := (s.requestProgress_changes i).trans (State.startProgress_changes _ i)
    exact hc.queuesKept hc.portsKept
  | timers v _ => exact (s.withXport_changes _).queuesKept (s.withXport_changes _).portsKept
  | dump d _ => exact (s.withXport_changes _).queuesKept (s.withXport_changes _).portsKept
  | endDump _ =>
    have hc : s.changesOnly (s.setDump none).startDump [.xport] :=
      (s.withXport_changes _).trans (State.startDump_changes _)
    exact hc.queuesKept hc.portsKept
  | chainMap i r _ _ => exact (s.chainMap_changes i).queuesKept (s.chainMap_changes i).portsKept
  | requestMap i r _ _ => exact (s.requestMap_changes i).queuesKept (s.requestMap_changes i).portsKept
  | takeSum e rest _ =>
    have hc := (s.withXport_changes { s.xport with sumQ := rest }).mono.trans (State.fillPlace_changes _)
    exact hc.queuesKept hc.portsKept
  | queueFinal i r _ _ _ => exact (s.queueFinal_changes i).queuesKept (s.queueFinal_changes i).portsKept
  | exportStep i => exact (s.exportStep_changes i).queuesKept (s.exportStep_changes i).portsKept

theorem Acts.queuesKept {L : Prop} {s t : State} (h : Acts L s t) : s.queuesKept t := by
  induction h with
  | refl => exact .refl s
  | tail _ ha ih => exact ih.trans ha.queuesKept

theorem Move.pending {L : Prop} {s t : State} (h : Move L s t) : t.pending = s.pending := by
  cases h with
  | act h => exact h.queuesKept.pending
  | port h _ => exact h.pending
  | hall h _ _ _ => exact h.pending
  | reset straps => rfl

theorem Moves.pending {L : Prop} {s t : State} (h : Moves L s t) : t.pending = s.pending := by
  induction h with
  | refl => rfl
  | tail _ hm ih => exact hm.pending.trans ih

end Sys2Proof.Machine

/-! SUPPORT. What the acts do to the banks, to the alert queue and to the sparse stores, and the laws of those blocks
(R36, R41, R142, R38, R97). -/

namespace Sys2Proof.Machine

set_option Elab.async false

/-! ## The banks -/

/-- From s to t the banks serve on: contents and owners stay, and a state changes only from RETIRING to IDLE. -/
def State.banksServe (s t : State) : Prop := ∀ lb, (t.bank lb).xlate = (s.bank lb).xlate ∧
  (t.bank lb).owner = (s.bank lb).owner ∧
  ((t.bank lb).state = (s.bank lb).state ∨ ((s.bank lb).state = .retiring ∧ (t.bank lb).state = .idle))

theorem State.banksServe.of_eq {s t : State} (h : ∀ lb, t.bank lb = s.bank lb) : s.banksServe t := fun lb => by
  rw [h lb]
  exact ⟨rfl, rfl, .inl rfl⟩

theorem State.changesOnly.banksServe {s t : State} {bs : List Block} (h : s.changesOnly t bs)
    (hb : .banks ∉ bs := by decide) : s.banksServe t := .of_eq fun lb => h.bank lb hb

theorem Bank.unbind_serves (k : Bank) : k.unbind.xlate = k.xlate ∧ k.unbind.owner = k.owner ∧
    (k.unbind.state = k.state ∨ (k.state = .retiring ∧ k.unbind.state = .idle)) := by
  refine ⟨rfl, rfl, ?_⟩
  by_cases h : k.state = .retiring ∧ k.bound - 1 = 0
  · exact .inr ⟨h.1, if_pos h⟩
  · exact .inl (if_neg h)

theorem State.sealSlot_banksServe (s : State) (i : SlotId) (w : Option CloseReason) : s.banksServe (s.sealSlot i w) := by
  by_cases hidle : ∀ r, s.record i = some r → r.isActive = false
  · rw [State.sealSlot_of_idle hidle]
    exact .of_eq fun _ => rfl
  · push Not at hidle
    obtain ⟨r, hr, ha⟩ := hidle
    intro lb
    rw [State.bank_sealSlot hr (Bool.eq_true_of_not_eq_false ha)]
    split
    · exact (s.bank lb).unbind_serves
    · exact ⟨rfl, rfl, .inl rfl⟩

theorem State.freeRecord_banksServe (s : State) (i : SlotId) : s.banksServe (s.freeRecord i) := by
  cases hr : s.record i with
  | none =>
    rw [State.freeRecord_of_none hr]
    exact .of_eq fun _ => rfl
  | some r =>
    intro lb
    rw [State.bank_freeRecord hr]
    split
    · exact (s.bank lb).unbind_serves
    · exact ⟨rfl, rfl, .inl rfl⟩

theorem State.swap_changes (s : State) (i j : SlotId) (r q : Record) (w : CloseReason) (stamp : Word) :
    s.changesOnly ((s.setSlot i (some r.reopened)).closed j q w stamp) [.dir, .xport] :=
  (s.setSlot_changes i (some r.reopened)).mono.trans (State.closed_changes _ j q w stamp)

theorem State.progressExpire_changes (s : State) (i : SlotId) : s.changesOnly (s.progressExpire i) [.xport] :=
  (s.requestProgress_changes i).trans (State.startProgress_changes _ i)

theorem State.endDump_changes (s : State) : s.changesOnly (s.setDump none).startDump [.xport] :=
  (s.withXport_changes _).trans (State.startDump_changes _)

theorem State.takeSum_changes (s : State) (rest : List (SlotId × SumKind)) :
    s.changesOnly (s.withXport { s.xport with sumQ := rest }).fillPlace [.dir, .xport] :=
  (s.withXport_changes _).mono.trans (State.fillPlace_changes _)

/-- The bank store after an act: it serves on, a bank is loaded, or a READY bank is activated. -/
theorem Act.banks_cases {L : Prop} {s t : State} (h : Act L s t) : s.banksServe t ∨
    (∃ lb v, (s.bank lb).loadsTo v ∧ t = s.setBank lb v) ∨
    ∃ lb, (s.bank lb).state = .ready ∧ t = s.activate lb := by
  cases h with
  | aside h => exact .inl h.banksServe
  | cells h _ => exact .inl h.banksServe
  | raise a => exact .inl (s.raise_changes a).banksServe
  | alerts h _ => exact .inl h.banksServe
  | load lb v h => exact .inr (.inl ⟨lb, v, h, rfl⟩)
  | activate lb h => exact .inr (.inr ⟨lb, h, rfl⟩)
  | note i r q _ _ _ => exact .inl (s.setSlot_changes i _).banksServe
  | resolve i r q _ _ => exact .inl (s.resolveResult_changes i r q).banksServe
  | sealing i w => exact .inl (s.sealSlot_banksServe i w)
  | free i => exact .inl (s.freeRecord_banksServe i)
  | close i r w stamp _ _ _ => exact .inl (s.closed_changes i r w stamp).banksServe
  | reopen i r _ _ _ => exact .inl (s.setSlot_changes i _).banksServe
  | swap i j r q w stamp _ _ _ _ _ => exact .inl (s.swap_changes i j r q w stamp).banksServe
  | resume i r c hr _ _ _ =>
    refine .inl fun lb => ?_
    rw [State.bank_resumeSlot hr]
    split <;> exact ⟨rfl, rfl, .inl rfl⟩
  | opening i c k p lb _ _ _ =>
    refine .inl fun x => ?_
    rw [State.bank_openIn, s.takeFrame_only.bank]
    split <;> exact ⟨rfl, rfl, .inl rfl⟩
  | startProgress i _ => exact .inl (s.startProgress_changes i).banksServe
  | progressExpire i _ => exact .inl (s.progressExpire_changes i).banksServe
  | timers v _ => exact .inl (s.withXport_changes _).banksServe
  | dump d _ => exact .inl (s.withXport_changes _).banksServe
  | endDump _ => exact .inl s.endDump_changes.banksServe
  | chainMap i r _ _ => exact .inl (s.chainMap_changes i).banksServe
  | requestMap i r _ _ => exact .inl (s.requestMap_changes i).banksServe
  | takeSum e rest _ => exact .inl (s.takeSum_changes rest).banksServe
  | queueFinal i r _ _ _ => exact .inl (s.queueFinal_changes i).banksServe
  | exportStep i => exact .inl (s.exportStep_changes i).banksServe

/-! ## The bank law (R36, R41) -/

theorem State.bankLaw_iff {s : State} :
    s.bankLaw ↔ (∀ lb, (s.bank lb).state = .live → (s.bank lb.other).state ≠ .live) ∧ ∀ lb, (s.bank lb).ownerLaw := by
  constructor
  · rintro ⟨hlive, ha, hb⟩
    refine ⟨fun lb h h' => ?_, fun lb => ?_⟩
    · cases lb
      · exact hlive ⟨h, h'⟩
      · exact hlive ⟨h', h⟩
    · cases lb
      · exact ha
      · exact hb
  · rintro ⟨hlive, hown⟩
    exact ⟨fun h => hlive .a h.1 h.2, hown .a, hown .b⟩

theorem BankState.not_live_of_loadable {x : BankState} (h : x.isLoadable = true) : x ≠ .live := by
  rintro rfl
  exact Bool.false_ne_true h

theorem State.banksServe.bankLaw {s t : State} (h : s.banksServe t) (hs : s.bankLaw) : t.bankLaw := by
  obtain ⟨hlive, hown⟩ := State.bankLaw_iff.1 hs
  have hback : ∀ lb, (t.bank lb).state = .live → (s.bank lb).state = .live := fun lb hl => by
    rcases (h lb).2.2 with hst | ⟨-, hidle⟩
    · rw [← hst, hl]
    · rw [hidle] at hl
      exact nomatch hl
  refine State.bankLaw_iff.2 ⟨fun lb hl hl' => hlive lb (hback lb hl) (hback _ hl'), fun lb => ?_⟩
  obtain ⟨-, howner, hst⟩ := h lb
  have hlaw := hown lb
  rw [Bank.ownerLaw, howner]
  rcases hst with hst | ⟨hret, hidle⟩
  · rw [hst]
    exact hlaw
  · rw [Bank.ownerLaw, hret] at hlaw
    rw [hlaw, hidle]
    exact iff_of_false nofun nofun

theorem State.bankLaw_load {s : State} {lb : BankId} {v : Bank} (hv : (s.bank lb).loadsTo v) (hs : s.bankLaw) :
    (s.setBank lb v).bankLaw := by
  obtain ⟨hlive, hown⟩ := State.bankLaw_iff.1 hs
  have hback : ∀ x, ((s.setBank lb v).bank x).state = .live → (s.bank x).state = .live := fun x hx => by
    rw [State.bank_setBank] at hx
    split at hx
    · exact absurd hx (BankState.not_live_of_loadable hv.after)
    · exact hx
  refine State.bankLaw_iff.2 ⟨fun x hl hl' => hlive x (hback x hl) (hback _ hl'), fun x => ?_⟩
  rw [State.bank_setBank]
  split
  · exact hv.owner (hown lb)
  · exact hown x

theorem Bank.superseded_not_live (k : Bank) : k.superseded.state ≠ .live := by
  unfold Bank.superseded
  split
  · simp only
    split <;> exact nofun
  · assumption

theorem Bank.ownerLaw_superseded {k : Bank} (h : k.ownerLaw) : k.superseded.ownerLaw := by
  unfold Bank.superseded
  split
  · next hl =>
    rw [Bank.ownerLaw, hl] at h
    simp only [Bank.ownerLaw]
    rw [h]
    split <;> exact iff_of_false nofun nofun
  · exact h

theorem State.bankLaw_activate {s : State} {lb : BankId} (hr : (s.bank lb).state = .ready) (hs : s.bankLaw) :
    (s.activate lb).bankLaw := by
  obtain ⟨-, hown⟩ := State.bankLaw_iff.1 hs
  have hother : ((s.activate lb).bank lb.other).state ≠ .live := by
    rw [State.bank_activate_other]
    exact (s.bank lb.other).superseded_not_live
  refine State.bankLaw_iff.2 ⟨fun x hl hl' => ?_, fun x => ?_⟩
  · rcases lb.eq_or_eq_other x with rfl | rfl
    · exact hother hl'
    · exact hother hl
  · rcases lb.eq_or_eq_other x with rfl | rfl
    · have hlaw := hown x
      rw [State.bank_activate_same]
      simp only [Bank.ownerLaw] at hlaw ⊢
      rw [hlaw, hr]
      exact iff_of_false nofun nofun
    · rw [State.bank_activate_other]
      exact Bank.ownerLaw_superseded (hown lb.other)

theorem Act.bankLaw {L : Prop} {s t : State} (h : Act L s t) (hs : s.bankLaw) : t.bankLaw := by
  rcases h.banks_cases with hserve | ⟨lb, v, hv, rfl⟩ | ⟨lb, hr, rfl⟩
  · exact hserve.bankLaw hs
  · exact State.bankLaw_load hv hs
  · exact State.bankLaw_activate hr hs

theorem Move.bankLaw {L : Prop} {s t : State} (h : Move L s t) (hs : s.bankLaw) : t.bankLaw := by
  cases h with
  | act h => exact h.bankLaw hs
  | port h _ => exact h.banksServe.bankLaw hs
  | hall h _ _ _ => exact h.banksServe.bankLaw hs
  | reset straps => exact reset_bankLaw

/-! ## The alert queue (R142, R145) -/

/-- The alert queue after an act: entries have left it, or alerts were raised. -/
theorem Act.alerts_cases {L : Prop} {s t : State} (h : Act L s t) :
    t.alerts.queue.Sublist s.alerts.queue ∨ ∃ as, t.alerts = (s.raiseAll as).alerts := by
  have hkept : ∀ {bs : List Block} {u : State}, s.changesOnly u bs → (hb : Block.alerts ∉ bs := by decide) →
      u.alerts.queue.Sublist s.alerts.queue ∨ ∃ as, u.alerts = (s.raiseAll as).alerts := fun h hb =>
    .inr ⟨[], h.alerts hb⟩
  cases h with
  | aside h => exact hkept h
  | cells h _ => exact hkept h
  | raise a => exact .inr ⟨[a], rfl⟩
  | alerts _ hq => exact .inl hq
  | load lb v _ => exact hkept (s.setBank_changes lb v)
  | activate lb _ => exact hkept (s.activate_changes lb)
  | note i r q _ _ _ => exact hkept (s.setSlot_changes i _)
  | resolve i r q _ _ =>
    have hres := s.resolvesTo i r q
    generalize (s.resolveResult i r q).1 = u at hres ⊢
    cases hres with
    | void _ => exact hkept (s.setSlot_changes i _)
    | counted _ _ => exact hkept ((s.clearTagsOn_changes i).seq (State.setSlot_changes _ i _) (ds := [.dir, .tags]))
    | new f _ _ =>
      exact hkept (State.dieResolved_changes.seq (State.countChange_changes _ i f q.y)
        (ds := [.dir, .maps, .tags, .xport]))
    | replaced f b n _ _ =>
      exact hkept (State.dieResolved_changes.seq (State.countChange_changes _ i f q.y)
        (ds := [.dir, .maps, .tags, .xport]))
    | kept f b n _ _ => exact hkept (State.dieResolved_changes)
    | noticed f b n _ _ =>
      exact .inr ⟨[retestNotice i r q],
        State.alerts_raise_congr (State.dieResolved_changes).alerts (State.dieResolved_changes).time _⟩
  | sealing i w =>
    by_cases hidle : ∀ r, s.record i = some r → r.isActive = false
    · rw [State.sealSlot_of_idle hidle]
      exact .inr ⟨[], rfl⟩
    · push Not at hidle
      obtain ⟨r, hr, ha⟩ := hidle
      exact .inr ⟨_, State.alerts_sealSlot hr (Bool.eq_true_of_not_eq_false ha) w⟩
  | free i => exact hkept (s.freeRecord_changes i)
  | close i r w stamp _ _ _ => exact hkept (s.closed_changes i r w stamp)
  | reopen i r _ _ _ => exact hkept (s.setSlot_changes i _)
  | swap i j r q w stamp _ _ _ _ _ => exact hkept (s.swap_changes i j r q w stamp)
  | resume i r c _ _ _ _ => exact hkept (s.resumeSlot_changes i c)
  | opening i c k p lb _ _ _ =>
    have hf := s.takeFrame_only
    rw [State.alerts_openIn, State.framed]
    split
    · exact .inr ⟨[noFrameNotice i c k], State.alerts_raise_congr hf.alerts hf.time _⟩
    · exact .inr ⟨[], hf.alerts⟩
  | startProgress i _ => exact hkept (s.startProgress_changes i)
  | progressExpire i _ => exact hkept (s.progressExpire_changes i)
  | timers v _ => exact hkept (s.withXport_changes _)
  | dump d _ => exact hkept (s.withXport_changes _)
  | endDump _ => exact hkept s.endDump_changes
  | chainMap i r _ _ => exact hkept (s.chainMap_changes i)
  | requestMap i r _ _ => exact hkept (s.requestMap_changes i)
  | takeSum e rest _ => exact hkept (s.takeSum_changes rest)
  | queueFinal i r _ _ _ => exact hkept (s.queueFinal_changes i)
  | exportStep i => exact hkept (s.exportStep_changes i)

theorem State.alertLaw_congr {s t : State} (h : t.alerts = s.alerts) : t.alertLaw ↔ s.alertLaw := by
  rw [State.alertLaw_iff, State.alertLaw_iff, h]

theorem State.alertLaw_raiseAll {s : State} (h : s.alertLaw) (as : List Alert) : (s.raiseAll as).alertLaw := by
  induction as generalizing s with
  | nil => exact h
  | cons a as ih => exact ih (State.alertLaw_raise h a)

theorem State.length_alerts_raiseAll_le {s : State} (h : s.alerts.queue.length ≤ 32) (as : List Alert) :
    (s.raiseAll as).alerts.queue.length ≤ 32 := by
  induction as generalizing s with
  | nil => exact h
  | cons a as ih => exact ih (State.length_alerts_raise_le h a)

theorem Act.alertLaw {L : Prop} {s t : State} (h : Act L s t) (hs : s.alertLaw) : t.alertLaw := by
  rcases h.alerts_cases with hsub | ⟨as, has⟩
  · exact (State.alertLaw_iff t).2 (((State.alertLaw_iff s).1 hs).sublist hsub)
  · exact (State.alertLaw_congr has).2 (State.alertLaw_raiseAll hs as)

theorem Act.length_alerts {L : Prop} {s t : State} (h : Act L s t) (hs : s.alerts.queue.length ≤ 32) :
    t.alerts.queue.length ≤ 32 := by
  rcases h.alerts_cases with hsub | ⟨as, has⟩
  · exact hsub.length_le.trans hs
  · rw [has]
    exact State.length_alerts_raiseAll_le hs as

theorem Move.alertLaw {L : Prop} {s t : State} (h : Move L s t) (hs : s.alertLaw) : t.alertLaw := by
  cases h with
  | act h => exact h.alertLaw hs
  | port h _ => exact (State.alertLaw_congr h.alerts).2 hs
  | hall h _ _ _ => exact (State.alertLaw_congr h.alerts).2 hs
  | reset straps => exact reset_alertLaw

/-! ## The sparse stores (R38, R97) -/

theorem State.storesCanonical_iff {s : State} : s.storesCanonical ↔
    (∀ lb, storeWf unassigned (s.bank lb).xlate) ∧ ∀ f, storeWf untestedDie (s.frame f).dies := by
  constructor
  · rintro ⟨ha, hb, hf⟩
    exact ⟨fun lb => by cases lb; exacts [ha, hb], hf⟩
  · rintro ⟨hx, hf⟩
    exact ⟨hx .a, hx .b, hf⟩

theorem Act.xlates {L : Prop} {s t : State} (h : Act L s t) (hs : ∀ lb, storeWf unassigned (s.bank lb).xlate) (lb : BankId) :
    storeWf unassigned (t.bank lb).xlate := by
  rcases h.banks_cases with hserve | ⟨x, v, hv, rfl⟩ | ⟨x, hr, rfl⟩
  · rw [(hserve lb).1]
    exact hs lb
  · rw [State.bank_setBank]
    split
    · exact hv.xlate (hs x)
    · exact hs lb
  · rcases x.eq_or_eq_other lb with rfl | rfl
    · rw [State.bank_activate_same]
      exact hs lb
    · rw [State.bank_activate_other, Bank.superseded_eq]
      exact hs _

/-- From s to t each frame's die cells stay, are cleared, or have one die written. -/
def State.diesMove (s t : State) : Prop := ∀ f, (t.frame f).dies = (s.frame f).dies ∨ (t.frame f).dies = [] ∨
  ∃ a v, (t.frame f).dies = storeWrite untestedDie (s.frame f).dies a v

theorem State.diesMove.of_frames {s t : State} (h : t.maps.frames = s.maps.frames) : s.diesMove t := fun f => by
  left
  rw [State.frame, State.frame, h]

theorem State.changesOnly.diesMove {s t : State} {bs : List Block} (h : s.changesOnly t bs)
    (hb : .maps ∉ bs := by decide) : s.diesMove t := .of_frames (congrArg _ (h.maps hb))

theorem State.dieResolved_diesMove {s : State} {i : SlotId} {f : FrameId} {q : SiteResult} {r : Record} {b : Fin 64}
    {n : Nat} : s.diesMove (s.dieResolved i f q r b n) := fun g => by
  rw [State.frame_dieResolved]
  split
  · next h => exact .inr (.inr ⟨_, _, by rw [h]⟩)
  · exact .inl rfl

theorem State.diesMove.countChange {s t : State} (h : s.diesMove t) (i : SlotId) (f : FrameId) (y : Nat) :
    s.diesMove (t.countChange i f y) := fun g => by
  have hdies : ((t.countChange i f y).frame g).dies = (t.frame g).dies := by
    rw [State.frame_countChange]
    split
    · next hg => rw [hg]
    · rfl
  rw [hdies]
  exact h g

theorem State.diesMove.then {s t u : State} {bs : List Block} (h : s.diesMove t) (k : t.changesOnly u bs)
    (hb : .maps ∉ bs := by decide) : s.diesMove u := fun f => by rw [k.frame f hb]; exact h f

theorem State.resolveResult_diesMove (s : State) (i : SlotId) (r : Record) (q : SiteResult) :
    s.diesMove (s.resolveResult i r q).1 := by
  have h := s.resolvesTo i r q
  generalize (s.resolveResult i r q).1 = t at h ⊢
  cases h with
  | void _ => exact (s.setSlot_changes i _).diesMove
  | counted _ _ => exact ((s.clearTagsOn_changes i).seq (State.setSlot_changes _ i _) (ds := [.dir, .tags])).diesMove
  | new f _ _ => exact State.dieResolved_diesMove.countChange i f q.y
  | replaced f b n _ _ => exact State.dieResolved_diesMove.countChange i f q.y
  | kept f b n _ _ => exact State.dieResolved_diesMove
  | noticed f b n _ _ => exact State.dieResolved_diesMove.then (State.raise_changes _ _)

theorem State.frames_takeFrame (s : State) : s.takeFrame.1.maps.frames = s.maps.frames := by
  unfold State.takeFrame
  split
  · rfl
  · split
    · rfl
    · exact congrArg _ ((s.modRecord_changes _ _).mono.trans (State.modDump_changes _ _).mono |>.trans
        (State.removePending_changes _ _).mono (bs := [.dir, .xport])).maps

theorem State.frame_openIn (s : State) (i : SlotId) (f : Option FrameId) (c : CellId) (k : Key) (p : Fin 8) (lb : BankId)
    (g : FrameId) : (s.openIn i f c k p lb).frame g = if f = some g then { dies := [], serial := 0 } else s.frame g := by
  rw [State.frame_congr (s := s.clearFrame f) (s.maps_openIn i f c k p lb)]
  cases f with
  | none => rfl
  | some f =>
    show (s.setFrame f _).frame g = _
    rw [State.frame_setFrame]
    simp only [Option.some.injEq, eq_comm]

theorem Act.diesMove {L : Prop} {s t : State} (h : Act L s t) : s.diesMove t := by
  cases h with
  | aside h => exact h.diesMove
  | cells h _ => exact h.diesMove
  | raise a => exact (s.raise_changes a).diesMove
  | alerts h _ => exact h.diesMove
  | load lb v _ => exact (s.setBank_changes lb v).diesMove
  | activate lb _ => exact (s.activate_changes lb).diesMove
  | note i r q _ _ _ => exact (s.setSlot_changes i _).diesMove
  | resolve i r q _ _ => exact s.resolveResult_diesMove i r q
  | sealing i w => exact (s.sealSlot_changes i w).diesMove
  | free i =>
    cases hr : s.record i with
    | none =>
      rw [State.freeRecord_of_none hr]
      exact .of_frames rfl
    | some r => exact .of_frames (by rw [State.maps_freeRecord hr])
  | close i r w stamp _ _ _ => exact (s.closed_changes i r w stamp).diesMove
  | reopen i r _ _ _ => exact (s.setSlot_changes i _).diesMove
  | swap i j r q w stamp _ _ _ _ _ => exact (s.swap_changes i j r q w stamp).diesMove
  | resume i r c _ _ _ _ => exact (s.resumeSlot_changes i c).diesMove
  | opening i c k p lb _ _ _ =>
    intro g
    rw [State.frame_openIn]
    split
    · exact .inr (.inl rfl)
    · exact State.diesMove.of_frames s.frames_takeFrame g
  | startProgress i _ => exact (s.startProgress_changes i).diesMove
  | progressExpire i _ => exact (s.progressExpire_changes i).diesMove
  | timers v _ => exact (s.withXport_changes _).diesMove
  | dump d _ => exact (s.withXport_changes _).diesMove
  | endDump _ => exact s.endDump_changes.diesMove
  | chainMap i r _ _ => exact (s.chainMap_changes i).diesMove
  | requestMap i r _ _ => exact (s.requestMap_changes i).diesMove
  | takeSum e rest _ => exact (s.takeSum_changes rest).diesMove
  | queueFinal i r _ _ _ => exact (s.queueFinal_changes i).diesMove
  | exportStep i => exact (s.exportStep_changes i).diesMove

theorem Act.storesCanonical {L : Prop} {s t : State} (h : Act L s t) (hs : s.storesCanonical) : t.storesCanonical := by
  obtain ⟨hx, hf⟩ := State.storesCanonical_iff.1 hs
  refine State.storesCanonical_iff.2 ⟨h.xlates hx, fun f => ?_⟩
  rcases h.diesMove f with hd | hd | ⟨a, v, hd⟩
  · rw [hd]
    exact hf f
  · rw [hd]
    exact storeWf_nil _
  · rw [hd]
    exact storeWrite_wf _ _ a v (hf f)

theorem State.storesCanonical_congr {s t : State} (hb : t.banks = s.banks) (hm : t.maps = s.maps) :
    t.storesCanonical ↔ s.storesCanonical := by
  rw [State.storesCanonical_iff, State.storesCanonical_iff]
  simp only [State.bank_congr hb, State.frame_congr hm]

theorem Move.storesCanonical {L : Prop} {s t : State} (h : Move L s t) (hs : s.storesCanonical) : t.storesCanonical := by
  cases h with
  | act h => exact h.storesCanonical hs
  | port h _ => exact (State.storesCanonical_congr h.banks h.maps).2 hs
  | hall h _ _ _ => exact (State.storesCanonical_congr h.banks h.maps).2 hs
  | reset straps => exact reset_storesCanonical

end Sys2Proof.Machine

/-! SUPPORT. The laws of bound counts and of active records, kept by every act and every move (R41, R42, R53, R73). -/

namespace Sys2Proof.Machine

set_option Elab.async false

/-! ## How the roles and the counts move -/

/-- What an act does to the active records and the bound counts: nothing but within a cell, one record leaves its bank,
or one joins the LIVE bank. -/
inductive BoundStep (L : Prop) (s t : State) : Prop
  | stays (hroles : ∀ lb i, t.isBoundTo lb i = s.isBoundTo lb i) (hbound : ∀ lb, (t.bank lb).bound = (s.bank lb).bound)
      (hbinds : ∀ lb, s.binds lb → t.binds lb ∨ (s.bank lb).bound = 0) (hapart : L → s.apart → t.apart)
  | leaves (i : SlotId) (p : Role) (hs : s.role i = some p) (ht : t.role i = none)
      (hother : ∀ j, j ≠ i → t.role j = s.role j)
      (hbank : ∀ lb, t.bank lb = if lb = p.bank then (s.bank lb).unbind else s.bank lb)
  | joins (i : SlotId) (p : Role) (hs : s.role i = none) (ht : t.role i = some p)
      (hother : ∀ j, j ≠ i → t.role j = s.role j)
      (hbank : ∀ lb, t.bank lb = if lb = p.bank then { s.bank lb with bound := (s.bank lb).bound + 1 } else s.bank lb)
      (hlive : (s.bank p.bank).state = .live) (hapart : L → ∀ j q, s.role j = some q → p.apart q)

section

variable {L : Prop} {s t : State}

theorem Role.apart.symm {p q : Role} (h : p.apart q) : q.apart p :=
  ⟨h.1.symm, fun hq => h.2 ⟨hq.1.symm, hq.2.symm⟩⟩

theorem State.apart.of_roles (h : s.apart) (hr : ∀ i, t.role i = s.role i) : t.apart := fun i j hij p q hp hq =>
  h i j hij p q ((hr i).symm.trans hp) ((hr j).symm.trans hq)

/-- Roles and bank store unchanged. -/
theorem BoundStep.of_roles (hr : ∀ i, t.role i = s.role i) (hb : ∀ lb, t.bank lb = s.bank lb) : BoundStep L s t :=
  .stays (fun lb i => State.isBoundTo_congr (hr i) lb) (fun lb => by rw [hb]) (fun lb h => .inl (by
    rw [State.binds, hb]
    exact h)) (fun _ h => h.of_roles hr)

theorem State.changesOnly.boundStep {bs : List Block} (h : s.changesOnly t bs) (hd : .dir ∉ bs := by decide)
    (hb : .banks ∉ bs := by decide) : BoundStep L s t :=
  .of_roles (fun i => State.role_congr (h.record i hd)) fun lb => h.bank lb hb

theorem State.sameStandings.boundStep (h : s.sameStandings t) {bs : List Block} (hc : s.changesOnly t bs)
    (hb : .banks ∉ bs := by decide) : BoundStep L s t :=
  .of_roles (fun i => State.role_of_standing (h i)) fun lb => hc.bank lb hb

theorem BoundStep.boundLaw (h : BoundStep L s t) (hs : s.boundLaw) : t.boundLaw := by
  rw [State.boundLaw_iff] at hs ⊢
  cases h with
  | stays hroles hbound _ _ => exact fun lb => by rw [hbound, hs lb, State.boundTo_congr (hroles lb)]
  | leaves i p hs' ht hother hbank =>
    have hgone : ∀ lb, t.isBoundTo lb i = false := fun lb => Bool.eq_false_iff.2 fun h => by
      obtain ⟨q, hq, -⟩ := State.isBoundTo_iff.1 h
      exact nomatch ht.symm.trans hq
    have hkept : ∀ lb j, j ≠ i → t.isBoundTo lb j = s.isBoundTo lb j := fun lb j hj =>
      State.isBoundTo_congr (hother j hj) lb
    intro lb
    rw [hbank]
    split
    · next hlb =>
      have hcount := State.boundTo_of_leaves (hkept lb) (State.isBoundTo_iff.2 ⟨p, hs', hlb.symm⟩) (hgone lb)
      show (s.bank lb).bound - 1 = _
      rw [hs lb, hcount, Nat.add_sub_cancel]
    · next hlb =>
      have hbefore : s.isBoundTo lb i = false := Bool.eq_false_iff.2 fun h => by
        obtain ⟨q, hq, hqb⟩ := State.isBoundTo_iff.1 h
        exact hlb ((Option.some.inj (hs'.symm.trans hq)) ▸ hqb.symm)
      rw [hs lb, State.boundTo_congr fun j => ?_]
      by_cases hj : j = i
      · rw [hj, hbefore, hgone]
      · exact (hkept lb j hj).symm
  | joins i p hs' ht hother hbank _ _ =>
    have hbefore : ∀ lb, s.isBoundTo lb i = false := fun lb => Bool.eq_false_iff.2 fun h => by
      obtain ⟨q, hq, -⟩ := State.isBoundTo_iff.1 h
      exact nomatch hs'.symm.trans hq
    have hkept : ∀ lb j, j ≠ i → s.isBoundTo lb j = t.isBoundTo lb j := fun lb j hj =>
      (State.isBoundTo_congr (hother j hj) lb).symm
    intro lb
    rw [hbank]
    split
    · next hlb =>
      rw [State.boundTo_of_leaves (hkept lb) (State.isBoundTo_iff.2 ⟨p, ht, hlb.symm⟩) (hbefore lb)]
      show (s.bank lb).bound + 1 = _
      rw [hs lb]
    · next hlb =>
      have hafter : t.isBoundTo lb i = false := Bool.eq_false_iff.2 fun h => by
        obtain ⟨q, hq, hqb⟩ := State.isBoundTo_iff.1 h
        exact hlb ((Option.some.inj (ht.symm.trans hq)) ▸ hqb.symm)
      rw [hs lb, State.boundTo_congr fun j => ?_]
      by_cases hj : j = i
      · rw [hj, hafter, hbefore]
      · exact hkept lb j hj

/-- A record bound to a bank is counted in it. -/
theorem State.boundLaw.pos (h : s.boundLaw) {i : SlotId} {p : Role} (hp : s.role i = some p) :
    0 < (s.bank p.bank).bound := by
  rw [State.boundLaw_iff.1 h]
  exact State.boundTo_pos (State.isBoundTo_iff.2 ⟨p, hp, rfl⟩)

theorem BoundStep.recordLaw (h : BoundStep L s t) (hL : L) (hb : s.boundLaw) (hs : s.recordLaw) : t.recordLaw := by
  have hbt : t.boundLaw := h.boundLaw hb
  rw [State.recordLaw_iff] at hs ⊢
  obtain ⟨hapart, hbank⟩ := hs
  cases h with
  | stays hroles hbound hbinds hap =>
    refine ⟨hap hL hapart, fun i p hp => ?_⟩
    obtain ⟨q, hq, hqb⟩ := State.isBoundTo_iff.1
      ((hroles p.bank i).symm.trans (State.isBoundTo_iff.2 ⟨p, hp, rfl⟩))
    have hsb : s.binds p.bank := hqb ▸ hbank i q hq
    rcases hbinds p.bank hsb with ht | hzero
    · exact ht
    · exact absurd (hb.pos hq) (by rw [hqb, hzero]; exact Nat.lt_irrefl 0)
  | leaves i p hp ht hother hunbind =>
    have hback : ∀ j q, t.role j = some q → s.role j = some q := fun j q hq => by
      by_cases hj : j = i
      · rw [hj, ht] at hq
        exact nomatch hq
      · exact (hother j hj).symm.trans hq
    refine ⟨fun j k hjk q q' hq hq' => hapart j k hjk q q' (hback j q hq) (hback k q' hq'), fun j q hq => ?_⟩
    have hsb := hbank j q (hback j q hq)
    have hpos := hbt.pos hq
    rw [State.binds]
    rw [hunbind] at hpos ⊢
    split at hpos
    · next hlb =>
      rw [if_pos hlb]
      have hcount : ¬ (s.bank q.bank).bound - 1 = 0 := Nat.ne_of_gt hpos
      show (if _ then _ else _) = _ ∨ (if _ then _ else _) = _
      rw [if_neg fun h => hcount h.2]
      exact hsb
    · next hlb =>
      rw [if_neg hlb]
      exact hsb
  | joins i p hp ht hother hadd hlive hnew =>
    have hback : ∀ j q, j ≠ i → t.role j = some q → s.role j = some q := fun j q hj hq => (hother j hj).symm.trans hq
    have hstate : ∀ lb, (t.bank lb).state = (s.bank lb).state := fun lb => by
      rw [hadd]
      split <;> rfl
    refine ⟨fun j k hjk q q' hq hq' => ?_, fun j q hq => ?_⟩
    · by_cases hj : j = i
      · have hk : k ≠ i := fun hk => hjk (hj.trans hk.symm)
        rw [hj, ht] at hq
        rw [← Option.some.inj hq]
        exact hnew hL k q' (hback k q' hk hq')
      · by_cases hk : k = i
        · rw [hk, ht] at hq'
          rw [← Option.some.inj hq']
          exact (hnew hL j q (hback j q hj hq)).symm
        · exact hapart j k hjk q q' (hback j q hj hq) (hback k q' hk hq')
    · rw [State.binds, hstate]
      by_cases hj : j = i
      · rw [hj, ht] at hq
        rw [← Option.some.inj hq]
        exact .inl hlive
      · exact hbank j q (hback j q hj hq)

end

/-! ## What the acts do to the roles -/

section

variable {L : Prop} {s : State} {i j : SlotId} {r q : Record}

theorem State.role_setSlot (v : Option Record) :
    (s.setSlot i v).role j = if j = i then (v.filter Record.isActive).map Record.role else s.role j := by
  rw [State.role, State.record_setSlot]
  split <;> rfl

/-- Within a slot an active record becomes another of the same bank. -/
theorem State.isBoundTo_setSlot (hr : s.record i = some r) (ha : q.isActive = r.isActive) (hb : q.bank = r.bank)
    (lb : BankId) (j : SlotId) : (s.setSlot i (some q)).isBoundTo lb j = s.isBoundTo lb j := by
  rw [State.isBoundTo, State.isBoundTo]
  by_cases hj : j = i
  · rw [hj, State.record_setSlot, if_pos rfl, hr]
    simp only [ha, hb]
  · rw [State.record_setSlot, if_neg hj]

theorem Record.isActive_enterClosing (w : CloseReason) (stamp : Word) : (r.enterClosing w stamp).isActive = true := rfl

theorem Record.isActive_reopened : r.reopened.isActive = true := rfl

/-- A new role in slot i that is apart from every other keeps the records apart. -/
theorem State.apart.replace {t : State} (h : s.apart) (hother : ∀ j, j ≠ i → t.role j = s.role j)
    (hnew : ∀ p, t.role i = some p → ∀ j, j ≠ i → ∀ q, s.role j = some q → p.apart q) : t.apart := by
  intro j k hjk p q hp hq
  by_cases hj : j = i
  · have hk : k ≠ i := fun hk => hjk (hj.trans hk.symm)
    exact hnew p (hj ▸ hp) k hk q ((hother k hk).symm.trans hq)
  · by_cases hk : k = i
    · exact (hnew q (hk ▸ hq) j hj p ((hother j hj).symm.trans hp)).symm
    · exact h j k hjk p q ((hother j hj).symm.trans hp) ((hother k hk).symm.trans hq)

theorem State.role_closed (w : CloseReason) (stamp : Word) :
    (s.closed i r w stamp).role j = if j = i then some { r.role with state := .closing } else s.role j := by
  rw [State.closed, State.role_congr ((State.setProgress_changes _ i none).record j), State.role_setSlot]
  rfl

theorem State.role_reopened : (s.setSlot i (some r.reopened)).role j =
    if j = i then some { r.role with state := .opened } else s.role j := by
  rw [State.role_setSlot]
  rfl

theorem State.boundStep_close (hr : s.record i = some r) (ho : r.state = .opened)
    (hl : L → ∀ j q, s.record j = some q → q.state = .closing → q.cell ≠ r.cell) (w : CloseReason) (stamp : Word) :
    BoundStep L s (s.closed i r w stamp) := by
  have hrole := State.role_of_active hr (Record.isActive_iff.2 (.inl ho))
  have hbanks : ∀ lb, (s.closed i r w stamp).bank lb = s.bank lb := fun lb => (s.closed_changes i r w stamp).bank lb
  refine .stays (fun lb j => ?_) (fun lb => by rw [hbanks]) (fun lb h => .inl (by rw [State.binds, hbanks]; exact h))
    (fun hL h => h.replace (i := i) (fun j hj => by rw [State.role_closed, if_neg hj]) fun p hp j hj q hq => ?_)
  · have hset := State.isBoundTo_setSlot hr (q := r.enterClosing w stamp)
      ((Record.isActive_enterClosing w stamp).trans (Record.isActive_iff.2 (.inl ho)).symm) rfl lb j
    rw [← hset, State.isBoundTo, State.isBoundTo, State.closed, (State.setProgress_changes _ i none).record]
  · rw [State.role_closed, if_pos rfl] at hp
    rw [← Option.some.inj hp]
    obtain ⟨r', hr', -, rfl⟩ := State.role_eq_some.1 hq
    exact ⟨(h i j hj.symm _ _ hrole hq).1, fun hsame => hl hL j r' hr' hsame.2.symm hsame.1.symm⟩

theorem State.boundStep_reopen (hr : s.record i = some r) (hc : r.state = .closing)
    (hl : L → ∀ j q, s.record j = some q → q.state = .opened → q.cell ≠ r.cell) :
    BoundStep L s (s.setSlot i (some r.reopened)) := by
  have hrole := State.role_of_active hr (Record.isActive_iff.2 (.inr hc))
  have hbanks : ∀ lb, (s.setSlot i (some r.reopened)).bank lb = s.bank lb := fun lb => (s.setSlot_changes i _).bank lb
  refine .stays (fun lb j => ?_) (fun lb => by rw [hbanks]) (fun lb h => .inl (by rw [State.binds, hbanks]; exact h))
    (fun hL h => h.replace (i := i) (fun j hj => by rw [State.role_reopened, if_neg hj]) fun p hp j hj q hq => ?_)
  · exact State.isBoundTo_setSlot hr (Record.isActive_reopened.trans (Record.isActive_iff.2 (.inr hc)).symm) rfl lb j
  · rw [State.role_reopened, if_pos rfl] at hp
    rw [← Option.some.inj hp]
    obtain ⟨r', hr', -, rfl⟩ := State.role_eq_some.1 hq
    exact ⟨(h i j hj.symm _ _ hrole hq).1, fun hsame => hl hL j r' hr' hsame.2.symm hsame.1.symm⟩

/-- A cell's CLOSING and OPEN records change places: of the cell there is still one of each. -/
theorem State.boundStep_swap (hr : s.record i = some r) (hc : r.state = .closing) (hq : s.record j = some q)
    (ho : q.state = .opened) (hcell : q.cell = r.cell) (w : CloseReason) (stamp : Word) :
    BoundStep L s ((s.setSlot i (some r.reopened)).closed j q w stamp) := by
  have hij : j ≠ i := fun h => by
    rw [h, hr] at hq
    rw [← Option.some.inj hq, hc] at ho
    exact nomatch ho
  have hri := State.role_of_active hr (Record.isActive_iff.2 (.inr hc))
  have hrj := State.role_of_active hq (Record.isActive_iff.2 (.inl ho))
  have hq' : (s.setSlot i (some r.reopened)).record j = some q := by rw [State.record_setSlot, if_neg hij, hq]
  have hbanks : ∀ lb, ((s.setSlot i (some r.reopened)).closed j q w stamp).bank lb = s.bank lb := fun lb =>
    (s.swap_changes i j r q w stamp).bank lb
  have hroles : ∀ k, ((s.setSlot i (some r.reopened)).closed j q w stamp).role k =
      if k = j then some { q.role with state := .closing } else if k = i then some { r.role with state := .opened }
        else s.role k := fun k => by
    rw [State.role_closed]
    split
    · rfl
    · exact State.role_reopened
  refine .stays (fun lb k => ?_) (fun lb => by rw [hbanks]) (fun lb h => .inl (by rw [State.binds, hbanks]; exact h))
    (fun _ h k m hkm p p' hp hp' => ?_)
  · have h1 := State.isBoundTo_setSlot hr (q := r.reopened)
      (Record.isActive_reopened.trans (Record.isActive_iff.2 (.inr hc)).symm) rfl lb k
    have h2 := State.isBoundTo_setSlot hq' (q := q.enterClosing w stamp)
      ((Record.isActive_enterClosing w stamp).trans (Record.isActive_iff.2 (.inl ho)).symm) rfl lb k
    rw [← h1, ← h2, State.isBoundTo, State.isBoundTo, State.closed, (State.setProgress_changes _ j none).record]
  · have hkeys := (h j i hij _ _ hrj hri).1
    have hi : ∀ m p, m ≠ i → m ≠ j → s.role m = some p → Role.apart { r.role with state := .opened } p :=
      fun m p hmi hmj hm => ⟨(h i m hmi.symm _ _ hri hm).1, fun hsame =>
        (h j m hmj.symm _ _ hrj hm).2 ⟨hcell.trans hsame.1, ho.trans hsame.2⟩⟩
    have hj : ∀ m p, m ≠ i → m ≠ j → s.role m = some p → Role.apart { q.role with state := .closing } p :=
      fun m p hmi hmj hm => ⟨(h j m hmj.symm _ _ hrj hm).1, fun hsame =>
        (h i m hmi.symm _ _ hri hm).2 ⟨hcell.symm.trans hsame.1, hc.trans hsame.2⟩⟩
    have hboth : Role.apart { q.role with state := .closing } { r.role with state := .opened } :=
      ⟨hkeys, fun hsame => nomatch hsame.2⟩
    rw [hroles] at hp hp'
    by_cases hkj : k = j
    · rw [if_pos hkj] at hp
      rw [← Option.some.inj hp]
      have hmj : m ≠ j := fun hm => hkm (hkj.trans hm.symm)
      rw [if_neg hmj] at hp'
      by_cases hmi : m = i
      · rw [if_pos hmi] at hp'
        rw [← Option.some.inj hp']
        exact hboth
      · rw [if_neg hmi] at hp'
        exact hj m p' hmi hmj hp'
    · rw [if_neg hkj] at hp
      by_cases hki : k = i
      · rw [if_pos hki] at hp
        rw [← Option.some.inj hp]
        have hmi : m ≠ i := fun hm => hkm (hki.trans hm.symm)
        by_cases hmj : m = j
        · rw [if_pos hmj] at hp'
          rw [← Option.some.inj hp']
          exact hboth.symm
        · rw [if_neg hmj, if_neg hmi] at hp'
          exact hi m p' hmi hmj hp'
      · rw [if_neg hki] at hp
        by_cases hmj : m = j
        · rw [if_pos hmj] at hp'
          rw [← Option.some.inj hp']
          exact (hj k p hki hkj hp).symm
        · rw [if_neg hmj] at hp'
          by_cases hmi : m = i
          · rw [if_pos hmi] at hp'
            rw [← Option.some.inj hp']
            exact (hi k p hki hkj hp).symm
          · rw [if_neg hmi] at hp'
            exact h k m hkm p p' hp hp'

theorem State.boundStep_seal (s : State) (i : SlotId) (w : Option CloseReason) : BoundStep L s (s.sealSlot i w) := by
  by_cases hidle : ∀ r, s.record i = some r → r.isActive = false
  · rw [State.sealSlot_of_idle hidle]
    exact .of_roles (fun _ => rfl) fun _ => rfl
  · push Not at hidle
    obtain ⟨r, hr, ha⟩ := hidle
    have hactive : r.isActive = true := Bool.eq_true_of_not_eq_false ha
    refine .leaves i r.role (State.role_of_active hr hactive) (State.role_of_idle fun q hq => ?_)
      (fun j hj => State.role_of_standing (s.standing_sealSlot_other hj w)) fun lb => State.bank_sealSlot hr hactive w lb
    obtain ⟨b, hb⟩ := State.record_sealSlot_same hr hactive w
    rw [hb] at hq
    rw [← Option.some.inj hq]
    rfl

theorem State.boundStep_free (s : State) (i : SlotId) : BoundStep L s (s.freeRecord i) := by
  cases hr : s.record i with
  | none =>
    rw [State.freeRecord_of_none hr]
    exact .of_roles (fun _ => rfl) fun _ => rfl
  | some r =>
    have hother : ∀ j, j ≠ i → (s.freeRecord i).role j = s.role j := fun j hj =>
      State.role_of_standing (by rw [State.standing_freeRecord hr, if_neg hj])
    have hgone : (s.freeRecord i).role i = none := State.role_of_idle fun q hq => by
      rw [State.record_freeRecord_same hr] at hq
      exact nomatch hq
    cases ha : r.isActive with
    | true =>
      refine .leaves i r.role (State.role_of_active hr ha) hgone hother fun lb => ?_
      rw [State.bank_freeRecord hr, ha]
      simp only [true_and]
      rfl
    | false =>
      have hbefore : s.role i = none := State.role_of_idle fun q hq => by rw [← Option.some.inj (hr.symm.trans hq), ha]
      refine .of_roles (fun j => ?_) fun lb => ?_
      · by_cases hj : j = i
        · rw [hj, hgone, hbefore]
        · exact hother j hj
      · rw [State.bank_freeRecord hr, ha]
        exact if_neg fun h => Bool.false_ne_true h.1

theorem State.role_takeFrame (s : State) (j : SlotId) : s.takeFrame.1.role j = s.role j := by
  unfold State.takeFrame
  split
  · rfl
  · split
    · rfl
    · next m f _ =>
      have hlists : (s.modRecord m Record.loseFrame).changesOnly
          (((s.modRecord m Record.loseFrame).abortDumpOf m).removePending m) [.xport] :=
        (State.modDump_changes _ _).trans (State.removePending_changes _ m)
      rw [State.role_congr (hlists.record j), State.role, State.record_modRecord]
      split
      · next h =>
        rw [h, State.role]
        cases s.record m with
        | none => rfl
        | some x =>
          rw [Option.map_some, Option.filter_some, Option.filter_some]
          have hx : x.loseFrame.isActive = x.isActive := rfl
          rw [hx]
          split <;> rfl
      · rfl

/-- What L says of an opening, in roles. -/
theorem State.apart_of_opening {k : Key} {c : CellId} {lb : BankId}
    (h : ∀ j q, s.record j = some q → q.isActive = true → q.key ≠ k ∧ (q.state = .opened → q.cell ≠ c)) (m : SlotId)
    (p : Role) (hp : s.role m = some p) : Role.apart { state := .opened, key := k, cell := c, bank := lb } p := by
  obtain ⟨x, hx, hxa, rfl⟩ := State.role_eq_some.1 hp
  obtain ⟨hkey, hcell⟩ := h m x hx hxa
  exact ⟨hkey.symm, fun hsame => hcell hsame.2.symm hsame.1.symm⟩

theorem State.boundStep_resume {c : CellId} (hr : s.record i = some r) (hs : r.isSealed = true)
    (hlive : (s.bank r.bank).state = .live)
    (hl : L → ∀ j q, s.record j = some q → q.isActive = true → q.key ≠ r.key ∧ (q.state = .opened → q.cell ≠ c)) :
    BoundStep L s (s.resumeSlot i c) := by
  have hidle : r.isActive = false := by
    rw [Record.isSealed_eq_not] at hs
    exact Bool.not_eq_true' _ ▸ hs
  refine .joins i { state := .opened, key := r.key, cell := c, bank := r.bank }
    (State.role_of_idle fun q hq => by rw [← Option.some.inj (hr.symm.trans hq), hidle])
    (State.role_of_active (State.record_resumeSlot_same hr c) rfl)
    (fun j hj => State.role_of_standing (by rw [State.standing_resumeSlot hr, if_neg hj]))
    (fun lb => State.bank_resumeSlot hr c lb) hlive fun hL => State.apart_of_opening (hl hL)

theorem State.boundStep_opening {c : CellId} {k : Key} (p : Fin 8) {lb : BankId} (hfree : s.record i = none)
    (hlive : (s.bank lb).state = .live)
    (hl : L → ∀ j q, s.record j = some q → q.isActive = true → q.key ≠ k ∧ (q.state = .opened → q.cell ≠ c)) :
    BoundStep L s (s.takeFrame.1.openIn i s.takeFrame.2 c k p lb) := by
  have hbanks : ∀ x, s.takeFrame.1.bank x = s.bank x := fun x => s.takeFrame_only.bank x
  refine .joins i { state := .opened, key := k, cell := c, bank := lb }
    (State.role_of_idle fun q hq => nomatch hfree.symm.trans hq)
    (State.role_of_active ((State.record_openIn _ i _ c k p lb i).trans (if_pos rfl)) rfl) (fun j hj => ?_) (fun x => ?_) hlive
    fun hL => State.apart_of_opening (hl hL)
  · have hkept : (s.takeFrame.1.openIn i s.takeFrame.2 c k p lb).standing j = s.takeFrame.1.standing j := by
      rw [State.standing_openIn, if_neg hj]
    rw [State.role_of_standing hkept, s.role_takeFrame]
  · rw [State.bank_openIn, hbanks]

theorem State.exportStep_role (s : State) (i j : SlotId) : (s.exportStep i).role j = s.role j := by
  unfold State.exportStep
  split
  · rfl
  · next r hr =>
    split
    · next hc =>
      show ((s.setSlot i _).role j) = _
      rw [State.role_setSlot]
      split
      · next h =>
        rw [h, State.role_of_idle fun q hq => by
          rw [← Option.some.inj (hr.symm.trans hq)]
          simp [Record.isActive, hc]]
        rfl
      · rfl
    · rfl

theorem State.boundStep_load {lb : BankId} {v : Bank} (h : (s.bank lb).loadsTo v) : BoundStep L s (s.setBank lb v) := by
  have hc := s.setBank_changes lb v
  refine .stays (fun x j => State.isBoundTo_congr (State.role_congr (hc.record j)) x) (fun x => ?_) (fun x hx => ?_)
    fun _ ha => ha.of_roles fun j => State.role_congr (hc.record j)
  · rw [State.bank_setBank]
    split
    · next hxl => rw [hxl, h.bound]
    · rfl
  · left
    rw [State.binds, State.bank_setBank]
    split
    · next hxl =>
      have hload := h.before
      rw [hxl] at hx
      rcases hx with hx | hx <;> rw [hx] at hload <;> exact absurd hload Bool.false_ne_true
    · exact hx

theorem State.boundStep_activate {lb : BankId} : BoundStep L s (s.activate lb) := by
  have hc := s.activate_changes lb
  refine .stays (fun x j => State.isBoundTo_congr (State.role_congr (hc.record j)) x) (fun x => ?_) (fun x hx => ?_)
    fun _ ha => ha.of_roles fun j => State.role_congr (hc.record j)
  · rcases lb.eq_or_eq_other x with rfl | rfl
    · rw [State.bank_activate_same]
    · rw [State.bank_activate_other, Bank.superseded_eq]
  · rcases lb.eq_or_eq_other x with rfl | rfl
    · left
      rw [State.binds, State.bank_activate_same]
      exact .inl rfl
    · rw [State.binds, State.bank_activate_other, Bank.superseded]
      rcases hx with hx | hx
      · rw [if_pos hx]
        by_cases hzero : (s.bank lb.other).bound = 0
        · exact .inr hzero
        · left
          right
          exact if_neg hzero
      · rw [if_neg (by rw [hx]; exact nofun)]
        exact .inl (.inr hx)

theorem State.resolveResult_role (hr : s.record i = some r) (q : SiteResult) (j : SlotId) :
    (s.resolveResult i r q).1.role j = s.role j := by
  obtain ⟨r', hr', hrec⟩ := s.record_resolveResult i r q
  by_cases hj : j = i
  · rw [hj, State.role_of_record ((hrec i).trans (if_pos rfl)), State.role_of_record hr, hr']
    rfl
  · exact State.role_congr ((hrec j).trans (if_neg hj))

end

theorem Act.boundStep {L : Prop} {s t : State} (h : Act L s t) : BoundStep L s t := by
  cases h with
  | aside h => exact h.boundStep
  | cells h _ => exact h.boundStep
  | raise a => exact (s.raise_changes a).boundStep
  | alerts h _ => exact h.boundStep
  | load lb v h => exact State.boundStep_load h
  | activate lb _ => exact State.boundStep_activate
  | note i r q hr hs _ => exact (State.setSlot_standings hr hs).boundStep (s.setSlot_changes i _)
  | resolve i r q hr _ =>
    exact .of_roles (State.resolveResult_role hr q) fun lb => (s.resolveResult_changes i r q).bank lb
  | sealing i w => exact s.boundStep_seal i w
  | free i => exact s.boundStep_free i
  | close i r w stamp hr ho hl => exact State.boundStep_close hr ho hl w stamp
  | reopen i r hr hc hl => exact State.boundStep_reopen hr hc hl
  | swap i j r q w stamp hr hc hq ho hcell => exact State.boundStep_swap hr hc hq ho hcell w stamp
  | resume i r c hr hs hlive hl => exact State.boundStep_resume hr hs hlive hl
  | opening i c k p lb hfree hlive hl => exact State.boundStep_opening p hfree hlive hl
  | startProgress i _ => exact (s.startProgress_changes i).boundStep
  | progressExpire i _ => exact (s.progressExpire_changes i).boundStep
  | timers v _ => exact (s.withXport_changes _).boundStep
  | dump d _ => exact (s.withXport_changes _).boundStep
  | endDump _ => exact s.endDump_changes.boundStep
  | chainMap i r _ _ => exact (s.chainMap_changes i).boundStep
  | requestMap i r _ _ => exact (s.requestMap_changes i).boundStep
  | takeSum e rest _ =>
    exact State.sameStandings.boundStep ((s.withXport_changes _).standing.trans (State.fillPlace_standings _))
      (s.takeSum_changes rest)
  | queueFinal i r _ _ _ => exact (s.queueFinal_standings i).boundStep (s.queueFinal_changes i)
  | exportStep i => exact .of_roles (s.exportStep_role i) fun lb => (s.exportStep_changes i).bank lb

theorem Move.boundLaw {L : Prop} {s t : State} (h : Move L s t) (hs : s.boundLaw) : t.boundLaw := by
  cases h with
  | act h => exact h.boundStep.boundLaw hs
  | port h _ => exact (h.boundStep (L := L)).boundLaw hs
  | hall h _ _ _ => exact (h.boundStep (L := L)).boundLaw hs
  | reset straps => exact reset_boundLaw

/-- The law of bound counts and the law of records, together. -/
def State.directoryLaw (s : State) : Prop := s.boundLaw ∧ s.recordLaw

theorem Act.directoryLaw {L : Prop} (hL : L) {s t : State} (h : Act L s t) (hs : s.directoryLaw) : t.directoryLaw :=
  ⟨h.boundStep.boundLaw hs.1, h.boundStep.recordLaw hL hs.1 hs.2⟩

theorem Move.directoryLaw {L : Prop} (hL : L) {s t : State} (h : Move L s t) (hs : s.directoryLaw) :
    t.directoryLaw := by
  have hstep : ∀ {u : State}, BoundStep L s u → u.directoryLaw := fun h =>
    ⟨h.boundLaw hs.1, h.recordLaw hL hs.1 hs.2⟩
  cases h with
  | act h => exact h.directoryLaw hL hs
  | port h _ => exact hstep h.boundStep
  | hall h _ _ _ => exact hstep h.boundStep
  | reset straps => exact ⟨reset_boundLaw, reset_recordLaw⟩

theorem Acts.directoryLaw {L : Prop} {s t : State} (h : Acts L s t) (hs : L → s.directoryLaw) : L → t.directoryLaw :=
  fun hL => h.keeps (fun _ _ ha => ha.directoryLaw hL) (hs hL)

end Sys2Proof.Machine

/-! SUPPORT. The frame law, kept by every act: a frame is on the free list once or with one record (R97, R99 to R101). -/

namespace Sys2Proof.Machine

set_option Elab.async false

/-- The frame that the record in a slot holds. -/
def State.frameOf (s : State) (i : SlotId) : Option FrameId := (s.record i).bind Record.frame

/-- The frame law of a part that has one frame in hand, off the free list and not yet with a record (R86, R93). -/
structure State.framesBut (s : State) (o : Option FrameId) : Prop where
  nodup  : s.maps.free.Nodup
  inHand : ∀ f, o = some f → f ∉ s.maps.free ∧ ∀ i, s.frameOf i ≠ some f
  held   : ∀ i f, s.frameOf i = some f → f ∉ s.maps.free
  placed : ∀ f, f ∉ s.maps.free → o ≠ some f → ∃ i, s.frameOf i = some f
  alone  : ∀ i j f, s.frameOf i = some f → s.frameOf j = some f → i = j

section

variable {s t : State} {i : SlotId} {f : FrameId} {o : Option FrameId}

theorem State.holdsFrame_iff_frameOf : s.holdsFrame i f = true ↔ s.frameOf i = some f := by
  unfold State.holdsFrame State.frameOf
  cases s.record i <;> simp

theorem State.frameLaw_iff_but : s.frameLaw ↔ s.framesBut none := by
  rw [State.frameLaw_iff]
  simp only [State.holdsFrame_iff_frameOf]
  constructor
  · rintro ⟨hnodup, hheld, hplaced, halone⟩
    exact ⟨hnodup, fun f h => (nomatch h), hheld, fun f hf _ => hplaced f hf, halone⟩
  · rintro ⟨hnodup, -, hheld, hplaced, halone⟩
    exact ⟨hnodup, hheld, fun f hf => hplaced f hf nofun, halone⟩

theorem State.frameOf_of_record {r : Record} (h : s.record i = some r) : s.frameOf i = r.frame := by
  rw [State.frameOf, h]
  rfl

theorem State.frameOf_of_none (h : s.record i = none) : s.frameOf i = none := by
  rw [State.frameOf, h]
  rfl

theorem State.frameOf_congr (h : t.record i = s.record i) : t.frameOf i = s.frameOf i := by
  rw [State.frameOf, State.frameOf, h]

theorem State.frameOf_of_standing (h : t.standing i = s.standing i) : t.frameOf i = s.frameOf i := by
  have hbind : ∀ u : State, u.frameOf i = (u.standing i).bind Standing.frame := fun u => by
    rw [State.frameOf, State.standing]
    cases u.record i <;> rfl
  rw [hbind, hbind, h]

/-- Frames and free list unchanged. -/
theorem State.framesBut.of_frames (h : s.framesBut o) (hf : ∀ i, t.frameOf i = s.frameOf i)
    (hm : t.maps.free = s.maps.free) : t.framesBut o :=
  ⟨by rw [hm]; exact h.nodup,
    fun f hf' => ⟨by rw [hm]; exact (h.inHand f hf').1, fun i => by rw [hf]; exact (h.inHand f hf').2 i⟩,
    fun i f hi => by rw [hm]; exact h.held i f ((hf i).symm.trans hi),
    fun f hfree ho => by
      rw [hm] at hfree
      obtain ⟨i, hi⟩ := h.placed f hfree ho
      exact ⟨i, (hf i).trans hi⟩,
    fun i j f hi hj => h.alone i j f ((hf i).symm.trans hi) ((hf j).symm.trans hj)⟩

theorem State.changesOnly.framesBut {bs : List Block} (h : s.changesOnly t bs) (hs : s.framesBut o)
    (hd : .dir ∉ bs := by decide) (hm : .maps ∉ bs := by decide) : t.framesBut o :=
  hs.of_frames (fun i => State.frameOf_congr (h.record i hd)) (by rw [h.maps hm])

/-- A slot's record puts its frame down: the frame comes to hand. -/
theorem State.framesBut.put {i : SlotId} (h : s.framesBut none) (hi : t.frameOf i = none)
    (hother : ∀ j, j ≠ i → t.frameOf j = s.frameOf j) (hm : t.maps.free = s.maps.free) : t.framesBut (s.frameOf i) := by
  have hback : ∀ j f, t.frameOf j = some f → j ≠ i ∧ s.frameOf j = some f := fun j f hj => by
    have hne : j ≠ i := by
      rintro rfl
      exact nomatch hi.symm.trans hj
    exact ⟨hne, (hother j hne).symm.trans hj⟩
  refine ⟨by rw [hm]; exact h.nodup, fun f hf => ⟨by rw [hm]; exact h.held i f hf, fun j hj => ?_⟩,
    fun j f hj => by rw [hm]; exact h.held j f (hback j f hj).2, fun f hfree hne => ?_, fun j k f hj hk => ?_⟩
  · exact (hback j f hj).1 (h.alone j i f (hback j f hj).2 hf)
  · rw [hm] at hfree
    obtain ⟨j, hj⟩ := h.placed f hfree nofun
    have hji : j ≠ i := fun he => hne (he ▸ hj)
    exact ⟨j, (hother j hji).trans hj⟩
  · exact h.alone j k f (hback j f hj).2 (hback k f hk).2

/-- The frame in hand returns to the tail of the free list. -/
theorem State.framesBut.giveBack (h : s.framesBut o) (hf : ∀ i, t.frameOf i = s.frameOf i)
    (hm : t.maps.free = s.maps.free ++ o.toList) : t.framesBut none := by
  have hmem : ∀ f, f ∈ t.maps.free ↔ f ∈ s.maps.free ∨ o = some f := fun f => by
    rw [hm, List.mem_append, Option.mem_toList]
  refine ⟨?_, fun f h => (nomatch h), fun i f hi hfree => ?_, fun f hfree _ => ?_,
    fun i j f hi hj => h.alone i j f ((hf i).symm.trans hi) ((hf j).symm.trans hj)⟩
  · rw [hm]
    cases o with
    | none => rw [Option.toList_none, List.append_nil]; exact h.nodup
    | some f =>
      rw [Option.toList_some]
      exact List.nodup_append.2 ⟨h.nodup, List.nodup_singleton f, fun a ha b hb hab =>
        (h.inHand f rfl).1 (by rw [List.mem_singleton.1 hb] at hab; exact hab ▸ ha)⟩
  · rcases (hmem f).1 hfree with hfree | ho
    · exact h.held i f ((hf i).symm.trans hi) hfree
    · exact (h.inHand f ho).2 i ((hf i).symm.trans hi)
  · obtain ⟨i, hi⟩ := h.placed f (fun hin => hfree ((hmem f).2 (.inl hin))) fun ho => hfree ((hmem f).2 (.inr ho))
    exact ⟨i, (hf i).trans hi⟩

/-- The frame in hand goes to the record of a slot that held none. -/
theorem State.framesBut.give {i : SlotId} (h : s.framesBut o) (hbefore : s.frameOf i = none) (hi : t.frameOf i = o)
    (hother : ∀ j, j ≠ i → t.frameOf j = s.frameOf j) (hm : t.maps.free = s.maps.free) : t.framesBut none := by
  have hcases : ∀ j f, t.frameOf j = some f → (j = i ∧ o = some f) ∨ (j ≠ i ∧ s.frameOf j = some f) := fun j f hj => by
    by_cases hji : j = i
    · exact .inl ⟨hji, hi.symm.trans (hji ▸ hj)⟩
    · exact .inr ⟨hji, (hother j hji).symm.trans hj⟩
  refine ⟨by rw [hm]; exact h.nodup, fun f h => (nomatch h), fun j f hj => ?_, fun f hfree _ => ?_, fun j k f hj hk => ?_⟩
  · rw [hm]
    rcases hcases j f hj with ⟨-, ho⟩ | ⟨-, hj⟩
    · exact (h.inHand f ho).1
    · exact h.held j f hj
  · rw [hm] at hfree
    by_cases ho : o = some f
    · exact ⟨i, hi.trans ho⟩
    · obtain ⟨j, hj⟩ := h.placed f hfree ho
      have hji : j ≠ i := by
        rintro rfl
        exact nomatch hbefore.symm.trans hj
      exact ⟨j, (hother j hji).trans hj⟩
  · rcases hcases j f hj with ⟨rfl, ho⟩ | ⟨-, hj⟩ <;> rcases hcases k f hk with ⟨rfl, ho'⟩ | ⟨-, hk⟩
    · rfl
    · exact absurd hk ((h.inHand f ho).2 k)
    · exact absurd hj ((h.inHand f ho').2 j)
    · exact h.alone j k f hj hk

end

theorem State.frameOf_setSlot {s : State} {i : SlotId} {r q : Record} (hr : s.record i = some r)
    (hf : q.frame = r.frame) (j : SlotId) : (s.setSlot i (some q)).frameOf j = s.frameOf j := by
  by_cases hj : j = i
  · rw [hj, State.frameOf_of_record (s.record_setSlot_same i _), State.frameOf_of_record hr, hf]
  · exact State.frameOf_congr (s.record_setSlot_other _ hj)

/-- The slot that a reclaim of a frame takes it from. -/
theorem State.oldestWithFrame_spec {s : State} {j : SlotId} {f : FrameId} (h : s.oldestWithFrame = some (j, f)) :
    s.frameOf j = some f := by
  obtain ⟨i, -, hi⟩ := List.exists_of_findSome?_eq_some h
  cases hr : s.record i with
  | none =>
    rw [hr] at hi
    exact nomatch hi
  | some r =>
    rw [hr] at hi
    obtain ⟨g, hg, hpair⟩ := Option.map_eq_some_iff.1 hi
    obtain ⟨rfl, rfl⟩ := Prod.mk.inj hpair
    rw [State.frameOf_of_record hr, hg]

/-- The reclaim of the frame of record j. -/
def State.reclaimed (s : State) (j : SlotId) : State :=
  ((s.modRecord j Record.loseFrame).abortDumpOf j).removePending j

theorem State.reclaimed_lists (s : State) (j : SlotId) :
    (s.modRecord j Record.loseFrame).changesOnly (s.reclaimed j) [.xport] :=
  (State.modDump_changes _ _).trans (State.removePending_changes _ j)

theorem State.reclaimed_changes (s : State) (j : SlotId) : s.changesOnly (s.reclaimed j) [.dir, .xport] :=
  (s.modRecord_changes j _).seq (s.reclaimed_lists j)

theorem State.record_reclaimed (s : State) (j k : SlotId) :
    (s.reclaimed j).record k = if k = j then (s.record j).map Record.loseFrame else s.record k := by
  rw [(s.reclaimed_lists j).record, State.record_modRecord]

/-- The three ways a fresh opening comes to its frame. -/
theorem State.takeFrame_cases (s : State) :
    (∃ f rest, s.maps.free = f :: rest ∧ s.takeFrame = (s.withMaps { s.maps with free := rest }, some f)) ∨
    (∃ j f, s.maps.free = [] ∧ s.oldestWithFrame = some (j, f) ∧ s.takeFrame = (s.reclaimed j, some f)) ∨
    (s.maps.free = [] ∧ s.oldestWithFrame = none ∧ s.takeFrame = (s, none)) := by
  unfold State.takeFrame
  cases hfree : s.maps.free with
  | cons f rest => exact .inl ⟨f, rest, rfl, rfl⟩
  | nil =>
    right
    cases hold : s.oldestWithFrame with
    | none => exact .inr ⟨rfl, rfl, rfl⟩
    | some jf => exact .inl ⟨jf.1, jf.2, rfl, rfl, rfl⟩

theorem State.framesBut_takeFrame {s : State} (h : s.framesBut none) : s.takeFrame.1.framesBut s.takeFrame.2 := by
  rcases s.takeFrame_cases with ⟨f, rest, hfree, htake⟩ | ⟨j, f, hfree, hold, htake⟩ | ⟨-, -, htake⟩
  · rw [htake]
    have hnodup := h.nodup
    rw [hfree, List.nodup_cons] at hnodup
    have hmem : ∀ g, g ∈ s.maps.free ↔ g = f ∨ g ∈ rest := fun g => by rw [hfree, List.mem_cons]
    refine ⟨hnodup.2, fun g hg => ?_, fun i g hi hg => h.held i g hi ((hmem g).2 (.inr hg)), fun g hg hne => ?_, h.alone⟩
    · rw [← Option.some.inj hg]
      exact ⟨hnodup.1, fun i hi => h.held i f hi ((hmem f).2 (.inl rfl))⟩
    · refine h.placed g (fun hin => ?_) nofun
      rcases (hmem g).1 hin with rfl | hin
      · exact hne rfl
      · exact hg hin
  · rw [htake]
    have hj := State.oldestWithFrame_spec hold
    have hput := h.put (t := s.reclaimed j) (i := j) (by
      rw [State.frameOf, State.record_reclaimed, if_pos rfl]
      cases s.record j <;> rfl) (fun k hk => State.frameOf_congr (by rw [State.record_reclaimed, if_neg hk]))
      (by rw [(s.reclaimed_changes j).maps])
    rwa [hj] at hput
  · rw [htake]
    exact h

theorem State.maps_free_openIn (s : State) (i : SlotId) (f : Option FrameId) (c : CellId) (k : Key) (p : Fin 8)
    (lb : BankId) : (s.openIn i f c k p lb).maps.free = s.maps.free := by
  rw [State.maps_openIn]
  cases f <;> rfl

theorem State.record_takeFrame_none {s : State} {i : SlotId} (h : s.record i = none) : s.takeFrame.1.record i = none := by
  rcases s.takeFrame_cases with ⟨f, rest, -, htake⟩ | ⟨j, f, -, hold, htake⟩ | ⟨-, -, htake⟩
  · rw [htake]
    exact h
  · rw [htake, State.record_reclaimed]
    split
    · next hj => rw [← hj, h]; rfl
    · exact h
  · rw [htake]
    exact h

theorem Act.framesBut {L : Prop} {s t : State} (h : Act L s t) (hs : s.framesBut none) : t.framesBut none := by
  have hset : ∀ {u : State} {i : SlotId} {r q : Record}, u.framesBut none → u.record i = some r → q.frame = r.frame →
      (u.setSlot i (some q)).framesBut none := fun hu hr hf => hu.of_frames (State.frameOf_setSlot hr hf) rfl
  have hstand : ∀ {bs : List Block}, s.sameStandings t → s.changesOnly t bs → (hb : Block.maps ∉ bs := by decide) →
      t.framesBut none := fun hst hc hb => hs.of_frames (fun i => State.frameOf_of_standing (hst i)) (by rw [hc.maps hb])
  cases h with
  | aside h => exact h.framesBut hs
  | cells h _ => exact h.framesBut hs
  | raise a => exact (s.raise_changes a).framesBut hs
  | alerts h _ => exact h.framesBut hs
  | load lb v _ => exact (s.setBank_changes lb v).framesBut hs
  | activate lb _ => exact (s.activate_changes lb).framesBut hs
  | note i r q hr hq _ => exact hset hs hr (congrArg Standing.frame hq)
  | resolve i r q hr _ =>
    obtain ⟨r', hr', hrec⟩ := s.record_resolveResult i r q
    refine hs.of_frames (fun j => ?_) ?_
    · by_cases hj : j = i
      · rw [hj, State.frameOf_of_record ((hrec i).trans (if_pos rfl)), State.frameOf_of_record hr, hr']
      · exact State.frameOf_congr ((hrec j).trans (if_neg hj))
    · have h := s.resolvesTo i r q
      generalize (s.resolveResult i r q).1 = t at h ⊢
      cases h with
      | void _ => rfl
      | counted _ _ => rfl
      | new f _ _ => rfl
      | replaced f b n _ _ => rfl
      | kept f b n _ _ => rfl
      | noticed f b n _ _ => rw [(State.raise_changes _ _).maps]; rfl
  | sealing i w =>
    by_cases hidle : ∀ r, s.record i = some r → r.isActive = false
    · rw [State.sealSlot_of_idle hidle]
      exact hs
    · push Not at hidle
      obtain ⟨r, hr, ha⟩ := hidle
      have hactive : r.isActive = true := Bool.eq_true_of_not_eq_false ha
      obtain ⟨b, hb⟩ := State.record_sealSlot_same hr hactive w
      refine hs.of_frames (fun j => ?_) (by rw [(s.sealSlot_changes i w).maps])
      by_cases hj : j = i
      · rw [hj, State.frameOf_of_record hb, State.frameOf_of_record hr]
        rfl
      · exact State.frameOf_of_standing (s.standing_sealSlot_other hj w)
  | free i =>
    cases hr : s.record i with
    | none =>
      rw [State.freeRecord_of_none hr]
      exact hs
    | some r =>
      have hput := hs.put (t := s.setSlot i none) (i := i) (State.frameOf_of_none (s.record_setSlot_same i none))
        (fun j hj => State.frameOf_congr (s.record_setSlot_other none hj)) rfl
      rw [State.frameOf_of_record hr] at hput
      refine hput.giveBack (fun j => State.frameOf_of_standing ?_) (by rw [State.maps_freeRecord hr]; rfl)
      rw [State.standing_freeRecord hr, State.standing_setSlot]
      rfl
  | close i r w stamp hr _ _ => exact (State.setProgress_changes _ i none).framesBut (hset hs hr rfl)
  | reopen i r hr _ _ => exact hset hs hr rfl
  | swap i j r q w stamp hr hc hq ho _ =>
    have hij : j ≠ i := fun h => by
      rw [h, hr] at hq
      rw [← Option.some.inj hq, hc] at ho
      exact nomatch ho
    exact (State.setProgress_changes _ j none).framesBut
      (hset (hset hs hr rfl) ((s.record_setSlot_other _ hij).trans hq) rfl)
  | resume i r c hr _ _ _ =>
    refine hs.of_frames (fun j => ?_) (by rw [(s.resumeSlot_changes i c).maps])
    by_cases hj : j = i
    · rw [hj, State.frameOf_of_record (State.record_resumeSlot_same hr c), State.frameOf_of_record hr]
      rfl
    · exact State.frameOf_of_standing (by rw [State.standing_resumeSlot hr, if_neg hj])
  | opening i c k p lb hfree _ _ =>
    have hrec : ∀ j, (s.takeFrame.1.openIn i s.takeFrame.2 c k p lb).record j =
        if j = i then some (s.takeFrame.1.newRecord s.takeFrame.2 c k p lb) else s.takeFrame.1.record j :=
      State.record_openIn _ i _ c k p lb
    exact (State.framesBut_takeFrame hs).give (i := i) (State.frameOf_of_none (State.record_takeFrame_none hfree))
      (State.frameOf_of_record ((hrec i).trans (if_pos rfl)))
      (fun j hj => State.frameOf_congr ((hrec j).trans (if_neg hj))) (State.maps_free_openIn _ i _ c k p lb)
  | startProgress i _ => exact (s.startProgress_changes i).framesBut hs
  | progressExpire i _ => exact (s.progressExpire_changes i).framesBut hs
  | timers v _ => exact (s.withXport_changes _).framesBut hs
  | dump d _ => exact (s.withXport_changes _).framesBut hs
  | endDump _ => exact s.endDump_changes.framesBut hs
  | chainMap i r _ _ => exact (s.chainMap_changes i).framesBut hs
  | requestMap i r _ _ => exact (s.requestMap_changes i).framesBut hs
  | takeSum e rest _ =>
    exact hstand ((s.withXport_changes _).standing.trans (State.fillPlace_standings _)) (s.takeSum_changes rest)
  | queueFinal i r _ _ _ => exact hstand (s.queueFinal_standings i) (s.queueFinal_changes i)
  | exportStep i =>
    unfold State.exportStep
    split
    · exact hs
    · next r hr =>
      split
      · exact (hset (q := { r with state := .exported }) hs hr rfl).of_frames (fun _ => rfl) rfl
      · exact hs

theorem Act.frameLaw {L : Prop} {s t : State} (h : Act L s t) (hs : s.frameLaw) : t.frameLaw :=
  State.frameLaw_iff_but.2 (h.framesBut (State.frameLaw_iff_but.1 hs))

theorem Move.frameLaw {L : Prop} {s t : State} (h : Move L s t) (hs : s.frameLaw) : t.frameLaw := by
  cases h with
  | act h => exact h.frameLaw hs
  | port h _ => exact State.frameLaw_iff_but.2 (h.framesBut (State.frameLaw_iff_but.1 hs))
  | hall h _ _ _ => exact State.frameLaw_iff_but.2 (h.framesBut (State.frameLaw_iff_but.1 hs))
  | reset straps => exact reset_frameLaw

end Sys2Proof.Machine

/-! SUPPORT. The count laws of the tallies, kept by every act: the number of TESTED die cells after one is written, sums
after one entry is written, and the tallies of a record against its frame (R104 to R114). -/

namespace Sys2Proof.Machine

set_option Elab.async false

/-! ## Counting a store's entries -/

theorem storeRead_of_absent (d : Byte) {m : List Host.Cell} {a : Nat} (h : ∀ x ∈ m, x.1 ≠ a) : storeRead d m a = d := by
  induction m with
  | nil => rfl
  | cons e m ih =>
    rw [storeRead, if_neg (h e List.mem_cons_self), ih fun x hx => h x (List.mem_cons_of_mem _ hx)]

/-- The number of a store's entries whose byte satisfies p. -/
def storeCount (p : Byte → Bool) (m : List Host.Cell) : Nat := (m.filter fun e => p e.2).length

theorem storeCount_cons (p : Byte → Bool) (e : Host.Cell) (m : List Host.Cell) :
    storeCount p (e :: m) = (p e.2).toNat + storeCount p m := by
  rw [storeCount, storeCount, List.filter_cons]
  cases p e.2
  · rw [if_neg Bool.false_ne_true, Bool.toNat_false, Nat.zero_add]
  · rw [if_pos rfl, List.length_cons, Bool.toNat_true, Nat.add_comm]

/-- A write moves one byte: the old one leaves the count, the new one joins it. -/
theorem storeCount_storeWrite {d : Byte} {p : Byte → Bool} (hp : p d = false) {m : List Host.Cell} (h : storeWf d m)
    (a : Nat) (v : Byte) :
    storeCount p (storeWrite d m a v) + (p (storeRead d m a)).toNat = storeCount p m + (p v).toNat := by
  induction m with
  | nil =>
    rw [storeRead, hp, storeWrite]
    split
    · next hv => rw [hv, hp]
    · rw [storeCount_cons]
      exact Nat.add_comm _ _
  | cons e m ih =>
    obtain ⟨k, x⟩ := e
    obtain ⟨hlt, hpair⟩ := List.pairwise_cons.1 h.1
    have htail := ih ⟨hpair, fun y hy => h.2 y (List.mem_cons_of_mem _ hy)⟩
    rw [storeRead, storeWrite]
    by_cases hak : a < k
    · have hrest : storeRead d m a = d := storeRead_of_absent d fun y hy => (lt_trans hak (hlt y hy)).ne'
      rw [if_pos hak, if_neg hak.ne', hrest, hp]
      split
      · next hv => rw [hv, hp]
      · rw [storeCount_cons, Nat.add_comm]
        simp only [Bool.toNat_false]
        omega
    · rw [if_neg hak]
      by_cases hka : k = a
      · rw [if_pos hka, if_pos hka]
        split
        · next hv => rw [hv, hp, storeCount_cons, Bool.toNat_false, Nat.add_comm]; rfl
        · rw [storeCount_cons, storeCount_cons]
          simp only
          omega
      · rw [if_neg hka, if_neg hka, storeCount_cons, storeCount_cons]
        omega

theorem storeCount_read {d : Byte} {p : Byte → Bool} (hp : p d = false) (m : List Host.Cell) (a : Nat) :
    (p (storeRead d m a)).toNat ≤ storeCount p m := by
  induction m with
  | nil =>
    rw [storeRead, hp]
    exact Nat.zero_le _
  | cons e m ih =>
    rw [storeRead, storeCount_cons]
    split
    · exact Nat.le_add_right _ _
    · exact ih.trans (Nat.le_add_left _ _)

/-! ## Counting TESTED die cells (R98) -/

/-- A die cell is TESTED with a bin that satisfies p. -/
def DieCell.counts (p : Nat → Bool) : DieCell → Bool
  | .untested => false
  | .tested b _ => p b.val

theorem testedDies_eq_storeCount (m : MapFrame) (p : Nat → Bool) :
    m.testedDies p = storeCount (fun e => (dieOfByte e).counts p) m.dies := by
  rw [MapFrame.testedDies, storeCount]
  congr 1
  refine List.filter_congr fun e _ => ?_
  unfold dieOfByte
  by_cases h : e.2.toNat / 64 = 0
  · rw [if_pos h, decide_eq_false (by omega)]
    rfl
  · rw [if_neg h, decide_eq_true (by omega), Bool.true_and]
    rfl

theorem MapFrame.testedDies_congr {m m' : MapFrame} (h : m'.dies = m.dies) (p : Nat → Bool) :
    m'.testedDies p = m.testedDies p := by
  rw [MapFrame.testedDies, MapFrame.testedDies, h]

theorem MapFrame.testedDies_of_empty {m : MapFrame} (h : m.dies = []) (p : Nat → Bool) : m.testedDies p = 0 := by
  rw [MapFrame.testedDies, h]
  rfl

/-- One die of a frame is written as TESTED: the old one leaves the count, the new one joins it. -/
theorem testedDies_written {s : State} {f : FrameId} {x y n : Nat} {b : Fin 64} (m : MapFrame)
    (hwf : storeWf untestedDie (s.frame f).dies) (h1 : 1 ≤ n) (h3 : n ≤ 3)
    (hm : m.dies = storeWrite untestedDie (s.frame f).dies (dieAddr x y) (DieCell.tested b n).byte) (p : Nat → Bool) :
    m.testedDies p + ((s.die f x y).counts p).toNat = (s.frame f).testedDies p + (p b.val).toNat := by
  have hdefault : (dieOfByte untestedDie).counts p = false := rfl
  have hwrite := storeCount_storeWrite (p := fun e => (dieOfByte e).counts p) hdefault hwf (dieAddr x y) (DieCell.tested b n).byte
  rw [dieOfByte_tested b h1 h3] at hwrite
  rw [testedDies_eq_storeCount, testedDies_eq_storeCount, hm, State.die]
  exact hwrite

/-- Where a bin's die stands, the bin's dies are at least one. -/
theorem testedDies_pos {s : State} {f : FrameId} {x y n : Nat} {b : Fin 64} (hd : s.die f x y = .tested b n) :
    1 ≤ (s.frame f).testedDies fun k => k == b.val := by
  have hread := storeCount_read (p := fun e => (dieOfByte e).counts fun k => k == b.val) (d := untestedDie) rfl
    (s.frame f).dies (dieAddr x y)
  rw [testedDies_eq_storeCount]
  refine le_trans (le_of_eq ?_) hread
  show 1 = ((s.die f x y).counts _).toNat
  rw [hd, DieCell.counts, beq_self_eq_true]
  rfl

/-! ## Sums of counts -/

theorem sumOf_set {n : Nat} (v : Vector Word n) (i : Nat) (hi : i < n) (x : Word) :
    sumOf (v.set i x).toList + v[i].toNat = sumOf v.toList + x.toNat := by
  have hlen : i < (v.toList.map BitVec.toNat).length := by simpa using hi
  have hget : (v.toList.map BitVec.toNat)[i] = v[i].toNat := by simp
  have hset := List.sum_set (v.toList.map BitVec.toNat) i x.toNat
  have hsplit := List.sum_take_add_sum_drop (v.toList.map BitVec.toNat) i
  rw [List.drop_eq_getElem_cons hlen, List.sum_cons, hget] at hsplit
  rw [if_pos hlen] at hset
  have hmap : (v.set i x).toList.map BitVec.toNat = (v.toList.map BitVec.toNat).set i x.toNat := by
    rw [Vector.toList_set, List.map_set]
  rw [sumOf, sumOf, hmap, hset]
  omega

theorem le_sumOf {n : Nat} (v : Vector Word n) (i : Nat) (hi : i < n) : v[i].toNat ≤ sumOf v.toList :=
  List.le_sum_of_mem (List.mem_map.2 ⟨v[i], by simp, rfl⟩)

theorem sumOf_replicate_zero (n : Nat) : sumOf (Vector.replicate n (0 : Word)).toList = 0 := by
  simp [sumOf]

end Sys2Proof.Machine

/-! SUPPORT. The count laws of the tallies, kept by every act (R106 to R114). -/

namespace Sys2Proof.Machine

set_option Elab.async false

/-! ## The laws on a standing -/

/-- The frame whose die cells a standing's tallies speak of: none for a TALLY_ONLY record (R103). -/
def Standing.map (p : Standing) : Option FrameId := if p.tallyOnly then none else p.frame

theorem Standing.map_eq_some {p : Standing} {f : FrameId} :
    p.map = some f ↔ p.tallyOnly = false ∧ p.frame = some f := by
  unfold Standing.map
  cases p.tallyOnly <;> simp

/-- A standing's tallies agree with the TESTED die cells of a frame (R114). -/
structure Standing.agrees (p : Standing) (m : MapFrame) : Prop where
  tested : (m.testedDies fun _ => true) = p.tested.toNat
  zones  : sumOf (p.zones.toList.map fun z => z.tested) = p.tested.toNat
  bins   : ∀ b : Fin 64, (m.testedDies fun n => n == b.val) = p.bins[b.val].toNat

/-- The count laws of one record, on its standing (R114). -/
structure Standing.tallies (p : Standing) (s : State) : Prop where
  sum : sumOf p.bins.toList = p.tested.toNat
  cap : p.tested.toNat + p.retests.toNat ≤ 1048575
  map : ∀ f, p.map = some f → p.agrees (s.frame f)

theorem State.tallied_iff {s : State} {r : Record} : s.tallied r = true ↔ r.standing.tallies s := by
  have hmap : r.standing.map = if r.flags.tallyOnly then none else r.frame := rfl
  have hparts : ∀ {b : Bool}, (b = true ↔ ∀ f, r.standing.map = some f → r.standing.agrees (s.frame f)) →
      ((sumOf r.bins.toList == r.counts.t.toNat && decide (r.counts.t.toNat + r.counts.r.toNat ≤ 1048575) && b) = true ↔
        r.standing.tallies s) := fun hb => by
    rw [Bool.and_eq_true, Bool.and_eq_true, beq_iff_eq, decide_eq_true_iff, hb]
    exact ⟨fun ⟨⟨hs, hc⟩, hm⟩ => ⟨hs, hc, hm⟩, fun h => ⟨⟨h.sum, h.cap⟩, h.map⟩⟩
  refine hparts ?_
  rw [hmap]
  cases r.frame with
  | none =>
    rw [ite_self]
    exact iff_of_true (by rfl) nofun
  | some f =>
    by_cases htally : r.flags.tallyOnly = true
    · rw [if_pos htally]
      simp only [htally, Bool.true_or]
      exact iff_of_true trivial nofun
    · rw [if_neg htally]
      simp only [Bool.eq_false_iff.2 htally, Bool.false_or, Bool.and_eq_true, beq_iff_eq, List.all_eq_true,
        List.mem_finRange, true_imp_iff, Option.some.injEq, forall_eq']
      exact ⟨fun ⟨⟨ht, hz⟩, hb⟩ => ⟨ht, hz, hb⟩, fun h => ⟨⟨h.tested, h.zones⟩, h.bins⟩⟩

theorem State.tallyLaw_iff {s : State} : s.tallyLaw ↔ ∀ i p, s.standing i = some p → p.tallies s := by
  constructor
  · intro h i p hp
    obtain ⟨r, hr, rfl⟩ := State.standing_eq_some.1 hp
    exact State.tallied_iff.1 (h i r hr)
  · exact fun h i r hr => State.tallied_iff.2 (h i _ (State.standing_of_record hr))

/-- The standing q has p's tallies, and p's map or none. -/
structure Standing.inherits (q p : Standing) : Prop where
  tested  : q.tested = p.tested
  retests : q.retests = p.retests
  bins    : q.bins = p.bins
  zones   : q.zones = p.zones
  map     : ∀ f, q.map = some f → p.map = some f

theorem Standing.inherits.refl (p : Standing) : p.inherits p := ⟨rfl, rfl, rfl, rfl, fun _ h => h⟩

theorem Standing.inherits.frame {q p : Standing} (h : q.inherits p) {f : FrameId} (hf : q.map = some f) :
    p.frame = some f := (Standing.map_eq_some.1 (h.map f hf)).2

theorem Standing.agrees_of_inherits {q p : Standing} {m m' : MapFrame} (h : q.inherits p) (hp : p.agrees m)
    (hm : m'.dies = m.dies) : q.agrees m' :=
  ⟨by rw [MapFrame.testedDies_congr hm, h.tested]; exact hp.tested, by rw [h.zones, h.tested]; exact hp.zones,
    fun b => by rw [MapFrame.testedDies_congr hm, h.bins]; exact hp.bins b⟩

theorem Standing.tallies_of_inherits {q p : Standing} {s t : State} (h : q.inherits p) (hp : p.tallies s)
    (hd : ∀ f, p.frame = some f → (t.frame f).dies = (s.frame f).dies) : q.tallies t :=
  ⟨by rw [h.bins, h.tested]; exact hp.sum, by rw [h.tested, h.retests]; exact hp.cap,
    fun f hf => Standing.agrees_of_inherits h (hp.map f (h.map f hf)) (hd f (h.frame hf))⟩

/-- From s to t every record has the tallies it had. -/
def State.inherits (s t : State) : Prop := ∀ i q, t.standing i = some q → ∃ p, s.standing i = some p ∧ q.inherits p

theorem State.sameStandings.inherits {s t : State} (h : s.sameStandings t) : s.inherits t :=
  fun i q hq => ⟨q, (h i).symm.trans hq, .refl q⟩

theorem State.inherits.trans {s t u : State} (h : s.inherits t) (k : t.inherits u) : s.inherits u := fun i q hq => by
  obtain ⟨p, hp, hqp⟩ := k i q hq
  obtain ⟨o, ho, hpo⟩ := h i p hp
  exact ⟨o, ho, hqp.tested.trans hpo.tested, hqp.retests.trans hpo.retests, hqp.bins.trans hpo.bins,
    hqp.zones.trans hpo.zones, fun f hf => hpo.map f (hqp.map f hf)⟩

/-- One slot's standing is replaced by one that inherits from it. -/
theorem State.inherits.of_slot {s t : State} {i : SlotId} {p : Standing} {v : Option Standing} (hp : s.standing i = some p)
    (hv : ∀ q, v = some q → q.inherits p) (ht : ∀ j, t.standing j = if j = i then v else s.standing j) :
    s.inherits t := fun j q hq => by
  rw [ht] at hq
  split at hq
  · next h => exact ⟨p, h ▸ hp, hv q hq⟩
  · exact ⟨q, hq, .refl q⟩

/-- One record moves to another state and cell. -/
theorem State.inherits.moved {s t : State} {i : SlotId} {p : Standing} {x : RecordState} {c : CellId}
    (hp : s.standing i = some p)
    (ht : ∀ j, t.standing j = if j = i then some { p with state := x, cell := c } else s.standing j) : s.inherits t := by
  refine .of_slot hp (fun q hq => ?_) ht
  rw [← Option.some.inj hq]
  exact ⟨rfl, rfl, rfl, rfl, fun _ h => h⟩

theorem State.inherits.setSlot {s : State} {i : SlotId} {r q : Record} (hr : s.record i = some r)
    (h : q.standing.inherits r.standing) : s.inherits (s.setSlot i (some q)) :=
  .of_slot (State.standing_of_record hr) (fun _ hq => Option.some.inj hq ▸ h) fun j => s.standing_setSlot i j _

theorem State.inherits.tallyLaw {s t : State} (h : s.inherits t) (hs : s.tallyLaw)
    (hd : ∀ f, (t.frame f).dies = (s.frame f).dies) : t.tallyLaw :=
  State.tallyLaw_iff.2 fun i q hq => by
    obtain ⟨p, hp, hqp⟩ := h i q hq
    exact Standing.tallies_of_inherits hqp (State.tallyLaw_iff.1 hs i p hp) fun f _ => hd f

theorem State.inherits.tallyLaw_of_maps {s t : State} {bs : List Block} (h : s.inherits t) (hs : s.tallyLaw)
    (hc : s.changesOnly t bs) (hb : .maps ∉ bs := by decide) : t.tallyLaw :=
  h.tallyLaw hs fun f => by rw [hc.frame f hb]

theorem State.changesOnly.tallyLaw {s t : State} {bs : List Block} (hc : s.changesOnly t bs) (hs : s.tallyLaw)
    (hd : .dir ∉ bs := by decide) (hb : .maps ∉ bs := by decide) : t.tallyLaw :=
  (hc.standing hd).inherits.tallyLaw_of_maps hs hc hb

theorem State.frameOf_eq_standing (s : State) (i : SlotId) : s.frameOf i = (s.standing i).bind Standing.frame := by
  rw [State.frameOf, State.standing]
  cases s.record i <;> rfl

/-! ## A fresh opening -/

theorem State.inherits_takeFrame (s : State) : s.inherits s.takeFrame.1 := by
  rcases s.takeFrame_cases with ⟨f, rest, -, htake⟩ | ⟨j, f, -, hold, htake⟩ | ⟨-, -, htake⟩
  · rw [htake]
    exact State.sameStandings.inherits fun _ => rfl
  · rw [htake]
    have hframe := State.oldestWithFrame_spec hold
    obtain ⟨r, hr, -⟩ := Option.bind_eq_some_iff.1 hframe
    refine .of_slot (State.standing_of_record hr) (v := some r.loseFrame.standing) (fun q hq => ?_) fun k => ?_
    · rw [← Option.some.inj hq]
      exact ⟨rfl, rfl, rfl, rfl, fun f hf => nomatch (Standing.map_eq_some.1 hf).2⟩
    · rw [State.standing, State.record_reclaimed, hr]
      split <;> rfl
  · rw [htake]
    exact State.sameStandings.inherits fun _ => rfl

theorem State.newRecord_tallies (s t : State) (f : Option FrameId) (c : CellId) (k : Key) (p : Fin 8) (lb : BankId)
    (hd : ∀ g, f = some g → (t.frame g).dies = []) : (s.newRecord f c k p lb).standing.tallies t := by
  refine ⟨sumOf_replicate_zero 64, Nat.zero_le _, fun g hg => ?_⟩
  have hempty := hd g (Standing.map_eq_some.1 hg).2
  refine ⟨MapFrame.testedDies_of_empty hempty _, ?_, fun b => ?_⟩
  · show sumOf ((Vector.replicate 9 ({ tested := 0, passed := 0 } : ZoneTally)).toList.map fun z => z.tested) = 0
    rfl
  · rw [MapFrame.testedDies_of_empty hempty]
    simp [Record.standing, State.newRecord, freshRecord]

theorem State.tallyLaw_opening {s : State} (hs : s.tallyLaw) (hf : s.framesBut none) (i : SlotId) (c : CellId)
    (k : Key) (p : Fin 8) (lb : BankId) : (s.takeFrame.1.openIn i s.takeFrame.2 c k p lb).tallyLaw := by
  refine State.tallyLaw_iff.2 fun j q hq => ?_
  rw [State.standing_openIn] at hq
  split at hq
  · rw [← Option.some.inj hq]
    exact State.newRecord_tallies _ _ _ c k p lb fun g hg => by rw [State.frame_openIn, if_pos hg]
  · obtain ⟨o, ho, hqo⟩ := s.inherits_takeFrame j q hq
    refine Standing.tallies_of_inherits (.refl q) (s := s) (Standing.tallies_of_inherits hqo
      (State.tallyLaw_iff.1 hs j o ho) fun _ _ => rfl) fun g hg => ?_
    have hheld : s.takeFrame.1.frameOf j = some g := by rw [State.frameOf_eq_standing, hq]; exact hg
    have hhand : s.takeFrame.2 ≠ some g := fun h => ((State.framesBut_takeFrame hf).inHand g h).2 j hheld
    rw [State.frame_openIn, if_neg hhand, State.frame, s.frames_takeFrame, State.frame]

/-! ## One result -/

theorem toNat_add_one {a : Word} (h : a.toNat < 1048575) : (a + 1).toNat = a.toNat + 1 := by
  rw [BitVec.toNat_add]
  exact Nat.mod_eq_of_lt (by simp; omega)

theorem toNat_sub_one {a : Word} (h : 1 ≤ a.toNat) : (a - 1).toNat = a.toNat - 1 :=
  BitVec.toNat_sub_of_le h

/-- A count after one has left it and one has joined it. -/
theorem toNat_moved {a : Word} {P Q : Prop} [Decidable P] [Decidable Q] (h : a.toNat < 1048575) (hP : P → 1 ≤ a.toNat) :
    (a - (if P then 1 else 0) + (if Q then 1 else 0)).toNat + (decide P).toNat = a.toNat + (decide Q).toNat := by
  have hdown : (a - (if P then 1 else 0)).toNat + (decide P).toNat = a.toNat := by
    by_cases hp : P
    · have := toNat_sub_one (hP hp)
      have := hP hp
      simp only [hp, if_true, decide_true, Bool.toNat_true]
      omega
    · simp [hp]
  by_cases hq : Q
  · have := toNat_add_one (a := a - (if P then 1 else 0)) (by omega)
    simp only [hq, if_true, decide_true, Bool.toNat_true]
    omega
  · rw [if_neg hq, decide_eq_false hq, add_zero]
    exact hdown

/-- The bins of a first result sum to one more. -/
theorem sumOf_bins_firstResult {v : Vector Word 64} {b : Fin 64} {n : Nat} (h : sumOf v.toList = n) (hn : n < 1048575) :
    sumOf (v.set b.val (v[b.val] + 1)).toList = n + 1 := by
  have hset := sumOf_set v b.val b.isLt (v[b.val] + 1)
  have hle := le_sumOf v b.val b.isLt
  rw [toNat_add_one (by omega)] at hset
  omega

/-- A replacement that takes a bin's die away leaves the sum of the bins. -/
theorem sumOf_moveBin {v : Vector Word 64} {b b' : Fin 64} {n : Nat} (h : sumOf v.toList = n) (hn : n < 1048575)
    (hb : 1 ≤ v[b.val].toNat) : sumOf (moveBin v b b').toList = n := by
  have hdown := sumOf_set v b.val b.isLt (v[b.val] - 1)
  rw [toNat_sub_one hb] at hdown
  exact (sumOf_bins_firstResult (v := v.set b.val (v[b.val] - 1)) (n := n - 1) (by omega) (by omega)).trans
    (by have := le_sumOf v b.val b.isLt; omega)

theorem sumOf_zones_set (v : Vector ZoneTally 9) (z : Fin 9) (x : ZoneTally) :
    sumOf ((v.set z.val x).toList.map fun z => z.tested) + v[z.val].tested.toNat =
      sumOf (v.toList.map fun z => z.tested) + x.tested.toNat := by
  have hset := sumOf_set (v.map fun z => z.tested) z.val z.isLt x.tested
  rw [Vector.toList_set, Vector.toList_map] at hset
  rw [Vector.toList_set, List.map_set]
  simpa using hset

theorem zone_le_sumOf (v : Vector ZoneTally 9) (z : Fin 9) :
    v[z.val].tested.toNat ≤ sumOf (v.toList.map fun z => z.tested) := by
  have hle := le_sumOf (v.map fun z => z.tested) z.val z.isLt
  rw [Vector.toList_map] at hle
  simpa using hle

section

variable {s t : State} {r : Record} {q : SiteResult} (h : r.standing.tallies s)
  (hcap : r.counts.t.toNat + r.counts.r.toNat < 1048575)

include h hcap

theorem Record.firstResult_tallies (hm : ∀ f, r.mapFrame = some f → ∀ p,
      (t.frame f).testedDies p = (s.frame f).testedDies p + (p q.bin.val).toNat) :
    (r.firstResult q).standing.tallies t := by
  have ht : (r.counts.t + 1).toNat = r.counts.t.toNat + 1 := toNat_add_one (by omega)
  refine ⟨(sumOf_bins_firstResult h.sum (by change r.counts.t.toNat < _; omega)).trans ht.symm, ?_, fun f hf => ?_⟩
  · change (r.counts.t + 1).toNat + r.counts.r.toNat ≤ _
    omega
  · obtain ⟨htested, hzones, hbins⟩ := h.map f hf
    have hset := sumOf_zones_set r.zones q.zone { tested := r.zones[q.zone.val].tested + 1,
                                                   passed := r.zones[q.zone.val].passed + onePass q.cls }
    have hle := zone_le_sumOf r.zones q.zone
    change _ = r.counts.t.toNat at hzones htested
    change sumOf (r.zones.toList.map fun z => z.tested) = _ at hzones
    simp only at hset
    rw [toNat_add_one (by omega)] at hset
    refine ⟨?_, ?_, fun b => ?_⟩
    · rw [hm f hf, htested]
      exact ht.symm
    · change sumOf ((r.zones.set q.zone.val _).toList.map fun z => z.tested) = (r.counts.t + 1).toNat
      omega
    · have hb := le_sumOf r.bins b.val b.isLt
      have hsum := h.sum
      change sumOf r.bins.toList = r.counts.t.toNat at hsum
      change _ = (r.bins.set q.bin.val (r.bins[q.bin.val] + 1))[b.val].toNat
      rw [hm f hf, hbins, Vector.getElem_set]
      change r.bins[b.val].toNat + _ = _
      by_cases he : q.bin.val = b.val
      · rw [if_pos he]
        simp only [he, beq_self_eq_true, Bool.toNat_true]
        exact (toNat_add_one (by omega)).symm
      · rw [if_neg he, beq_eq_false_iff_ne.2 he]
        rfl

theorem Record.countKeep_tallies (hm : ∀ f, r.mapFrame = some f → ∀ p,
      (t.frame f).testedDies p = (s.frame f).testedDies p) :
    (r.countKeep q).standing.tallies t := by
  have hr : (r.counts.r + 1).toNat = r.counts.r.toNat + 1 := toNat_add_one (by omega)
  refine ⟨h.sum, ?_, fun f hf => ?_⟩
  · change r.counts.t.toNat + (r.counts.r + 1).toNat ≤ _
    omega
  · obtain ⟨htested, hzones, hbins⟩ := h.map f hf
    exact ⟨(hm f hf _).trans htested, hzones, fun b => (hm f hf _).trans (hbins b)⟩

theorem Record.countReplace_tallies {b0 : Fin 64} {c0 : BinClass} (hb : 1 ≤ r.bins[b0.val].toNat)
    (hm : ∀ f, r.mapFrame = some f → ∀ p,
      (t.frame f).testedDies p + (p b0.val).toNat = (s.frame f).testedDies p + (p q.bin.val).toNat) :
    (r.countReplace q b0 c0).standing.tallies t := by
  have hr : (r.counts.r + 1).toNat = r.counts.r.toNat + 1 := toNat_add_one (by omega)
  have hsum : sumOf r.bins.toList = r.counts.t.toNat := h.sum
  refine ⟨sumOf_moveBin (n := r.counts.t.toNat) hsum (by omega) hb, ?_, fun f hf => ?_⟩
  · change r.counts.t.toNat + (r.counts.r + 1).toNat ≤ _
    omega
  · obtain ⟨htested, hzones, hbins⟩ := h.map f hf
    refine ⟨Nat.add_right_cancel ((hm f hf _).trans (congrArg (· + 1) htested)), ?_, fun b => ?_⟩
    · have hset := sumOf_zones_set r.zones q.zone { tested := r.zones[q.zone.val].tested,
                                                     passed := r.zones[q.zone.val].passed - c0.passes + q.cls.passes }
      exact (Nat.add_right_cancel hset).trans hzones
    · change _ = (moveBin r.bins b0 q.bin)[b.val].toNat
      have hmove := hm f hf fun n => n == b.val
      rw [hbins b] at hmove
      change _ = r.bins[b.val].toNat + _ at hmove
      have hle := le_sumOf r.bins b.val b.isLt
      have hmoved := toNat_moved (a := r.bins[b.val]) (P := b = b0) (Q := b = q.bin) (by omega) fun h => h ▸ hb
      rw [moveBin_get]
      have hbeq : ∀ c : Fin 64, (c.val == b.val) = decide (b = c) := fun c => by
        rw [Bool.eq_iff_iff, beq_iff_eq, decide_eq_true_iff, Fin.ext_iff, eq_comm]
      rw [hbeq, hbeq] at hmove
      omega

end

/-- A result is resolved against a record: its standing and the die cells of its frame move, and nothing that another
record's tallies speak of. -/
theorem State.tallyLaw_of_slot {s t : State} {i : SlotId} {r : Record} {p : Standing} (hs : s.tallyLaw)
    (hf : s.framesBut none) (hr : s.record i = some r) (hp : p.tallies t)
    (ht : ∀ j, t.standing j = if j = i then some p else s.standing j)
    (hd : ∀ g, r.mapFrame ≠ some g → (t.frame g).dies = (s.frame g).dies) : t.tallyLaw := by
  refine State.tallyLaw_iff.2 fun j q hq => ?_
  rw [ht] at hq
  split at hq
  · rw [← Option.some.inj hq]
    exact hp
  · next hj =>
    refine Standing.tallies_of_inherits (.refl q) (State.tallyLaw_iff.1 hs j q hq) fun g hg => hd g fun hmap => hj ?_
    have hheld : s.frameOf j = some g := by rw [State.frameOf_eq_standing, hq]; exact hg
    exact hf.alone j i g hheld ((State.frameOf_of_record hr).trans
      (Standing.map_eq_some (p := r.standing).1 hmap).2)

section

variable {s : State} {i : SlotId} {r r' : Record} {f : FrameId} {q : SiteResult} {b : Fin 64} {n : Nat}

theorem State.dieResolved_standing (j : SlotId) :
    (s.dieResolved i f q r' b n).standing j = if j = i then some r'.standing else s.standing j := by
  rw [State.standing, State.record_dieResolved]
  split <;> rfl

theorem State.dies_dieResolved_other {g : FrameId} (h : g ≠ f) :
    ((s.dieResolved i f q r' b n).frame g).dies = (s.frame g).dies := by
  rw [State.frame_dieResolved, if_neg h]

theorem State.dies_countChange (s : State) (i : SlotId) (f g : FrameId) (y : Nat) :
    ((s.countChange i f y).frame g).dies = (s.frame g).dies := by
  rw [State.frame_countChange]
  split
  · next h => rw [h]
  · rfl

/-- A written die against the frame's count before it. -/
theorem State.testedDies_dieResolved (hwf : storeWf untestedDie (s.frame f).dies) (h1 : 1 ≤ n) (h3 : n ≤ 3)
    (p : Nat → Bool) :
    ((s.dieResolved i f q r' b n).frame f).testedDies p + ((s.die f q.x q.y).counts p).toNat =
      (s.frame f).testedDies p + (p b.val).toNat :=
  testedDies_written _ hwf h1 h3 (by rw [State.frame_dieResolved, if_pos rfl]) p

end

/-- A retest that keeps the old result. -/
theorem State.tallyLaw_kept {s : State} {i : SlotId} {r : Record} {q : SiteResult} {f : FrameId} {b : Fin 64} {n : Nat}
    (hs : s.tallyLaw) (hf : s.framesBut none) (hwf : ∀ f, storeWf untestedDie (s.frame f).dies)
    (hr : s.record i = some r) (hcap : r.counts.t.toNat + r.counts.r.toNat < 1048575) (hm : r.mapFrame = some f)
    (hd : s.die f q.x q.y = .tested b n) :
    (s.dieResolved i f q (r.countKeep q) b (min (n + 1) 3)).tallyLaw := by
  have hp : r.standing.tallies s := State.tallyLaw_iff.1 hs i _ (State.standing_of_record hr)
  refine State.tallyLaw_of_slot hs hf hr (p := (r.countKeep q).standing)
    (Record.countKeep_tallies hp hcap fun g hg p => ?_) (fun j => State.dieResolved_standing j) fun g hg =>
      State.dies_dieResolved_other fun he => hg (he ▸ hm)
  obtain rfl := Option.some.inj (hg.symm.trans hm)
  have hwrite := State.testedDies_dieResolved (i := i) (r' := r.countKeep q) (b := b) (q := q) (n := min (n + 1) 3)
    (hwf g) (by omega) (by omega) p
  rw [hd] at hwrite
  exact Nat.add_right_cancel hwrite

theorem State.tallyLaw_resolveResult {s : State} {i : SlotId} {r : Record} (q : SiteResult) (hs : s.tallyLaw)
    (hf : s.framesBut none) (hwf : ∀ f, storeWf untestedDie (s.frame f).dies) (hr : s.record i = some r)
    (hcap : r.counts.t.toNat + r.counts.r.toNat < 1048575) : (s.resolveResult i r q).1.tallyLaw := by
  have hp : r.standing.tallies s := State.tallyLaw_iff.1 hs i _ (State.standing_of_record hr)
  have h := s.resolvesTo i r q
  generalize (s.resolveResult i r q).1 = t at h ⊢
  have hmap : ∀ {f g : FrameId}, r.mapFrame = some f → r.mapFrame ≠ some g → g ≠ f := fun hf hg he => hg (he ▸ hf)
  have hthe : ∀ {f g : FrameId}, r.mapFrame = some f → r.mapFrame = some g → g = f := fun hf hg =>
    Option.some.inj (hg.symm.trans hf)
  have hn : ∀ n : Nat, 1 ≤ min (n + 1) 3 ∧ min (n + 1) 3 ≤ 3 := fun n => by omega
  cases h with
  | void _ => exact (State.setSlot_standings (q := r.countVoid) hr rfl).inherits.tallyLaw hs fun _ => rfl
  | counted _ hm =>
    refine State.tallyLaw_of_slot hs hf hr (p := (r.firstResult q).standing)
      (Record.firstResult_tallies hp hcap fun f hf => nomatch hm.symm.trans hf) (fun j => ?_) fun _ _ => rfl
    rw [State.standing_setSlot, (s.clearTagsOn_changes i).standing (by decide) j]
    rfl
  | new f hm hd =>
    refine State.tallyLaw_of_slot hs hf hr (p := (r.firstResult q).standing)
      (Record.firstResult_tallies hp hcap fun g hg p => ?_) (fun j => ?_) fun g hg => ?_
    · obtain rfl := hthe hm hg
      have hwrite := State.testedDies_dieResolved (i := i) (r' := r.firstResult q) (b := q.bin) (q := q) (hwf g)
        (le_refl 1) (by decide) p
      rw [hd] at hwrite
      rw [MapFrame.testedDies_congr (State.dies_countChange _ i g g q.y)]
      exact hwrite
    · rw [(State.countChange_changes _ i f q.y).standing (by decide) j, State.dieResolved_standing]
    · rw [State.dies_countChange, State.dies_dieResolved_other (hmap hm hg)]
  | replaced f b n hm hd =>
    have hbin := testedDies_pos hd
    rw [(hp.map f hm).bins b] at hbin
    refine State.tallyLaw_of_slot hs hf hr (p := (r.countReplace q b (s.bank r.bank).bins[b.val].cls).standing)
      (Record.countReplace_tallies hp hcap hbin fun g hg p => ?_) (fun j => ?_) fun g hg => ?_
    · obtain rfl := hthe hm hg
      have hwrite := State.testedDies_dieResolved (i := i)
        (r' := r.countReplace q b (s.bank r.bank).bins[b.val].cls) (b := q.bin) (q := q) (hwf g) (hn n).1 (hn n).2 p
      rw [hd] at hwrite
      rw [MapFrame.testedDies_congr (State.dies_countChange _ i g g q.y)]
      exact hwrite
    · rw [(State.countChange_changes _ i f q.y).standing (by decide) j, State.dieResolved_standing]
    · rw [State.dies_countChange, State.dies_dieResolved_other (hmap hm hg)]
  | kept f b n hm hd =>
    exact State.tallyLaw_kept hs hf hwf hr hcap hm hd
  | noticed f b n hm hd =>
    exact (State.raise_changes _ _).tallyLaw (State.tallyLaw_kept hs hf hwf hr hcap hm hd)

theorem Act.tallyLaw {L : Prop} {s t : State} (h : Act L s t) (hwf : s.storesCanonical) (hf : s.framesBut none)
    (hs : s.tallyLaw) : t.tallyLaw := by
  have hslot : ∀ {i : SlotId} {r q : Record}, s.record i = some r → q.standing.inherits r.standing →
      (s.setSlot i (some q)).tallyLaw := fun hr h => (State.inherits.setSlot hr h).tallyLaw hs fun _ => rfl
  cases h with
  | aside h => exact h.tallyLaw hs
  | cells h _ => exact h.tallyLaw hs
  | raise a => exact (s.raise_changes a).tallyLaw hs
  | alerts h _ => exact h.tallyLaw hs
  | load lb v _ => exact (s.setBank_changes lb v).tallyLaw hs
  | activate lb _ => exact (s.activate_changes lb).tallyLaw hs
  | note i r q hr hq _ => exact hslot hr (hq ▸ .refl _)
  | resolve i r q hr hcap => exact State.tallyLaw_resolveResult q hs hf hwf.2.2 hr hcap
  | sealing i w =>
    by_cases hidle : ∀ r, s.record i = some r → r.isActive = false
    · rw [State.sealSlot_of_idle hidle]
      exact hs
    · push Not at hidle
      obtain ⟨r, hr, ha⟩ := hidle
      have hstand := State.standing_sealSlot hr (Bool.eq_true_of_not_eq_false ha) w
      exact (State.inherits.moved (State.standing_of_record hr) hstand).tallyLaw_of_maps hs (s.sealSlot_changes i w)
  | free i =>
    cases hr : s.record i with
    | none =>
      rw [State.freeRecord_of_none hr]
      exact hs
    | some r =>
      exact (State.inherits.of_slot (State.standing_of_record hr) (v := none) nofun
        (State.standing_freeRecord hr)).tallyLaw hs fun f => by rw [State.frame, State.maps_freeRecord hr, State.frame]
  | close i r w stamp hr _ _ =>
    exact (State.setProgress_changes _ i none).tallyLaw (hslot hr ⟨rfl, rfl, rfl, rfl, fun _ h => h⟩)
  | reopen i r hr _ _ => exact hslot hr ⟨rfl, rfl, rfl, rfl, fun _ h => h⟩
  | swap i j r q w stamp hr hc hq ho _ =>
    have hij : j ≠ i := fun h => by
      rw [h, hr] at hq
      rw [← Option.some.inj hq, hc] at ho
      exact nomatch ho
    have hfirst : (s.setSlot i (some r.reopened)).tallyLaw := hslot hr ⟨rfl, rfl, rfl, rfl, fun _ h => h⟩
    have hsecond := State.inherits.setSlot (q := q.enterClosing w stamp)
      ((s.record_setSlot_other (some r.reopened) hij).trans hq) ⟨rfl, rfl, rfl, rfl, fun _ h => h⟩
    exact (State.setProgress_changes _ j none).tallyLaw (hsecond.tallyLaw hfirst fun _ => rfl)
  | resume i r c hr _ _ _ =>
    exact (State.inherits.moved (State.standing_of_record hr) (State.standing_resumeSlot hr c)).tallyLaw_of_maps hs
      (s.resumeSlot_changes i c)
  | opening i c k p lb _ _ _ => exact State.tallyLaw_opening hs hf i c k p lb
  | startProgress i _ => exact (s.startProgress_changes i).tallyLaw hs
  | progressExpire i _ => exact (s.progressExpire_changes i).tallyLaw hs
  | timers v _ => exact (s.withXport_changes _).tallyLaw hs
  | dump d _ => exact (s.withXport_changes _).tallyLaw hs
  | endDump _ => exact s.endDump_changes.tallyLaw hs
  | chainMap i r _ _ => exact (s.chainMap_changes i).tallyLaw hs
  | requestMap i r _ _ => exact (s.requestMap_changes i).tallyLaw hs
  | takeSum e rest _ =>
    exact (((s.withXport_changes _).standing.trans (State.fillPlace_standings _)).inherits).tallyLaw_of_maps hs
      (s.takeSum_changes rest)
  | queueFinal i r _ _ _ => exact (s.queueFinal_standings i).inherits.tallyLaw_of_maps hs (s.queueFinal_changes i)
  | exportStep i =>
    unfold State.exportStep
    split
    · exact hs
    · next r hr =>
      split
      · exact (State.inherits.setSlot (q := { r with state := .exported }) hr ⟨rfl, rfl, rfl, rfl,
          fun _ h => h⟩).tallyLaw hs fun _ => rfl
      · exact hs

/-- The stores, the frames and the tallies keep their laws together (R97 to R114). -/
def State.storeLaw (s : State) : Prop := s.storesCanonical ∧ s.frameLaw ∧ s.tallyLaw

theorem Move.storeLaw {L : Prop} {s t : State} (h : Move L s t) (hs : s.storeLaw) : t.storeLaw := by
  obtain ⟨hwf, hf, ht⟩ := hs
  refine ⟨h.storesCanonical hwf, h.frameLaw hf, ?_⟩
  cases h with
  | act h => exact h.tallyLaw hwf (State.frameLaw_iff_but.1 hf) ht
  | port h _ => exact h.tallyLaw ht
  | hall h _ _ _ => exact h.tallyLaw ht
  | reset straps => exact reset_tallyLaw

end Sys2Proof.Machine

/-! SUPPORT. The law of the SUM queue and the owed list, kept by every operation on them (R161 to R164). -/

namespace Sys2Proof.Machine

set_option Elab.async false

/-! ## SUMMARY_OWED -/

theorem State.owesSummary_iff {s : State} {i : SlotId} :
    s.owesSummary i = true ↔ ∃ r, s.record i = some r ∧ r.flags.summaryOwed = true := by
  unfold State.owesSummary
  cases s.record i <;> simp

theorem State.owesSummary_congr {s t : State} {i : SlotId} (h : t.record i = s.record i) :
    t.owesSummary i = s.owesSummary i := by
  rw [State.owesSummary, State.owesSummary, h]

theorem State.owesSummary_of_record {s : State} {i : SlotId} {r : Record} (h : s.record i = some r) :
    s.owesSummary i = r.flags.summaryOwed := by
  rw [State.owesSummary, h]

theorem State.owesSummary_of_cleared {s t : State} {i : SlotId} (h : t.record i = (s.record i).map (·.withOwed false)) :
    t.owesSummary i = false := by
  rw [State.owesSummary, h]
  cases s.record i <;> rfl

/-! ## The law -/

/-- The law of the SUM queue and the owed list, where P says which entries a slot may have. -/
structure State.sumsOk (s : State) (P : SlotId → SumKind → Prop) : Prop where
  nodup     : s.xport.sumQ.Nodup
  room      : s.xport.sumQ.length ≤ 8
  kinds     : ∀ e ∈ s.xport.sumQ, P e.1 e.2
  owedNodup : s.xport.owed.Nodup
  flags     : ∀ i : SlotId, i ∈ s.xport.owed ↔ s.owesSummary i = true
  owedKinds : ∀ i ∈ s.xport.owed, P i .final
  owedOut   : ∀ i ∈ s.xport.owed, (i, SumKind.final) ∉ s.xport.sumQ
  full      : s.xport.owed ≠ [] → s.xport.sumQ.length = 8 ∧ ∀ e ∈ s.xport.sumQ, e.2 = .final

/-- A slot's record is in a state that an entry of this kind is for. -/
def State.phaseOk (s : State) (i : SlotId) (k : SumKind) : Prop :=
  s.isIn i (if k = .final then [.closed, .exported] else [.opened, .closing]) = true

theorem State.summaryLists_iff {s : State} : s.summaryLists ↔ s.sumsOk s.phaseOk := by
  constructor
  · rintro ⟨hnodup, hroom, hkinds, hown, hflags, howed, hfull⟩
    exact ⟨hnodup, hroom, hkinds, hown, hflags, fun i hi => (howed i hi).1, fun i hi => (howed i hi).2, hfull⟩
  · rintro ⟨hnodup, hroom, hkinds, hown, hflags, howed, hout, hfull⟩
    exact ⟨hnodup, hroom, hkinds, hown, hflags, fun i hi => ⟨howed i hi, hout i hi⟩, hfull⟩

section

variable {s t : State} {P Q : SlotId → SumKind → Prop} {i : SlotId}

/-- The lists and flags stay, and what is on them is still allowed there. -/
theorem State.sumsOk.congr (h : s.sumsOk P) (hq : t.xport.sumQ = s.xport.sumQ) (ho : t.xport.owed = s.xport.owed)
    (hf : ∀ i, t.owesSummary i = s.owesSummary i) (hk : ∀ e ∈ s.xport.sumQ, P e.1 e.2 → Q e.1 e.2)
    (hok : ∀ i ∈ s.xport.owed, P i .final → Q i .final) : t.sumsOk Q := by
  constructor
  · rw [hq]; exact h.nodup
  · rw [hq]; exact h.room
  · rw [hq]; exact fun e he => hk e he (h.kinds e he)
  · rw [ho]; exact h.owedNodup
  · intro j; rw [ho, hf]; exact h.flags j
  · rw [ho]; exact fun j hj => hok j hj (h.owedKinds j hj)
  · rw [ho, hq]; exact h.owedOut
  · rw [ho, hq]; exact h.full

theorem State.sumsOk.dropOwed (h : s.sumsOk P) (i : SlotId) : (s.dropOwed i).sumsOk P := by
  have hx := s.xport_dropOwed i
  have hsub : ∀ j, j ∈ s.xport.owed.erase i ↔ j ≠ i ∧ j ∈ s.xport.owed := fun j => h.owedNodup.mem_erase_iff
  constructor
  · rw [hx]; exact h.nodup
  · rw [hx]; exact h.room
  · rw [hx]; exact h.kinds
  · rw [hx]; exact h.owedNodup.erase i
  · intro j
    rw [hx, hsub, h.flags]
    by_cases hj : j = i
    · subst hj
      have hout : (s.dropOwed j).owesSummary j = false := by
        by_cases hm : j ∈ s.xport.owed
        · exact State.owesSummary_of_cleared ((s.record_dropOwed j j).trans (if_pos ⟨rfl, hm⟩))
        · rw [State.owesSummary_congr ((s.record_dropOwed j j).trans (if_neg fun hc => hm hc.2))]
          exact Bool.eq_false_iff.2 fun hf => hm ((h.flags j).2 hf)
      simp [hout]
    · rw [State.owesSummary_congr ((s.record_dropOwed i j).trans (if_neg fun hc => hj hc.1))]
      simp [hj]
  · rw [hx]; exact fun j hj => h.owedKinds j ((hsub j).1 hj).2
  · rw [hx]; exact fun j hj => h.owedOut j ((hsub j).1 hj).2
  · rw [hx]
    intro hne
    exact h.full fun hnil => hne (by simp [hnil])

/-- An entry e leaves the SUM queue, and the place is filled. -/
theorem State.sumsOk.vacate (h : s.sumsOk P) {e : SlotId × SumKind} (he : e ∈ s.xport.sumQ) :
    (s.withXport { s.xport with sumQ := s.xport.sumQ.erase e }).fillPlace.sumsOk P := by
  have hx := State.xport_fillPlace (s.withXport { s.xport with sumQ := s.xport.sumQ.erase e })
  have hkeep : ∀ j, s.xport.owed.head? ≠ some j →
      (s.withXport { s.xport with sumQ := s.xport.sumQ.erase e }).fillPlace.record j = s.record j := fun j hj =>
    (State.record_fillPlace _ j).trans (if_neg hj)
  have hclear : ∀ j, s.xport.owed.head? = some j →
      (s.withXport { s.xport with sumQ := s.xport.sumQ.erase e }).fillPlace.record j =
        (s.record j).map (·.withOwed false) := fun j hj => (State.record_fillPlace _ j).trans (if_pos hj)
  have hlen := List.length_erase_of_mem he
  have hpos := List.length_pos_of_mem he
  have hroom := h.room
  simp only [State.withXport_xport] at hx
  generalize (s.withXport { s.xport with sumQ := s.xport.sumQ.erase e }).fillPlace = t at hx hkeep hclear ⊢
  cases howed : s.xport.owed with
  | nil =>
    rw [howed] at hx hkeep hclear
    simp only [List.take_nil, List.map_nil, List.append_nil, List.tail_nil] at hx
    have hflag : ∀ j, ¬ s.owesSummary j = true := fun j hj => by
      have hm := (h.flags j).2 hj
      rw [howed] at hm
      exact List.not_mem_nil hm
    constructor
    · rw [hx]; exact h.nodup.erase e
    · rw [hx]; simp only; omega
    · rw [hx]; exact fun x hx => h.kinds x (List.mem_of_mem_erase hx)
    · rw [hx]; exact List.nodup_nil
    · intro j
      rw [hx, State.owesSummary_congr (hkeep j nofun)]
      exact iff_of_false List.not_mem_nil (hflag j)
    · rw [hx]; exact nofun
    · rw [hx]; exact nofun
    · rw [hx]; exact fun hne => absurd rfl hne
  | cons k rest =>
    rw [howed] at hx hkeep hclear
    simp only [List.take_succ_cons, List.take_zero, List.map_cons, List.map_nil, List.tail_cons] at hx
    obtain ⟨hfull, hfinal⟩ := h.full (by rw [howed]; exact List.cons_ne_nil k rest)
    have hmem : ∀ j, j ∈ s.xport.owed ↔ j = k ∨ j ∈ rest := fun j => by rw [howed, List.mem_cons]
    have hnodup := h.owedNodup
    rw [howed, List.nodup_cons] at hnodup
    have hout : ∀ j, j ∈ s.xport.owed → (j, SumKind.final) ∉ s.xport.sumQ.erase e := fun j hj hin =>
      h.owedOut j hj (List.mem_of_mem_erase hin)
    constructor
    · rw [hx]
      refine List.nodup_append.2 ⟨h.nodup.erase e, List.nodup_singleton _, fun a ha b hb hab => ?_⟩
      rw [List.mem_singleton.1 hb] at hab
      exact hout k ((hmem k).2 (.inl rfl)) (hab ▸ ha)
    · rw [hx]; simp only [List.length_append, List.length_singleton]; omega
    · rw [hx]
      intro x hxin
      rcases List.mem_append.1 hxin with hin | hin
      · exact h.kinds x (List.mem_of_mem_erase hin)
      · rw [List.mem_singleton.1 hin]
        exact h.owedKinds k ((hmem k).2 (.inl rfl))
    · rw [hx]; exact hnodup.2
    · intro j
      rw [hx]
      show j ∈ rest ↔ _
      by_cases hj : j = k
      · subst hj
        rw [State.owesSummary_of_cleared (hclear j rfl)]
        exact iff_of_false hnodup.1 Bool.false_ne_true
      · rw [State.owesSummary_congr (hkeep j fun hh => hj (Option.some.inj hh).symm), ← h.flags, hmem]
        exact ⟨.inr, fun hc => hc.resolve_left hj⟩
    · rw [hx]; exact fun j hj => h.owedKinds j ((hmem j).2 (.inr hj))
    · rw [hx]
      intro j hj hin
      rcases List.mem_append.1 hin with hin | hin
      · exact hout j ((hmem j).2 (.inr hj)) hin
      · exact hnodup.1 ((Prod.mk.inj (List.mem_singleton.1 hin)).1 ▸ hj)
    · rw [hx]
      refine fun _ => ⟨by simp only [List.length_append, List.length_singleton]; omega, fun x hxin => ?_⟩
      rcases List.mem_append.1 hxin with hin | hin
      · exact hfinal x (List.mem_of_mem_erase hin)
      · rw [List.mem_singleton.1 hin]

theorem State.sumsOk.removeSum (h : s.sumsOk P) (e : SlotId × SumKind) : (s.removeSum e).sumsOk P := by
  by_cases he : e ∈ s.xport.sumQ
  · rw [State.removeSum_of_mem he]
    exact h.vacate he
  · rwa [State.removeSum_of_not_mem he]

theorem State.sumsOk.mem_removeSum (h : s.sumsOk P) {e x : SlotId × SumKind} (hx : x ∈ (s.removeSum e).xport.sumQ) :
    (x ∈ s.xport.sumQ ∧ x ≠ e) ∨ (x.2 = .final ∧ x.1 ∈ s.xport.owed) := by
  by_cases he : e ∈ s.xport.sumQ
  · rw [State.removeSum_of_mem he, State.xport_fillPlace] at hx
    rcases List.mem_append.1 hx with hin | hin
    · exact .inl ((h.nodup.mem_erase_iff.1 hin).symm)
    · obtain ⟨j, hj, rfl⟩ := List.mem_map.1 hin
      exact .inr ⟨rfl, List.mem_of_mem_take hj⟩
  · rw [State.removeSum_of_not_mem he] at hx
    exact .inl ⟨hx, fun hxe => he (hxe ▸ hx)⟩

theorem State.mem_owed_removeSum {e : SlotId × SumKind} {j : SlotId} (h : j ∈ (s.removeSum e).xport.owed) :
    j ∈ s.xport.owed := by
  rw [State.owed_removeSum] at h
  split at h
  · exact List.mem_of_mem_tail h
  · exact h

theorem State.sumsOk.queueFinal (h : s.sumsOk P) (hi : P i .final) (hout : i ∉ s.xport.owed)
    (hr : s.record i ≠ none) : (s.queueFinal i).sumsOk P := by
  obtain ⟨-, -, heq⟩ | ⟨-, hm, hlen, heq⟩ | ⟨-, hm, hlen, ⟨e, he, hp⟩, heq⟩ | ⟨-, hm, hlen, hfinal, heq⟩ := s.queueFinal_cases i
  · rw [heq]
    exact h
  all_goals rw [heq]
  · have hnil : s.xport.owed = [] := by
      by_contra hne
      have := (h.full hne).1
      omega
    refine ⟨?_, ?_, ?_, h.owedNodup, h.flags, h.owedKinds, ?_, fun hne => absurd hnil hne⟩
    · exact List.nodup_append.2 ⟨h.nodup, List.nodup_singleton _, fun a ha b hb hab =>
        hm (List.mem_singleton.1 hb ▸ hab ▸ ha)⟩
    · simp only [State.withXport_xport, List.length_append, List.length_singleton]
      omega
    · intro x hx
      rcases List.mem_append.1 hx with hin | hin
      · exact h.kinds x hin
      · rw [List.mem_singleton.1 hin]
        exact hi
    · intro j hj
      rw [State.withXport_xport, hnil] at hj
      exact nomatch hj
  · have hnil : s.xport.owed = [] := by
      by_contra hne
      have := (h.full hne).2 e he
      rw [hp] at this
      exact nomatch this
    have hroom := h.room
    have herase := List.length_eraseP_of_mem (p := fun e : SlotId × SumKind => e.2 == .progress) he (by simp [hp])
    have hpos := List.length_pos_of_mem he
    refine ⟨?_, ?_, ?_, h.owedNodup, h.flags, h.owedKinds, ?_, fun hne => absurd hnil hne⟩
    · exact List.nodup_append.2 ⟨h.nodup.sublist List.eraseP_sublist, List.nodup_singleton _, fun a ha b hb hab =>
        hm (List.mem_singleton.1 hb ▸ hab ▸ List.mem_of_mem_eraseP ha)⟩
    · simp only [State.withXport_xport, List.length_append, List.length_singleton]
      omega
    · intro x hx
      rcases List.mem_append.1 hx with hin | hin
      · exact h.kinds x (List.mem_of_mem_eraseP hin)
      · rw [List.mem_singleton.1 hin]
        exact hi
    · intro j hj
      rw [State.withXport_xport, hnil] at hj
      exact nomatch hj
  · have hroom := h.room
    have hflag : ∀ j, ((s.setOwedFlag i true).withXport { s.xport with owed := s.xport.owed ++ [i] }).owesSummary j = true ↔
        j = i ∨ s.owesSummary j = true := fun j => by
      have hrec := s.record_setOwedFlag i j true
      by_cases hj : j = i
      · rw [if_pos hj] at hrec
        refine iff_of_true ?_ (.inl hj)
        obtain ⟨r, hr⟩ := Option.ne_none_iff_exists'.1 hr
        rw [hr] at hrec
        exact (State.owesSummary_of_record (s := State.withXport _ _) hrec)
      · rw [if_neg hj] at hrec
        have hkeep : ((s.setOwedFlag i true).withXport { s.xport with owed := s.xport.owed ++ [i] }).owesSummary j =
            s.owesSummary j := State.owesSummary_congr hrec
        rw [hkeep]
        simp [hj]
    refine ⟨h.nodup, h.room, h.kinds, ?_, fun j => ?_, ?_, ?_, fun _ => ⟨by simpa using le_antisymm hroom hlen, hfinal⟩⟩
    · exact List.nodup_append.2 ⟨h.owedNodup, List.nodup_singleton _, fun a ha b hb hab =>
        hout (List.mem_singleton.1 hb ▸ hab ▸ ha)⟩
    · rw [hflag, ← h.flags]
      show j ∈ s.xport.owed ++ [i] ↔ _
      rw [List.mem_append, List.mem_singleton, or_comm]
    · intro j hj
      rcases List.mem_append.1 hj with hin | hin
      · exact h.owedKinds j hin
      · rw [List.mem_singleton.1 hin]
        exact hi
    · intro j hj
      rcases List.mem_append.1 hj with hin | hin
      · exact h.owedOut j hin
      · rw [List.mem_singleton.1 hin]
        exact hm

theorem State.sumsOk.requestProgress (h : s.sumsOk P) (hi : P i .progress) : (s.requestProgress i).sumsOk P := by
  unfold State.requestProgress
  split
  · exact h
  · next hm =>
    split
    · next hlen =>
      have hlen : s.xport.sumQ.length < 8 := hlen
      have hnil : s.xport.owed = [] := by
        by_contra hne
        have := (h.full hne).1
        omega
      refine ⟨?_, ?_, ?_, h.owedNodup, h.flags, h.owedKinds, ?_, fun hne => absurd hnil hne⟩
      · exact List.nodup_append.2 ⟨h.nodup, List.nodup_singleton _, fun a ha b hb hab =>
          hm (List.mem_singleton.1 hb ▸ hab ▸ ha)⟩
      · simp only [State.withXport_xport, List.length_append, List.length_singleton]
        omega
      · intro x hx
        rcases List.mem_append.1 hx with hin | hin
        · exact h.kinds x hin
        · rw [List.mem_singleton.1 hin]
          exact hi
      · intro j hj
        rw [State.withXport_xport, hnil] at hj
        exact nomatch hj
    · exact h

end

/-! ## The SUM queue's capacity (R161) -/

section

variable {s : State}

theorem State.length_sumQ_vacate {e : SlotId × SumKind} (he : e ∈ s.xport.sumQ) (h : s.xport.sumQ.length ≤ 8) :
    (s.withXport { s.xport with sumQ := s.xport.sumQ.erase e }).fillPlace.xport.sumQ.length ≤ 8 := by
  have hlen := List.length_erase_of_mem he
  have hpos := List.length_pos_of_mem he
  have htake := List.length_take_le 1 s.xport.owed
  rw [State.xport_fillPlace]
  simp only [State.withXport_xport, List.length_append, List.length_map]
  omega

theorem State.length_sumQ_removeSum (e : SlotId × SumKind) (h : s.xport.sumQ.length ≤ 8) :
    (s.removeSum e).xport.sumQ.length ≤ 8 := by
  by_cases he : e ∈ s.xport.sumQ
  · rw [State.removeSum_of_mem he]
    exact State.length_sumQ_vacate he h
  · rwa [State.removeSum_of_not_mem he]

theorem State.length_sumQ_queueFinal (i : SlotId) (h : s.xport.sumQ.length ≤ 8) :
    (s.queueFinal i).xport.sumQ.length ≤ 8 := by
  obtain ⟨-, -, heq⟩ | ⟨-, -, hlen, heq⟩ | ⟨-, -, hlen, ⟨e, he, hp⟩, heq⟩ | ⟨-, -, hlen, -, heq⟩ := s.queueFinal_cases i
  · rwa [heq]
  all_goals rw [heq]; simp only [State.withXport_xport]
  · rw [List.length_append, List.length_singleton]
    omega
  · have herase := List.length_eraseP_of_mem (p := fun e : SlotId × SumKind => e.2 == .progress) he (by simp [hp])
    have hpos := List.length_pos_of_mem he
    rw [List.length_append, List.length_singleton]
    omega
  · exact h

theorem State.length_sumQ_requestProgress (i : SlotId) (h : s.xport.sumQ.length ≤ 8) :
    (s.requestProgress i).xport.sumQ.length ≤ 8 := by
  rw [State.sumQ_requestProgress]
  split
  · next hc =>
    rw [List.length_append, List.length_singleton]
    omega
  · exact h

end

end Sys2Proof.Machine

/-! SUPPORT. The orders of the directory, and the progress timers that run only while their record is OPEN, kept by every
act (R74, R162). -/

namespace Sys2Proof.Machine

set_option Elab.async false

/-! ## A list that holds the slots it is for -/

/-- A list holds exactly the slots that satisfy P, each once. -/
structure ListsExactly (l : List SlotId) (P : SlotId → Prop) : Prop where
  nodup : l.Nodup
  mem   : ∀ i, i ∈ l ↔ P i

section

variable {l : List SlotId} {P Q : SlotId → Prop} {i : SlotId}

theorem ListsExactly.congr (h : ListsExactly l P) (hQ : ∀ j, Q j ↔ P j) : ListsExactly l Q :=
  ⟨h.nodup, fun j => (h.mem j).trans (hQ j).symm⟩

theorem ListsExactly.erase (h : ListsExactly l P) (hQ : ∀ j, Q j ↔ j ≠ i ∧ P j) : ListsExactly (l.erase i) Q :=
  ⟨h.nodup.erase i, fun j => by rw [h.nodup.mem_erase_iff, h.mem, hQ]⟩

theorem ListsExactly.append (h : ListsExactly l P) (hi : ¬ P i) (hQ : ∀ j, Q j ↔ j = i ∨ P j) :
    ListsExactly (l ++ [i]) Q :=
  ⟨List.nodup_append.2 ⟨h.nodup, List.nodup_singleton i, fun a ha b hb hab =>
      hi ((h.mem i).1 (List.mem_singleton.1 hb ▸ hab ▸ ha))⟩,
    fun j => by rw [List.mem_append, List.mem_singleton, h.mem, hQ, or_comm]⟩

theorem ListsExactly.renew (h : ListsExactly l P) (hQ : ∀ j, Q j ↔ j = i ∨ P j) : ListsExactly (l.erase i ++ [i]) Q :=
  (h.erase (i := i) fun _ => Iff.rfl).append (fun hi => hi.1 rfl) fun j => (hQ j).trans ⟨fun hj => by
    by_cases hji : j = i
    · exact .inl hji
    · exact .inr ⟨hji, hj.resolve_left hji⟩, Or.imp_right And.right⟩

end

/-! ## The law by the records' phases -/

/-- The state of the record in a slot; none when the slot is FREE. -/
def State.phase (s : State) (i : SlotId) : Option RecordState := (s.record i).map Record.state

/-- The record in a slot has sealed: it is CLOSED or EXPORTED. -/
def State.sealedIn (s : State) (i : SlotId) : Prop := s.phase i = some .closed ∨ s.phase i = some .exported

section

variable {s t : State} {i j : SlotId}

theorem State.phase_of_record {r : Record} (h : s.record i = some r) : s.phase i = some r.state :=
  congrArg (Option.map Record.state) h

theorem State.phase_congr (h : t.record i = s.record i) : t.phase i = s.phase i := congrArg (Option.map Record.state) h

theorem State.phase_eq_standing (s : State) (i : SlotId) : s.phase i = (s.standing i).map Standing.state := by
  rw [State.phase, State.standing, Option.map_map]
  rfl

theorem State.phase_of_standing (h : t.standing i = s.standing i) : t.phase i = s.phase i := by
  rw [State.phase_eq_standing, State.phase_eq_standing, h]

theorem State.isIn_iff_phase {l : List RecordState} : s.isIn i l = true ↔ ∃ x ∈ l, s.phase i = some x := by
  rw [State.isIn_iff]
  constructor
  · rintro ⟨r, hr, hx⟩
    exact ⟨r.state, hx, State.phase_of_record hr⟩
  · rintro ⟨x, hx, hp⟩
    obtain ⟨r, hr, rfl⟩ := Option.map_eq_some_iff.1 hp
    exact ⟨r, hr, hx⟩

theorem State.isIn_exported : s.isIn i [.exported] = true ↔ s.phase i = some .exported := by
  simp [State.isIn_iff_phase]

theorem State.isIn_sealed : s.isIn i [.closed, .exported] = true ↔ s.sealedIn i := by
  simp [State.isIn_iff_phase, State.sealedIn]

theorem State.isIn_opened : s.isIn i [.opened] = true ↔ s.phase i = some .opened := by
  simp [State.isIn_iff_phase]

/-- The directory's lists, by the phases (R74, R162). -/
structure State.ordersOk (s : State) : Prop where
  exports : ListsExactly s.dir.exportOrder fun i => s.phase i = some .exported
  seals   : ListsExactly s.dir.sealOrder s.sealedIn
  timers  : ∀ i, s.progressTimer i ≠ none → s.phase i = some .opened

theorem State.directoryLists_iff : s.directoryLists ↔ s.ordersOk := by
  unfold State.directoryLists
  simp only [State.isIn_exported, State.isIn_sealed, State.isIn_opened]
  exact ⟨fun ⟨he, hem, hs, hsm, ht⟩ => ⟨⟨he, hem⟩, ⟨hs, hsm⟩, ht⟩,
    fun h => ⟨h.exports.nodup, h.exports.mem, h.seals.nodup, h.seals.mem, h.timers⟩⟩

/-- Phases and orders stay, and no timer is started. -/
theorem State.ordersOk.keep (h : s.ordersOk) (hp : ∀ i, t.phase i = s.phase i) (ho : s.ordersKept t)
    (ht : ∀ i, t.progressTimer i ≠ none → s.phase i = some .opened) : t.ordersOk :=
  ⟨by rw [ho.1]; exact h.exports.congr fun j => by rw [hp],
    by rw [ho.2]; exact h.seals.congr fun j => by rw [State.sealedIn, State.sealedIn, hp],
    fun j hj => (hp j).trans (ht j hj)⟩

theorem State.changesOnly.ordersOk {bs : List Block} (hc : s.changesOnly t bs) (h : s.ordersOk)
    (hd : .dir ∉ bs := by decide) (hx : .xport ∉ bs := by decide) : t.ordersOk :=
  h.keep (fun i => State.phase_congr (hc.record i hd)) (hc.orders hd) fun i hi =>
    h.timers i (by rwa [← hc.progressTimer i hx])

/-- The record of one slot comes to a phase from another; the timers of the others stay. -/
theorem State.ordersOk.move {x : Option RecordState} (h : s.ordersOk)
    (hp : ∀ j, t.phase j = if j = i then x else s.phase j)
    (he : ListsExactly t.dir.exportOrder fun j => (if j = i then x else s.phase j) = some .exported)
    (hs : ListsExactly t.dir.sealOrder fun j => (if j = i then x else s.phase j) = some .closed ∨
      (if j = i then x else s.phase j) = some .exported)
    (ht : ∀ j, j ≠ i → t.progressTimer j ≠ none → s.progressTimer j ≠ none)
    (hi : t.progressTimer i ≠ none → x = some .opened) : t.ordersOk := by
  refine ⟨he.congr fun j => by rw [hp], hs.congr fun j => by rw [State.sealedIn, hp], fun j hj => ?_⟩
  rw [hp]
  split
  · next hji => exact hi (hji ▸ hj)
  · next hji => exact h.timers j (ht j hji hj)

/-- Between phases of an OPEN, CLOSING or FREE slot the orders stay. -/
theorem State.ordersOk.moveUnlisted {x : Option RecordState} (h : s.ordersOk)
    (hp : ∀ j, t.phase j = if j = i then x else s.phase j) (ho : s.ordersKept t)
    (hi : s.phase i ≠ some .exported ∧ s.phase i ≠ some .closed) (hx : x ≠ some .exported ∧ x ≠ some .closed)
    (ht : ∀ j, j ≠ i → t.progressTimer j ≠ none → s.progressTimer j ≠ none)
    (hti : t.progressTimer i ≠ none → x = some .opened) : t.ordersOk := by
  refine h.move hp ?_ ?_ ht hti
  · rw [ho.1]
    refine h.exports.congr fun j => ?_
    split
    · next hj => rw [hj]; exact iff_of_false hx.1 hi.1
    · rfl
  · rw [ho.2]
    refine h.seals.congr fun j => ?_
    split
    · next hj => rw [hj]; exact iff_of_false (fun hc => hc.elim hx.2 hx.1) fun hc => hc.elim hi.2 hi.1
    · rfl

/-- A listed slot leaves both orders. -/
theorem State.ordersOk.moveOut {x : Option RecordState} (h : s.ordersOk)
    (hp : ∀ j, t.phase j = if j = i then x else s.phase j)
    (he : t.dir.exportOrder = s.dir.exportOrder.erase i) (hs : t.dir.sealOrder = s.dir.sealOrder.erase i)
    (hx : x ≠ some .exported ∧ x ≠ some .closed)
    (ht : ∀ j, j ≠ i → t.progressTimer j ≠ none → s.progressTimer j ≠ none)
    (hti : t.progressTimer i ≠ none → x = some .opened) : t.ordersOk := by
  refine h.move hp ?_ ?_ ht hti
  · rw [he]
    refine h.exports.erase fun j => ?_
    by_cases hj : j = i
    · simp only [hj, if_true, ne_eq, not_true_eq_false, false_and]
      exact iff_of_false hx.1 not_false
    · simp [hj]
  · rw [hs]
    refine h.seals.erase fun j => ?_
    by_cases hj : j = i
    · simp only [hj, if_true, ne_eq, not_true_eq_false, false_and]
      exact iff_of_false (fun hc => hc.elim hx.2 hx.1) not_false
    · simp [hj, State.sealedIn]

end

/-! ## The acts -/

theorem State.resolveResult_orders (s : State) (i : SlotId) (r : Record) (q : SiteResult) :
    s.ordersKept (s.resolveResult i r q).1 := by
  have hdie : ∀ f r' b n, s.ordersKept (s.dieResolved i f q r' b n) := fun f r' b n =>
    (((s.clearTagsOn_changes i).orders).trans (State.setSlot_orders _ i _)).trans (State.setDie_changes _ _ _ _ _).orders
  have h := s.resolvesTo i r q
  generalize (s.resolveResult i r q).1 = t at h ⊢
  cases h with
  | void _ => exact s.setSlot_orders i _
  | counted _ _ => exact ((s.clearTagsOn_changes i).orders).trans (State.setSlot_orders _ i _)
  | new f _ _ => exact (hdie f _ _ _).trans (State.countChange_changes _ i f q.y).orders
  | replaced f b n _ _ => exact (hdie f _ _ _).trans (State.countChange_changes _ i f q.y).orders
  | kept f b n _ _ => exact hdie f _ _ _
  | noticed f b n _ _ => exact (hdie f _ _ _).trans (State.raise_changes _ _).orders

/-- A result leaves the exporting unit but for a dump's flag. -/
theorem State.xport_resolveResult (s : State) (i : SlotId) (r : Record) (q : SiteResult) :
    ∃ g : Dump → Dump, (s.resolveResult i r q).1.xport = { s.xport with dump := s.xport.dump.map g } := by
  have hsame : ∀ {t : State}, t.xport = s.xport → ∃ g : Dump → Dump, t.xport = { s.xport with dump := s.xport.dump.map g } :=
    fun h => ⟨id, by rw [h, Option.map_id]; rfl⟩
  have h := s.resolvesTo i r q
  generalize (s.resolveResult i r q).1 = t at h ⊢
  cases h with
  | void _ => exact hsame rfl
  | counted _ _ => exact hsame rfl
  | new f _ _ => exact ⟨_, State.xport_countChange i⟩
  | replaced f b n _ _ => exact ⟨_, State.xport_countChange i⟩
  | kept f b n _ _ => exact hsame rfl
  | noticed f b n _ _ => exact hsame (State.raise_changes _ _).xport

theorem State.takeFrame_orders (s : State) : s.ordersKept s.takeFrame.1 := by
  rcases s.takeFrame_cases with ⟨f, rest, -, htake⟩ | ⟨j, f, -, -, htake⟩ | ⟨-, -, htake⟩
  · rw [htake]
    exact .refl s
  · rw [htake]
    exact (s.modRecord_orders j _).trans (s.reclaimed_lists j).orders
  · rw [htake]
    exact .refl s

theorem State.phase_takeFrame (s : State) (i : SlotId) : s.takeFrame.1.phase i = s.phase i := by
  rcases s.takeFrame_cases with ⟨f, rest, -, htake⟩ | ⟨j, f, -, -, htake⟩ | ⟨-, -, htake⟩
  · rw [htake]
    rfl
  · rw [htake, State.phase, State.record_reclaimed]
    split
    · next h => rw [h, Option.map_map]; rfl
    · rfl
  · rw [htake]

/-- Of the exporting unit a frame's reclaim moves the map pending list and the dump alone. -/
theorem State.xport_reclaimed (s : State) (j : SlotId) : (s.reclaimed j).xport = { s.xport with
    mapQ := s.xport.mapQ.filter fun e => e.1 != j
    dump := s.xport.dump.map fun d => if d.slot = j ∧ d.gone = false then { d with aborted := true } else d } := by
  have hx : (s.modRecord j Record.loseFrame).xport = s.xport := (s.modRecord_changes j _).xport
  rw [← hx]
  rfl

theorem State.progress_takeFrame (s : State) : s.takeFrame.1.xport.progress = s.xport.progress := by
  rcases s.takeFrame_cases with ⟨f, rest, -, htake⟩ | ⟨j, f, -, -, htake⟩ | ⟨-, -, htake⟩
  · rw [htake]
    rfl
  · rw [htake, State.xport_reclaimed]
  · rw [htake]

section

variable {s : State} {i : SlotId} {r : Record}

theorem State.ordersOk_closed (hs : s.ordersOk) (hr : s.record i = some r) (ho : r.state = .opened) (w : CloseReason)
    (stamp : Word) : (s.closed i r w stamp).ordersOk := by
  have hopen : s.phase i = some .opened := (State.phase_of_record hr).trans (congrArg some ho)
  have htimer : ∀ j, (s.closed i r w stamp).progressTimer j = if j = i then none else s.progressTimer j :=
    fun j => State.progressTimer_setProgress _ i j none
  refine hs.moveUnlisted (i := i) (x := some .closing) (fun j => ?_) ⟨rfl, rfl⟩ (by rw [hopen]; exact ⟨nofun, nofun⟩)
    ⟨nofun, nofun⟩ (fun j hj hne => ?_) fun hne => ?_
  · show ((s.setSlot i _).record j).map Record.state = _
    rw [State.record_setSlot]
    split <;> rfl
  · rwa [htimer, if_neg hj] at hne
  · rw [htimer, if_pos rfl] at hne
    exact absurd rfl hne

theorem State.ordersOk_reopened (hs : s.ordersOk) (hr : s.record i = some r) (hc : r.state = .closing) :
    (s.setSlot i (some r.reopened)).ordersOk := by
  have hclosing : s.phase i = some .closing := (State.phase_of_record hr).trans (congrArg some hc)
  refine hs.moveUnlisted (i := i) (x := some .opened) (fun j => ?_) ⟨rfl, rfl⟩ (by rw [hclosing]; exact ⟨nofun, nofun⟩)
    ⟨nofun, nofun⟩ (fun _ _ hne => hne) fun _ => rfl
  rw [State.phase, State.record_setSlot]
  split <;> rfl

theorem State.ordersOk_startProgress (hs : s.ordersOk) (ho : ∀ r, s.record i = some r → r.state = .opened) :
    (s.startProgress i).ordersOk := by
  have hc := s.startProgress_changes i
  refine hs.keep (fun j => State.phase_congr (hc.record j)) hc.orders fun j hj => ?_
  cases hr : s.record i with
  | none =>
    rw [State.startProgress, hr] at hj
    exact hs.timers j hj
  | some r =>
    rw [State.progressTimer_startProgress hr] at hj
    split at hj
    · next hji => rw [hji, State.phase_of_record hr, ho r hr]
    · exact hs.timers j hj

end

theorem Act.ordersOk {L : Prop} {s t : State} (h : Act L s t) (hs : s.ordersOk) : t.ordersOk := by
  have hkeep : ∀ {u : State}, s.sameStandings u → s.ordersKept u →
      (∀ i, u.progressTimer i ≠ none → s.progressTimer i ≠ none) → u.ordersOk := fun hst ho ht =>
    hs.keep (fun i => State.phase_of_standing (hst i)) ho fun i hi => hs.timers i (ht i hi)
  have hlists : ∀ {u : State}, s.changesOnly u [.xport] → (∀ i, u.progressTimer i = s.progressTimer i) → u.ordersOk :=
    fun hc ht => hkeep hc.standing hc.orders fun i hi => by rwa [← ht i]
  have hphase : ∀ {i : SlotId} {r : Record} {x : RecordState}, s.record i = some r → r.state = x →
      s.phase i = some x := fun hr hx => (State.phase_of_record hr).trans (congrArg some hx)
  cases h with
  | aside h => exact h.ordersOk hs
  | cells h _ => exact h.ordersOk hs
  | raise a => exact (s.raise_changes a).ordersOk hs
  | alerts h _ => exact h.ordersOk hs
  | load lb v _ => exact (s.setBank_changes lb v).ordersOk hs
  | activate lb _ => exact (s.activate_changes lb).ordersOk hs
  | note i r q hr hq _ => exact hkeep (State.setSlot_standings hr hq) (s.setSlot_orders i _) fun _ hi => hi
  | resolve i r q hr _ =>
    obtain ⟨g, hx⟩ := s.xport_resolveResult i r q
    obtain ⟨r', hr', hrec⟩ := s.record_resolveResult i r q
    refine hs.keep (fun j => ?_) (s.resolveResult_orders i r q) fun j hj => hs.timers j ?_
    · rw [State.phase, hrec]
      split
      · next h => rw [h, Option.map_some, hr', hphase hr rfl]
      · rfl
    · rwa [State.progressTimer, hx, ← State.progressTimer] at hj
  | sealing i w =>
    by_cases hidle : ∀ r, s.record i = some r → r.isActive = false
    · rw [State.sealSlot_of_idle hidle]
      exact hs
    · push Not at hidle
      obtain ⟨r, hr, ha⟩ := hidle
      have hactive := Bool.eq_true_of_not_eq_false ha
      have hout : s.phase i ≠ some .exported := by
        rw [State.phase_of_record hr]
        rcases Record.isActive_iff.1 hactive with h | h <;> rw [h] <;> exact nofun
      refine hs.move (i := i) (x := some .closed) (fun j => ?_) ?_ ?_ (fun j hj hne => ?_) fun hne => ?_
      · rw [State.phase_eq_standing, State.standing_sealSlot hr hactive]
        split
        · rfl
        · rw [State.phase_eq_standing]
      · rw [State.exportOrder_sealSlot hr hactive]
        refine hs.exports.congr fun j => ?_
        split
        · next hj => rw [hj]; exact iff_of_false nofun hout
        · rfl
      · rw [State.sealOrder_sealSlot hr hactive]
        refine hs.seals.renew fun j => ?_
        by_cases hj : j = i <;> simp [hj, State.sealedIn]
      · rwa [State.progressTimer_sealSlot hr hactive, if_neg hj] at hne
      · rw [State.progressTimer_sealSlot hr hactive, if_pos rfl] at hne
        exact absurd rfl hne
  | free i =>
    cases hr : s.record i with
    | none =>
      rw [State.freeRecord_of_none hr]
      exact hs
    | some r =>
      refine hs.moveOut (i := i) (x := none) (fun j => ?_) (State.exportOrder_freeRecord hr)
        (State.sealOrder_freeRecord hr) ⟨nofun, nofun⟩ (fun j hj hne => ?_) fun hne => ?_
      · rw [State.phase_eq_standing, State.standing_freeRecord hr]
        split
        · rfl
        · rw [State.phase_eq_standing]
      · rwa [State.progressTimer_freeRecord hr, if_neg hj] at hne
      · rw [State.progressTimer_freeRecord hr, if_pos rfl] at hne
        exact absurd rfl hne
  | close i r w stamp hr ho _ =>
    exact State.ordersOk_closed hs hr ho w stamp
  | reopen i r hr hc _ => exact State.ordersOk_reopened hs hr hc
  | swap i j r q w stamp hr hc hq ho _ =>
    have hij : j ≠ i := fun h => by
      rw [h, hr] at hq
      rw [← Option.some.inj hq, hc] at ho
      exact nomatch ho
    exact State.ordersOk_closed (State.ordersOk_reopened hs hr hc) ((s.record_setSlot_other _ hij).trans hq) ho w stamp
  | resume i r c hr _ _ _ =>
    refine hs.moveOut (i := i) (x := some .opened) (fun j => ?_) (State.exportOrder_resumeSlot hr c)
      (State.sealOrder_resumeSlot hr c) ⟨nofun, nofun⟩ (fun j hj hne => ?_) fun _ => rfl
    · rw [State.phase_eq_standing, State.standing_resumeSlot hr]
      split
      · rfl
      · rw [State.phase_eq_standing]
    · rwa [State.progressTimer_resumeSlot hr, if_neg hj] at hne
  | opening i c k p lb hfree _ _ =>
    have hnone : s.phase i = none := congrArg (Option.map Record.state) hfree
    refine hs.moveUnlisted (i := i) (x := some .opened) (fun j => ?_)
      (s.takeFrame_orders.trans (State.openIn_orders _ i _ c k p lb)) (by rw [hnone]; exact ⟨nofun, nofun⟩)
      ⟨nofun, nofun⟩ (fun j hj hne => ?_) fun _ => rfl
    · rw [State.phase_eq_standing, State.standing_openIn]
      split
      · rfl
      · rw [← State.phase_eq_standing, State.phase_takeFrame]
    · rwa [State.progressTimer_openIn, if_neg hj, State.progressTimer, s.progress_takeFrame, ← State.progressTimer] at hne
  | startProgress i hopen => exact State.ordersOk_startProgress hs hopen
  | progressExpire i ht =>
    have hreq : (s.requestProgress i).ordersOk :=
      hlists (s.requestProgress_changes i) (s.progressTimer_requestProgress i)
    refine State.ordersOk_startProgress hreq fun r hr => ?_
    rw [(s.requestProgress_changes i).record] at hr
    have hphase := hs.timers i ht
    rw [State.phase_of_record hr] at hphase
    exact Option.some.inj hphase
  | timers v hv => exact hkeep (fun _ => rfl) ⟨rfl, rfl⟩ hv
  | dump d _ => exact hlists (s.withXport_changes _) fun _ => rfl
  | endDump _ =>
    refine hlists s.endDump_changes fun j => ?_
    unfold State.startDump
    split <;> rfl
  | chainMap i r _ _ =>
    refine hlists (s.chainMap_changes i) fun j => ?_
    unfold State.chainMap State.startDump
    split
    · rfl
    · split <;> rfl
  | requestMap i r _ _ =>
    refine hlists (s.requestMap_changes i) fun j => ?_
    unfold State.requestMap State.startDump
    split
    · rfl
    · split <;> rfl
  | takeSum e rest _ =>
    refine hkeep ((s.withXport_changes _).standing.trans (State.fillPlace_standings _))
      ((s.withXport_changes _).orders.trans (State.fillPlace_orders _)) fun j hj => ?_
    rwa [State.progressTimer, (State.fillPlace_sumsOnly _).progress] at hj
  | queueFinal i r _ _ _ =>
    refine hkeep (s.queueFinal_standings i) (s.queueFinal_orders i) fun j hj => ?_
    rwa [State.progressTimer, (s.queueFinal_sumsOnly i).progress] at hj
  | exportStep i =>
    unfold State.exportStep
    split
    · exact hs
    · next r hr =>
      split
      · next hc =>
        have hclosed := hphase hr hc
        refine hs.move (i := i) (x := some .exported) (fun j => ?_) (hs.exports.append (by rw [hclosed]; exact nofun)
          fun j => ?_) (hs.seals.congr fun j => ?_) (fun _ _ hj => hj) fun hne => ?_
        · show ((s.setSlot i _).record j).map Record.state = _
          rw [State.record_setSlot]
          split <;> rfl
        · by_cases hj : j = i <;> simp [hj]
        · by_cases hj : j = i
          · simp only [hj, if_true, State.sealedIn, hclosed]
            simp
          · simp [hj, State.sealedIn]
        · exact absurd (hs.timers i hne) (by rw [hclosed]; exact nofun)
      · exact hs

end Sys2Proof.Machine

/-! SUPPORT. The SUM queue and the owed list, the map pending list and the capacities, kept by every act (R161 to R164,
R168, R169). -/

namespace Sys2Proof.Machine

set_option Elab.async false

/-! ## The sums -/

section

variable {s t : State} {i : SlotId} {P : SlotId → SumKind → Prop}

theorem State.phaseOk_iff {k : SumKind} : s.phaseOk i k ↔
    if k = .final then s.sealedIn i else s.phase i = some .opened ∨ s.phase i = some .closing := by
  unfold State.phaseOk
  cases k with
  | final => exact State.isIn_sealed
  | progress => simp [State.isIn_iff_phase]

theorem State.phaseOk_congr (h : t.phase i = s.phase i) (k : SumKind) : t.phaseOk i k ↔ s.phaseOk i k := by
  rw [State.phaseOk_iff, State.phaseOk_iff, State.sealedIn, State.sealedIn, h]

/-- The lists, the flags and the phases stay. -/
theorem State.sumsOk.keep (h : s.sumsOk s.phaseOk) (hq : t.xport.sumQ = s.xport.sumQ) (ho : t.xport.owed = s.xport.owed)
    (hf : ∀ i, t.owesSummary i = s.owesSummary i) (hp : ∀ i, t.phase i = s.phase i) : t.sumsOk t.phaseOk :=
  h.congr hq ho hf (fun e _ => (State.phaseOk_congr (hp e.1) e.2).2) fun j _ => (State.phaseOk_congr (hp j) .final).2

/-- Only the phases stay: the lists obey the law of the phases they had. -/
theorem State.sumsOk.rephase (h : t.sumsOk s.phaseOk) (hp : ∀ i, t.phase i = s.phase i) : t.sumsOk t.phaseOk :=
  h.congr rfl rfl (fun _ => rfl) (fun e _ => (State.phaseOk_congr (hp e.1) e.2).2) fun j _ =>
    (State.phaseOk_congr (hp j) .final).2

theorem State.changesOnly.sumsOk {bs : List Block} (hc : s.changesOnly t bs) (h : s.sumsOk s.phaseOk)
    (hd : .dir ∉ bs := by decide) (hx : .xport ∉ bs := by decide) : t.sumsOk t.phaseOk :=
  h.keep (by rw [hc.xport hx]) (by rw [hc.xport hx]) (fun i => State.owesSummary_congr (hc.record i hd))
    fun i => State.phase_congr (hc.record i hd)

/-- A record's write that keeps its phase and SUMMARY_OWED. -/
theorem State.sumsOk.write {r q : Record} (h : s.sumsOk s.phaseOk) (hr : s.record i = some r) (hs : q.state = r.state)
    (ho : q.flags.summaryOwed = r.flags.summaryOwed) : (s.setSlot i (some q)).sumsOk (s.setSlot i (some q)).phaseOk := by
  refine h.keep rfl rfl (fun j => ?_) fun j => ?_
  · by_cases hj : j = i
    · rw [hj, State.owesSummary_of_record (s.record_setSlot_same i _), State.owesSummary_of_record hr, ho]
    · exact State.owesSummary_congr (s.record_setSlot_other _ hj)
  · by_cases hj : j = i
    · rw [hj, State.phase_of_record (s.record_setSlot_same i _), State.phase_of_record hr, hs]
    · exact State.phase_congr (s.record_setSlot_other _ hj)

/-- A slot that is on neither list may come to any phase, and one whose FINAL is queued to any sealed one. -/
theorem State.sumsOk.rephaseSlot (h : t.sumsOk s.phaseOk) (hp : ∀ j, j ≠ i → t.phase j = s.phase j)
    (hq : ∀ k, (i, k) ∈ t.xport.sumQ → s.phaseOk i k → t.phaseOk i k)
    (ho : i ∈ t.xport.owed → s.phaseOk i .final → t.phaseOk i .final) : t.sumsOk t.phaseOk := by
  refine h.congr rfl rfl (fun _ => rfl) (fun e he hok => ?_) fun j hj hok => ?_
  · by_cases hj : e.1 = i
    · have hek : (i, e.2) = e := by rw [← hj]
      rw [hj] at hok ⊢
      exact hq e.2 (by rw [hek]; exact he) hok
    · exact (State.phaseOk_congr (hp e.1 hj) e.2).2 hok
  · by_cases hji : j = i
    · rw [hji] at hj hok ⊢
      exact ho hj hok
    · exact (State.phaseOk_congr (hp j hji) .final).2 hok

/-- A slot that is not sealed is owed nothing, and has no FINAL queued. -/
theorem State.sumsOk.unsealed (h : s.sumsOk s.phaseOk) (hi : ¬ s.sealedIn i) :
    i ∉ s.xport.owed ∧ (i, SumKind.final) ∉ s.xport.sumQ :=
  ⟨fun ho => hi (State.phaseOk_iff.1 (h.owedKinds i ho)), fun hq => hi (State.phaseOk_iff.1 (h.kinds _ hq))⟩

theorem State.not_sealedIn {x : RecordState} (h : s.phase i = some x) (hx : x = .opened ∨ x = .closing) :
    ¬ s.sealedIn i := by
  rw [State.sealedIn, h]
  rcases hx with rfl | rfl <;> exact fun hc => hc.elim nofun nofun

end

/-! ### A seal -/

theorem State.sumsOk_sealSlot {s : State} {i : SlotId} {r : Record} (hs : s.sumsOk s.phaseOk) (hr : s.record i = some r)
    (ha : r.isActive = true) (w : Option CloseReason) : (s.sealSlot i w).sumsOk (s.sealSlot i w).phaseOk := by
  have hunsealed : ¬ s.sealedIn i := State.not_sealedIn (State.phase_of_record hr) (Record.isActive_iff.1 ha)
  have hclosed : (s.judged i r w).phase i = some .closed := by
    rw [State.phase_of_record ((s.record_judged i r w i).trans (if_pos rfl))]
    rfl
  have hother : ∀ j, j ≠ i → (s.judged i r w).record j = s.record j := fun j hj =>
    (s.record_judged i r w j).trans (if_neg hj)
  have hx := s.xport_judged i r w
  have hjudged : (s.judged i r w).sumsOk s.phaseOk := by
    refine hs.congr (by rw [hx]) (by rw [hx]) (fun j => ?_) (fun _ _ h => h) fun _ _ h => h
    by_cases hj : j = i
    · rw [hj, State.owesSummary_of_record ((s.record_judged i r w i).trans (if_pos rfl)), State.owesSummary_of_record hr]
      rfl
    · exact State.owesSummary_congr (hother j hj)
  have hremoved := hjudged.removeSum (i, .progress)
  have howed : i ∉ ((s.judged i r w).removeSum (i, .progress)).xport.owed := fun h => (hs.unsealed hunsealed).1 (by
    have hin := State.mem_owed_removeSum h
    rwa [hx] at hin)
  have hphase : ∀ j, ((s.judged i r w).removeSum (i, .progress)).phase j = (s.judged i r w).phase j := fun j =>
    State.phase_of_standing (State.removeSum_standings _ _ j)
  have hready : ((s.judged i r w).removeSum (i, .progress)).sumsOk
      ((s.judged i r w).removeSum (i, .progress)).phaseOk := by
    refine hremoved.rephaseSlot (i := i) (fun j hj => (hphase j).trans (State.phase_congr (hother j hj)))
      (fun k hk _ => ?_) fun h => absurd h howed
    cases k with
    | final => exact State.phaseOk_iff.2 (.inl ((hphase i).trans hclosed))
    | progress =>
      rcases hjudged.mem_removeSum hk with ⟨-, hne⟩ | ⟨hfinal, -⟩
      · exact absurd rfl hne
      · exact nomatch hfinal
  have hhanded : ((s.judged i r w).handToExport i).sumsOk ((s.judged i r w).removeSum (i, .progress)).phaseOk := by
    refine hready.queueFinal (State.phaseOk_iff.2 (.inl ((hphase i).trans hclosed))) howed fun hnone => ?_
    have hp := (hphase i).trans hclosed
    rw [State.phase, hnone] at hp
    exact nomatch hp
  rw [State.sealSlot_of_active hr ha]
  exact (State.unbindBank_changes _ _).sumsOk
    (hhanded.rephase fun j => State.phase_of_standing (State.queueFinal_standings _ i j))

/-! ### A free, a resume and a fresh opening -/

theorem State.sumsOk_freeRecord {s : State} {i : SlotId} {r : Record} (hs : s.sumsOk s.phaseOk)
    (hr : s.record i = some r) : (s.freeRecord i).sumsOk (s.freeRecord i).phaseOk := by
  have hx := s.xport_emptied i r
  have hdrop := hs.dropOwed i
  have hdropx := s.xport_dropOwed i
  have hnot : i ∉ s.xport.owed.erase i := fun h => (hs.owedNodup.mem_erase_iff.1 h).1 rfl
  have hempty : (s.emptied i r).sumsOk s.phaseOk := by
    refine hdrop.congr (by rw [hx, hdropx]) (by rw [hx, hdropx]) (fun j => ?_) (fun _ _ h => h) fun _ _ h => h
    by_cases hj : j = i
    · rw [hj, State.owesSummary_of_none ((s.record_emptied i r i).trans (if_pos rfl))]
      refine (Bool.eq_false_iff.2 fun hf => hnot ?_).symm
      have hin := (hdrop.flags i).2 hf
      rwa [hdropx] at hin
    · have hkeep : (s.dropOwed i).record j = s.record j := (s.record_dropOwed i j).trans (if_neg fun hc => hj hc.1)
      exact State.owesSummary_congr (((s.record_emptied i r j).trans (if_neg hj)).trans hkeep.symm)
  have hfirst := hempty.removeSum (i, .final)
  have hsecond := hfirst.removeSum (i, .progress)
  have howed : ∀ {u : State}, u.xport.owed = s.xport.owed.erase i → i ∉ u.xport.owed := fun h => by rwa [h]
  have hown : i ∉ (s.emptied i r).xport.owed := by rw [hx]; exact hnot
  have hown' : i ∉ ((s.emptied i r).removeSum (i, .final)).xport.owed := fun h => hown (State.mem_owed_removeSum h)
  have hout : ∀ k, (i, k) ∉ ((s.emptied i r).dequeued i).xport.sumQ := fun k hk => by
    rcases hfirst.mem_removeSum hk with ⟨hin, hne⟩ | ⟨-, hin⟩
    · rcases hempty.mem_removeSum hin with ⟨-, hne'⟩ | ⟨-, hin⟩
      · cases k
        · exact hne' rfl
        · exact hne rfl
      · exact hown hin
    · exact hown' hin
  have hdone : ((s.emptied i r).dequeued i).sumsOk ((s.emptied i r).dequeued i).phaseOk := by
    refine hsecond.rephaseSlot (i := i) (fun j hj => ?_) (fun k hk => absurd hk (hout k)) fun h =>
      absurd (State.mem_owed_removeSum h) hown'
    exact (State.phase_of_standing (State.dequeued_standings _ i j)).trans
      (State.phase_congr ((s.record_emptied i r j).trans (if_neg hj)))
  rw [State.freeRecord_of_record hr]
  exact hdone.keep rfl rfl (fun j => State.owesSummary_congr ((State.forgotten_changes _ i).record j)) fun j =>
    State.phase_congr ((State.forgotten_changes _ i).record j)

theorem State.sumsOk_resumeSlot {s : State} {i : SlotId} {r : Record} (hs : s.sumsOk s.phaseOk)
    (hr : s.record i = some r) (hseal : r.isSealed = true) (c : CellId) :
    (s.resumeSlot i c).sumsOk (s.resumeSlot i c).phaseOk := by
  have hdrop := hs.dropOwed i
  have hremoved := hdrop.removeSum (i, .final)
  have hx : (s.resumeSlot i c).xport.sumQ = ((s.dropOwed i).removeSum (i, .final)).xport.sumQ ∧
      (s.resumeSlot i c).xport.owed = ((s.dropOwed i).removeSum (i, .final)).xport.owed := by
    rw [State.xport_resumeSlot hr]
    exact ⟨rfl, rfl⟩
  have hown : i ∉ (s.dropOwed i).xport.owed := by
    rw [State.xport_dropOwed]
    exact fun h => (hs.owedNodup.mem_erase_iff.1 h).1 rfl
  have hown' : i ∉ ((s.dropOwed i).removeSum (i, .final)).xport.owed := fun h => hown (State.mem_owed_removeSum h)
  have hsealed : s.phase i = some .closed ∨ s.phase i = some .exported := by
    rw [State.phase_of_record hr]
    cases hst : r.state <;> simp [Record.isSealed, hst] at hseal ⊢
  have hno : (i, SumKind.progress) ∉ s.xport.sumQ := fun h => by
    have hok := State.phaseOk_iff.1 (hs.kinds _ h)
    rcases hsealed with h | h <;> simp [h] at hok
  have hout : ∀ k, (i, k) ∉ ((s.dropOwed i).removeSum (i, .final)).xport.sumQ := fun k hk => by
    rcases hdrop.mem_removeSum hk with ⟨hin, hne⟩ | ⟨-, hin⟩
    · rw [State.xport_dropOwed] at hin
      cases k
      · exact hne rfl
      · exact hno hin
    · exact hown hin
  have hflags : (s.resumeSlot i c).sumsOk s.phaseOk := by
    refine hremoved.congr hx.1 hx.2 (fun j => ?_) (fun _ _ h => h) fun _ _ h => h
    by_cases hj : j = i
    · rw [hj, State.owesSummary_of_record (State.record_resumeSlot_same hr c)]
      exact (Bool.eq_false_iff.2 fun hf => hown' ((hremoved.flags i).2 hf)).symm
    · exact State.owesSummary_congr (State.record_resumeSlot_other hr c hj)
  refine hflags.rephaseSlot (i := i) (fun j hj => State.phase_of_standing ?_) (fun k hk => absurd (hx.1 ▸ hk) (hout k))
    fun h => absurd (hx.2 ▸ h) hown'
  rw [State.standing_resumeSlot hr, if_neg hj]

theorem State.sums_takeFrame (s : State) : s.takeFrame.1.xport.sumQ = s.xport.sumQ ∧
    s.takeFrame.1.xport.owed = s.xport.owed ∧ ∀ i, s.takeFrame.1.owesSummary i = s.owesSummary i := by
  rcases s.takeFrame_cases with ⟨f, rest, -, htake⟩ | ⟨j, f, -, -, htake⟩ | ⟨-, -, htake⟩
  · rw [htake]
    exact ⟨rfl, rfl, fun _ => rfl⟩
  · rw [htake, State.xport_reclaimed]
    refine ⟨rfl, rfl, fun i => ?_⟩
    have hrec := s.record_reclaimed j i
    by_cases hij : i = j
    · rw [if_pos hij] at hrec
      rw [State.owesSummary, State.owesSummary, hrec, hij]
      cases s.record j <;> rfl
    · exact State.owesSummary_congr (hrec.trans (if_neg hij))
  · rw [htake]
    exact ⟨rfl, rfl, fun _ => rfl⟩

theorem State.sumsOk_opening {s : State} {i : SlotId} (hs : s.sumsOk s.phaseOk) (hfree : s.record i = none) (c : CellId)
    (k : Key) (p : Fin 8) (lb : BankId) :
    (s.takeFrame.1.openIn i s.takeFrame.2 c k p lb).sumsOk (s.takeFrame.1.openIn i s.takeFrame.2 c k p lb).phaseOk := by
  obtain ⟨hq, ho, hf⟩ := s.sums_takeFrame
  have hbase : s.takeFrame.1.sumsOk s.takeFrame.1.phaseOk := hs.keep hq ho hf s.phase_takeFrame
  have hx : ∀ {α : Type} (g : ExportEngine → α), (∀ x v, g { x with progress := v } = g x) →
      g (s.takeFrame.1.openIn i s.takeFrame.2 c k p lb).xport = g s.takeFrame.1.xport := fun g hg => by
    rw [State.xport_openIn, hg]
  have hnone : s.takeFrame.1.phase i = none := by
    rw [s.phase_takeFrame, State.phase, hfree]
    rfl
  have hno : ∀ k, ¬ s.takeFrame.1.phaseOk i k := fun k hok => by
    rw [State.phaseOk_iff, State.sealedIn, hnone] at hok
    cases k
    · exact hok.elim nofun nofun
    · exact hok.elim nofun nofun
  have hflags : (s.takeFrame.1.openIn i s.takeFrame.2 c k p lb).sumsOk s.takeFrame.1.phaseOk := by
    refine hbase.congr (hx ExportEngine.sumQ fun _ _ => rfl) (hx ExportEngine.owed fun _ _ => rfl) (fun j => ?_)
      (fun _ _ h => h) fun _ _ h => h
    have hrec := State.record_openIn s.takeFrame.1 i s.takeFrame.2 c k p lb j
    by_cases hj : j = i
    · rw [if_pos hj] at hrec
      rw [State.owesSummary_of_record hrec, hj]
      exact (Bool.eq_false_iff.2 fun h => hno .final (hbase.owedKinds i ((hbase.flags i).2 h))).symm
    · exact State.owesSummary_congr (hrec.trans (if_neg hj))
  refine hflags.rephaseSlot (i := i) (fun j hj => State.phase_congr ?_) (fun k _ hok => absurd hok (hno k)) fun _ hok =>
    absurd hok (hno _)
  rw [State.record_openIn, if_neg hj]

/-! ### The acts -/

theorem Act.sumsOk {L : Prop} {s t : State} (h : Act L s t) (hd : s.ordersOk) (hs : s.sumsOk s.phaseOk) :
    t.sumsOk t.phaseOk := by
  have hxport : ∀ {u : State}, s.changesOnly u [.xport] → u.xport.sumQ = s.xport.sumQ → u.xport.owed = s.xport.owed →
      u.sumsOk u.phaseOk := fun hc hq ho => hs.keep hq ho (fun i => State.owesSummary_congr (hc.record i)) fun i =>
    State.phase_congr (hc.record i)
  have hact : ∀ {u : State} {i : SlotId} {r q : Record}, u.sumsOk u.phaseOk → u.record i = some r → r.isActive = true →
      q.isActive = true → q.flags.summaryOwed = r.flags.summaryOwed →
      (u.setSlot i (some q)).sumsOk (u.setSlot i (some q)).phaseOk := fun {u i r q} hu hr ha hqa hf => by
    have hwrite : (u.setSlot i (some q)).sumsOk u.phaseOk := by
      refine hu.congr rfl rfl (fun j => ?_) (fun _ _ h => h) fun _ _ h => h
      by_cases hj : j = i
      · rw [hj, State.owesSummary_of_record (u.record_setSlot_same i _), State.owesSummary_of_record hr, hf]
      · exact State.owesSummary_congr (u.record_setSlot_other _ hj)
    have hunsealed := hu.unsealed (State.not_sealedIn (State.phase_of_record hr) (Record.isActive_iff.1 ha))
    refine hwrite.rephaseSlot (i := i) (fun j hj => State.phase_congr (u.record_setSlot_other _ hj)) (fun k hk _ => ?_)
      fun h => absurd h hunsealed.1
    cases k with
    | final => exact absurd hk hunsealed.2
    | progress =>
      rw [State.phaseOk_iff, State.phase_of_record (u.record_setSlot_same i _)]
      rcases Record.isActive_iff.1 hqa with h | h <;> simp [h]
  cases h with
  | aside h => exact h.sumsOk hs
  | cells h _ => exact h.sumsOk hs
  | raise a => exact (s.raise_changes a).sumsOk hs
  | alerts h _ => exact h.sumsOk hs
  | load lb v _ => exact (s.setBank_changes lb v).sumsOk hs
  | activate lb _ => exact (s.activate_changes lb).sumsOk hs
  | note i r q hr hq ho => exact hs.write hr (congrArg Standing.state hq) ho
  | resolve i r q hr _ =>
    obtain ⟨g, hx⟩ := s.xport_resolveResult i r q
    obtain ⟨r', hr', hrec⟩ := s.record_resolveResult i r q
    refine hs.keep (by rw [hx]) (by rw [hx]) (fun j => ?_) fun j => ?_
    · by_cases hj : j = i
      · rw [hj, State.owesSummary_of_record ((hrec i).trans (if_pos rfl)), State.owesSummary_of_record hr, hr']
      · exact State.owesSummary_congr ((hrec j).trans (if_neg hj))
    · by_cases hj : j = i
      · rw [hj, State.phase_of_record ((hrec i).trans (if_pos rfl)), State.phase_of_record hr, hr']
      · exact State.phase_congr ((hrec j).trans (if_neg hj))
  | sealing i w =>
    by_cases hidle : ∀ r, s.record i = some r → r.isActive = false
    · rw [State.sealSlot_of_idle hidle]
      exact hs
    · push Not at hidle
      obtain ⟨r, hr, ha⟩ := hidle
      exact State.sumsOk_sealSlot hs hr (Bool.eq_true_of_not_eq_false ha) w
  | free i =>
    cases hr : s.record i with
    | none =>
      rw [State.freeRecord_of_none hr]
      exact hs
    | some r => exact State.sumsOk_freeRecord hs hr
  | close i r w stamp hr ho _ =>
    exact (hact (q := r.enterClosing w stamp) hs hr (Record.isActive_iff.2 (.inl ho)) rfl rfl).keep rfl rfl
      (fun _ => rfl) fun _ => rfl
  | reopen i r hr hc _ => exact hact hs hr (Record.isActive_iff.2 (.inr hc)) rfl rfl
  | swap i j r q w stamp hr hc hq ho _ =>
    have hij : j ≠ i := fun h => by
      rw [h, hr] at hq
      rw [← Option.some.inj hq, hc] at ho
      exact nomatch ho
    exact (hact (q := q.enterClosing w stamp) (hact (q := r.reopened) hs hr (Record.isActive_iff.2 (.inr hc)) rfl rfl)
      ((s.record_setSlot_other _ hij).trans hq) (Record.isActive_iff.2 (.inl ho)) rfl rfl).keep rfl rfl
      (fun _ => rfl) fun _ => rfl
  | resume i r c hr hseal _ _ => exact State.sumsOk_resumeSlot hs hr hseal c
  | opening i c k p lb hfree _ _ => exact State.sumsOk_opening hs hfree c k p lb
  | startProgress i _ =>
    refine hxport (s.startProgress_changes i) ?_ ?_ <;>
    · unfold State.startProgress
      split <;> rfl
  | progressExpire i ht =>
    have hreq : (s.requestProgress i).sumsOk s.phaseOk :=
      hs.requestProgress (State.phaseOk_iff.2 (.inl (hd.timers i ht)))
    have hc := (State.startProgress_changes (s.requestProgress i) i)
    refine (hreq.rephase fun j => State.phase_congr ((s.requestProgress_changes i).record j)).keep (t := s.progressExpire i)
      ?_ ?_ (fun j => State.owesSummary_congr (hc.record j)) fun j => State.phase_congr (hc.record j) <;>
    · unfold State.progressExpire State.startProgress
      split <;> rfl
  | timers v _ => exact hxport (s.withXport_changes _) rfl rfl
  | dump d _ => exact hxport (s.withXport_changes _) rfl rfl
  | endDump _ =>
    refine hxport s.endDump_changes ?_ ?_ <;>
    · unfold State.startDump
      split <;> rfl
  | chainMap i r _ _ =>
    refine hxport (s.chainMap_changes i) ?_ ?_ <;>
    · unfold State.chainMap State.startDump
      split
      · rfl
      · split <;> rfl
  | requestMap i r _ _ =>
    refine hxport (s.requestMap_changes i) ?_ ?_ <;>
    · unfold State.requestMap State.startDump
      split
      · rfl
      · split <;> rfl
  | takeSum e rest he =>
    have hrest : rest = s.xport.sumQ.erase e := by rw [he, List.erase_cons_head]
    have hmem : e ∈ s.xport.sumQ := by rw [he]; exact List.mem_cons_self
    rw [hrest]
    exact (hs.vacate hmem).rephase fun j =>
      State.phase_of_standing (((s.withXport_changes _).standing.trans (State.fillPlace_standings _)) j)
  | queueFinal i r hr hseal ho =>
    have hok : s.phaseOk i .final := by
      rw [State.phaseOk_iff, if_pos rfl, State.sealedIn, State.phase_of_record hr]
      cases hst : r.state <;> simp [Record.isSealed, hst] at hseal ⊢
    exact (hs.queueFinal hok ho (by rw [hr]; exact nofun)).rephase fun j =>
      State.phase_of_standing (s.queueFinal_standings i j)
  | exportStep i =>
    unfold State.exportStep
    split
    · exact hs
    · next r hr =>
      split
      · next hc =>
        have hwrite : (s.setSlot i (some { r with state := .exported })).sumsOk s.phaseOk := by
          refine hs.congr rfl rfl (fun j => ?_) (fun _ _ h => h) fun _ _ h => h
          by_cases hj : j = i
          · rw [hj, State.owesSummary_of_record (s.record_setSlot_same i _), State.owesSummary_of_record hr]
          · exact State.owesSummary_congr (s.record_setSlot_other _ hj)
        have hnow : (s.setSlot i (some { r with state := .exported })).phaseOk i .final := by
          rw [State.phaseOk_iff, if_pos rfl, State.sealedIn, State.phase_of_record (s.record_setSlot_same i _)]
          exact .inr rfl
        refine State.sumsOk.keep (s := s.setSlot i (some { r with state := .exported })) ?_ rfl rfl (fun _ => rfl)
          fun _ => rfl
        refine hwrite.rephaseSlot (i := i) (fun j hj => State.phase_congr (s.record_setSlot_other _ hj))
          (fun k _ hok => ?_) fun _ _ => hnow
        cases k with
        | final => exact hnow
        | progress =>
          rw [State.phaseOk_iff, State.phase_of_record hr, hc] at hok
          exact hok.elim nofun nofun
      · exact hs

end Sys2Proof.Machine

/-! SUPPORT. The map pending list and the capacities, kept by every act, and with them the laws of lists and of capacities
by every move (R161, R168, R169). -/

namespace Sys2Proof.Machine

set_option Elab.async false

/-! ## The map pending list -/

/-- The entries of the map pending list are for records that hold a frame, no slot twice. -/
structure State.mapQOk (s : State) : Prop where
  nodup   : (s.xport.mapQ.map Prod.fst).Nodup
  holders : ∀ e ∈ s.xport.mapQ, ∃ f, s.frameOf e.1 = some f

/-- With it: while no dump is in progress none is pending. -/
structure State.mapsOk (s : State) : Prop extends pending : s.mapQOk where
  idle : s.xport.dump = none → s.xport.mapQ = []

theorem State.mapList_iff {s : State} : s.mapList ↔ s.mapsOk := by
  unfold State.mapList
  simp only [State.holdsFrame_iff_frameOf]
  exact ⟨fun ⟨hn, hh, hi⟩ => ⟨⟨hn, hh⟩, hi⟩, fun h => ⟨h.nodup, h.holders, h.idle⟩⟩

section

variable {s t : State} {i : SlotId}

theorem State.mapsOk.keep (h : s.mapsOk) (hf : ∀ i, t.frameOf i = s.frameOf i) (hq : t.xport.mapQ = s.xport.mapQ)
    (hd : t.xport.dump = none → s.xport.dump = none) : t.mapsOk :=
  ⟨⟨by rw [hq]; exact h.nodup, fun e he => by rw [hf]; exact h.holders e (hq ▸ he)⟩,
    fun hn => hq.trans (h.idle (hd hn))⟩

theorem State.changesOnly.mapsOk {bs : List Block} (hc : s.changesOnly t bs) (h : s.mapsOk)
    (hd : .dir ∉ bs := by decide) (hx : .xport ∉ bs := by decide) : t.mapsOk :=
  h.keep (fun i => State.frameOf_congr (hc.record i hd)) (by rw [hc.xport hx]) fun hn => by rwa [hc.xport hx] at hn

/-- A slot's entry leaves the list. -/
theorem State.mapsOk.drop (h : s.mapsOk) (hf : ∀ j, j ≠ i → t.frameOf j = s.frameOf j)
    (hq : t.xport.mapQ = s.xport.mapQ.filter fun e => e.1 != i) (hd : t.xport.dump = none → s.xport.dump = none) :
    t.mapsOk := by
  refine ⟨⟨?_, fun e he => ?_⟩, fun hn => ?_⟩
  · rw [hq]
    exact h.nodup.sublist (List.filter_sublist.map _)
  · rw [hq, List.mem_filter] at he
    rw [hf e.1 (by simpa using he.2)]
    exact h.holders e he.1
  · rw [hq, h.idle (hd hn)]
    rfl

/-- A dump starts if none runs and one is pending. -/
theorem State.mapQOk.startDump (h : s.mapQOk) : s.startDump.mapsOk := by
  unfold State.startDump
  split
  · next e rest hdump hq =>
    have hn := h.nodup
    rw [hq, List.map_cons, List.nodup_cons] at hn
    refine ⟨⟨hn.2, fun x hx => h.holders x (by rw [hq]; exact List.mem_cons_of_mem e hx)⟩, fun hnone => ?_⟩
    obtain ⟨f, hf⟩ := h.holders e (by rw [hq]; exact List.mem_cons_self)
    obtain ⟨r, hr, hrf⟩ := Option.bind_eq_some_iff.1 hf
    have hstart : s.dumpFor e = some (newDump e.1 e.2 r f (s.recipeOf r)) := by
      rw [State.dumpFor, hr]
      simp only [hrf, Option.map_some]
    exact nomatch hstart.symm.trans hnone
  · next hcase =>
    refine ⟨h, fun hnone => ?_⟩
    cases hq : s.xport.mapQ with
    | nil => rfl
    | cons e rest => exact absurd hq (hcase e rest hnone)

theorem State.any_slot_iff {q : List (SlotId × Origin)} : (q.any fun e => e.1 == i) = true ↔ i ∈ q.map Prod.fst := by
  simp

theorem State.mapQOk.append (h : s.mapQOk) (o : Origin) (hi : i ∉ s.xport.mapQ.map Prod.fst)
    (hf : ∃ f, s.frameOf i = some f) : (s.withXport { s.xport with mapQ := s.xport.mapQ ++ [(i, o)] }).mapQOk := by
  refine ⟨?_, fun e he => ?_⟩
  · rw [State.withXport_xport, List.map_append]
    exact List.nodup_append.2 ⟨h.nodup, List.nodup_singleton i, fun a ha b hb hab =>
      hi (by rw [hab, List.mem_singleton.1 hb] at ha; exact ha)⟩
  · rcases List.mem_append.1 he with he | he
    · exact h.holders e he
    · rw [List.mem_singleton.1 he]
      exact hf

theorem State.frameOf_holder {r : Record} (hr : s.record i = some r) (hf : r.frame.isSome = true) :
    ∃ f, s.frameOf i = some f := by
  rw [State.frameOf_of_record hr]
  exact Option.isSome_iff_exists.1 hf

theorem State.mapsOk_requestMap (h : s.mapsOk) (hf : ∃ f, s.frameOf i = some f) : (s.requestMap i).mapsOk := by
  unfold State.requestMap
  split
  · exact h
  · next hno => exact (h.pending.append .request (fun hm => hno (State.any_slot_iff.2 hm)) hf).startDump

theorem State.mapsOk_chainMap (h : s.mapsOk) (hf : ∃ f, s.frameOf i = some f) : (s.chainMap i).mapsOk := by
  unfold State.chainMap
  split
  · have hfst : (s.xport.mapQ.map fun e => if e.1 = i then (i, Origin.chain) else e).map Prod.fst =
        s.xport.mapQ.map Prod.fst := by
      rw [List.map_map]
      refine List.map_congr_left fun e _ => ?_
      simp only [Function.comp]
      split
      · next he => exact he.symm
      · rfl
    refine ⟨⟨by rw [State.withXport_xport, hfst]; exact h.nodup, fun e he => ?_⟩, fun hn => ?_⟩
    · obtain ⟨x, hx, rfl⟩ := List.mem_map.1 he
      split
      · exact hf
      · exact h.holders x hx
    · rw [State.withXport_xport, h.idle hn]
      rfl
  · next hno => exact (h.pending.append .chain (fun hm => hno (State.any_slot_iff.2 hm)) hf).startDump

theorem State.mapsOk_takeFrame (h : s.mapsOk) : s.takeFrame.1.mapsOk := by
  rcases s.takeFrame_cases with ⟨f, rest, -, htake⟩ | ⟨j, f, -, -, htake⟩ | ⟨-, -, htake⟩
  · rw [htake]
    exact h.keep (fun _ => rfl) rfl fun hn => hn
  · rw [htake]
    have hx := s.xport_reclaimed j
    refine h.drop (i := j) (fun k hk => State.frameOf_congr ((s.record_reclaimed j k).trans (if_neg hk)))
      (by rw [hx]) fun hn => ?_
    rw [hx] at hn
    exact Option.map_eq_none_iff.1 hn
  · rw [htake]
    exact h

theorem State.mapsOk_opening (h : s.mapsOk) (hfree : s.record i = none) (c : CellId) (k : Key) (p : Fin 8) (lb : BankId) :
    (s.takeFrame.1.openIn i s.takeFrame.2 c k p lb).mapsOk := by
  have hbase := State.mapsOk_takeFrame h
  have hx := State.xport_openIn s.takeFrame.1 i s.takeFrame.2 c k p lb
  have hq : (s.takeFrame.1.openIn i s.takeFrame.2 c k p lb).xport.mapQ = s.takeFrame.1.xport.mapQ := by rw [hx]
  have hd : (s.takeFrame.1.openIn i s.takeFrame.2 c k p lb).xport.dump = s.takeFrame.1.xport.dump := by rw [hx]
  refine ⟨⟨by rw [hq]; exact hbase.nodup, fun e he => ?_⟩, fun hn => hq.trans (hbase.idle (hd ▸ hn))⟩
  obtain ⟨f, hf⟩ := hbase.holders e (hq ▸ he)
  have hei : e.1 ≠ i := fun hei => by
    rw [hei, State.frameOf_of_none (State.record_takeFrame_none hfree)] at hf
    exact nomatch hf
  exact ⟨f, (State.frameOf_congr ((State.record_openIn _ i _ c k p lb e.1).trans (if_neg hei))).trans hf⟩

end

theorem Act.mapsOk {L : Prop} {s t : State} (h : Act L s t) (hs : s.mapsOk) : t.mapsOk := by
  have hset : ∀ {u : State} {i : SlotId} {r q : Record}, u.mapsOk → u.record i = some r → q.frame = r.frame →
      (u.setSlot i (some q)).mapsOk := fun hu hr hf => hu.keep (State.frameOf_setSlot hr hf) rfl fun hn => hn
  have hxport : ∀ {u : State}, s.changesOnly u [.xport] → u.xport.mapQ = s.xport.mapQ →
      (u.xport.dump = none → s.xport.dump = none) → u.mapsOk := fun hc hq hd =>
    hs.keep (fun i => State.frameOf_congr (hc.record i)) hq hd
  have hsums : ∀ {u : State}, s.sameStandings u → s.xport.sumsOnly u.xport → u.mapsOk := fun hst hx =>
    hs.keep (fun i => State.frameOf_of_standing (hst i)) hx.mapQ fun hn => by rwa [hx.dump] at hn
  cases h with
  | aside h => exact h.mapsOk hs
  | cells h _ => exact h.mapsOk hs
  | raise a => exact (s.raise_changes a).mapsOk hs
  | alerts h _ => exact h.mapsOk hs
  | load lb v _ => exact (s.setBank_changes lb v).mapsOk hs
  | activate lb _ => exact (s.activate_changes lb).mapsOk hs
  | note i r q hr hq _ => exact hset hs hr (congrArg Standing.frame hq)
  | resolve i r q hr _ =>
    obtain ⟨g, hx⟩ := s.xport_resolveResult i r q
    obtain ⟨r', hr', hrec⟩ := s.record_resolveResult i r q
    refine hs.keep (fun j => ?_) (by rw [hx]) fun hn => ?_
    · by_cases hj : j = i
      · rw [hj, State.frameOf_of_record ((hrec i).trans (if_pos rfl)), State.frameOf_of_record hr, hr']
      · exact State.frameOf_congr ((hrec j).trans (if_neg hj))
    · rw [hx] at hn
      exact Option.map_eq_none_iff.1 hn
  | sealing i w =>
    by_cases hidle : ∀ r, s.record i = some r → r.isActive = false
    · rw [State.sealSlot_of_idle hidle]
      exact hs
    · push Not at hidle
      obtain ⟨r, hr, ha⟩ := hidle
      have hactive := Bool.eq_true_of_not_eq_false ha
      have hx := State.xport_sealSlot hr hactive w
      refine hs.keep (fun j => ?_) (by rw [hx]) fun hn => by rwa [hx] at hn
      rw [State.frameOf_eq_standing, State.frameOf_eq_standing, State.standing_sealSlot hr hactive]
      split
      · next hj => rw [hj, State.standing_of_record hr]; rfl
      · rfl
  | free i =>
    cases hr : s.record i with
    | none =>
      rw [State.freeRecord_of_none hr]
      exact hs
    | some r =>
      have hx := State.xport_freeRecord hr
      refine hs.drop (i := i) (fun j hj => State.frameOf_of_standing ?_) (by rw [hx]) fun hn => ?_
      · rw [State.standing_freeRecord hr, if_neg hj]
      · rw [hx] at hn
        exact Option.map_eq_none_iff.1 hn
  | close i r w stamp hr _ _ => exact (hset (q := r.enterClosing w stamp) hs hr rfl).keep (fun _ => rfl) rfl fun hn => hn
  | reopen i r hr _ _ => exact hset hs hr rfl
  | swap i j r q w stamp hr hc hq ho _ =>
    have hij : j ≠ i := fun h => by
      rw [h, hr] at hq
      rw [← Option.some.inj hq, hc] at ho
      exact nomatch ho
    exact (hset (q := q.enterClosing w stamp) (hset (q := r.reopened) hs hr rfl)
      ((s.record_setSlot_other _ hij).trans hq) rfl).keep (fun _ => rfl) rfl fun hn => hn
  | resume i r c hr _ _ _ =>
    have hx := State.xport_resumeSlot hr c
    refine hs.drop (i := i) (fun j hj => State.frameOf_of_standing ?_) (by rw [hx]) fun hn => ?_
    · rw [State.standing_resumeSlot hr, if_neg hj]
    · rw [hx] at hn
      exact Option.map_eq_none_iff.1 hn
  | opening i c k p lb hfree _ _ => exact State.mapsOk_opening hs hfree c k p lb
  | startProgress i _ =>
    refine hxport (s.startProgress_changes i) ?_ ?_
    · unfold State.startProgress
      split <;> rfl
    · unfold State.startProgress
      split <;> exact fun hn => hn
  | progressExpire i _ =>
    have hx : (s.progressExpire i).xport.mapQ = s.xport.mapQ ∧ (s.progressExpire i).xport.dump = s.xport.dump := by
      unfold State.progressExpire State.startProgress State.requestProgress
      repeat' split
      all_goals exact ⟨rfl, rfl⟩
    exact hxport (s.progressExpire_changes i) hx.1 fun hn => hx.2 ▸ hn
  | timers v _ => exact hxport (s.withXport_changes _) rfl fun hn => hn
  | dump d hrun => exact hxport (s.withXport_changes _) rfl nofun
  | endDump _ => exact State.mapQOk.startDump ⟨hs.nodup, hs.holders⟩
  | chainMap i r hr hf => exact State.mapsOk_chainMap hs (State.frameOf_holder hr hf)
  | requestMap i r hr hf => exact State.mapsOk_requestMap hs (State.frameOf_holder hr hf)
  | takeSum e rest _ =>
    exact hsums ((s.withXport_changes _).standing.trans (State.fillPlace_standings _))
      (ExportEngine.sumsOnly.trans (y := { s.xport with sumQ := rest }) rfl (State.fillPlace_sumsOnly _))
  | queueFinal i r _ _ _ => exact hsums (s.queueFinal_standings i) (s.queueFinal_sumsOnly i)
  | exportStep i =>
    unfold State.exportStep
    split
    · exact hs
    · next r hr =>
      split
      · exact (hset (q := { r with state := .exported }) hs hr rfl).keep (fun _ => rfl) rfl fun hn => hn
      · exact hs

theorem State.listLaw_iff {s : State} : s.listLaw ↔ s.ordersOk ∧ s.sumsOk s.phaseOk ∧ s.mapsOk := by
  rw [State.listLaw, State.directoryLists_iff, State.summaryLists_iff, State.mapList_iff]

theorem Act.listLaw {L : Prop} {s t : State} (h : Act L s t) (hs : s.listLaw) : t.listLaw := by
  obtain ⟨horders, hsums, hmaps⟩ := State.listLaw_iff.1 hs
  exact State.listLaw_iff.2 ⟨h.ordersOk horders, h.sumsOk horders hsums, h.mapsOk hmaps⟩

theorem Move.listLaw {L : Prop} {s t : State} (h : Move L s t) (hs : s.listLaw) : t.listLaw := by
  obtain ⟨horders, hsums, hmaps⟩ := State.listLaw_iff.1 hs
  cases h with
  | act h => exact h.listLaw hs
  | port h _ => exact State.listLaw_iff.2 ⟨h.ordersOk horders, h.sumsOk hsums, h.mapsOk hmaps⟩
  | hall h _ _ _ => exact State.listLaw_iff.2 ⟨h.ordersOk horders, h.sumsOk hsums, h.mapsOk hmaps⟩
  | reset straps => exact reset_listLaw

/-! ## The capacities (R10, R12, R142, R159 to R161, R177) -/

theorem Act.length_sumQ {L : Prop} {s t : State} (h : Act L s t) (hs : s.xport.sumQ.length ≤ 8) :
    t.xport.sumQ.length ≤ 8 := by
  have hkept : ∀ {u : State} {bs : List Block}, s.changesOnly u bs → (hb : Block.xport ∉ bs := by decide) →
      u.xport.sumQ.length ≤ 8 := fun hc hb => by rw [hc.xport hb]; exact hs
  have hsame : ∀ {u : State}, u.xport.sumQ = s.xport.sumQ → u.xport.sumQ.length ≤ 8 := fun h => by rw [h]; exact hs
  cases h with
  | aside h => exact hkept h
  | cells h _ => exact hkept h
  | raise a => exact hkept (s.raise_changes a)
  | alerts h _ => exact hkept h
  | load lb v _ => exact hkept (s.setBank_changes lb v)
  | activate lb _ => exact hkept (s.activate_changes lb)
  | note i r q _ _ _ => exact hs
  | resolve i r q _ _ =>
    obtain ⟨g, hx⟩ := s.xport_resolveResult i r q
    exact hsame (by rw [hx])
  | sealing i w =>
    by_cases hidle : ∀ r, s.record i = some r → r.isActive = false
    · rw [State.sealSlot_of_idle hidle]
      exact hs
    · push Not at hidle
      obtain ⟨r, hr, ha⟩ := hidle
      have hq : (s.judged i r w).xport.sumQ.length ≤ 8 := by
        rw [State.xport_judged]
        exact hs
      rw [State.xport_sealSlot hr (Bool.eq_true_of_not_eq_false ha) w]
      exact State.length_sumQ_queueFinal i (State.length_sumQ_removeSum _ hq)
  | free i =>
    cases hr : s.record i with
    | none =>
      rw [State.freeRecord_of_none hr]
      exact hs
    | some r =>
      have hq : (s.emptied i r).xport.sumQ.length ≤ 8 := by
        rw [State.xport_emptied]
        exact hs
      rw [State.xport_freeRecord hr]
      exact State.length_sumQ_removeSum _ (State.length_sumQ_removeSum _ hq)
  | close i r w stamp _ _ _ => exact hs
  | reopen i r _ _ _ => exact hs
  | swap i j r q w stamp _ _ _ _ _ => exact hs
  | resume i r c hr _ _ _ =>
    have hq : (s.dropOwed i).xport.sumQ.length ≤ 8 := by
      rw [State.xport_dropOwed]
      exact hs
    rw [State.xport_resumeSlot hr]
    exact State.length_sumQ_removeSum _ hq
  | opening i c k p lb _ _ _ =>
    rw [State.xport_openIn]
    show s.takeFrame.1.xport.sumQ.length ≤ 8
    rw [s.sums_takeFrame.1]
    exact hs
  | startProgress i _ =>
    refine hsame ?_
    unfold State.startProgress
    split <;> rfl
  | progressExpire i _ =>
    have hsum : (s.progressExpire i).xport.sumQ = (s.requestProgress i).xport.sumQ := by
      unfold State.progressExpire State.startProgress
      split <;> rfl
    rw [hsum]
    exact State.length_sumQ_requestProgress i hs
  | timers v _ => exact hs
  | dump d _ => exact hs
  | endDump _ =>
    refine hsame ?_
    unfold State.startDump
    split <;> rfl
  | chainMap i r _ _ =>
    refine hsame ?_
    unfold State.chainMap State.startDump
    split
    · rfl
    · split <;> rfl
  | requestMap i r _ _ =>
    refine hsame ?_
    unfold State.requestMap State.startDump
    split
    · rfl
    · split <;> rfl
  | takeSum e rest he =>
    have hrest : rest = s.xport.sumQ.erase e := by rw [he, List.erase_cons_head]
    rw [hrest]
    exact State.length_sumQ_vacate (by rw [he]; exact List.mem_cons_self) hs
  | queueFinal i r _ _ _ => exact State.length_sumQ_queueFinal i hs
  | exportStep i =>
    unfold State.exportStep
    split
    · exact hs
    · split <;> exact hs

theorem Move.withinCapacities {L : Prop} {s t : State} (h : Move L s t) (hs : s.withinCapacities) :
    t.withinCapacities := by
  obtain ⟨hports, hresp, hfwd, hrx, hsum, halerts⟩ := hs
  cases h with
  | act h =>
    have hk := h.queuesKept
    refine ⟨fun c => ?_, by rw [hk.resp]; exact hresp, by rw [hk.fwd]; exact hfwd, by rw [hk.rx]; exact hrx,
      h.length_sumQ hsum, h.length_alerts halerts⟩
    rw [Cell.flowLaw, (hk.ports c).1, (hk.ports c).2]
    exact hports c
  | port h hp =>
    exact ⟨fun c => hp c (hports c), by rw [h.hall]; exact hresp, by rw [h.hall]; exact hfwd, by rw [h.hall]; exact hrx,
      by rw [h.xport]; exact hsum, by rw [h.alerts]; exact halerts⟩
  | hall h hr hf hx =>
    exact ⟨fun c => by rw [h.cell]; exact hports c, hr hresp, hf hfwd, hx hrx, by rw [h.xport]; exact hsum,
      by rw [h.alerts]; exact halerts⟩
  | reset straps =>
    refine ⟨fun c => ?_, Nat.zero_le _, Nat.zero_le _, Nat.zero_le _, Nat.zero_le _, Nat.zero_le _⟩
    rw [State.cell_resetAll]
    exact ⟨fun _ => Nat.zero_lt_succ _, nofun⟩

end Sys2Proof.Machine

/-! SUPPORT. The wafer directory's operations are runs of acts: seals, entries to CLOSING, resumes and openings, with what
they leave of the records' roles (R75, R78 to R88). -/

namespace Sys2Proof.Machine

set_option Elab.async false

/-! ## Runs that end activity -/

/-- From s to t records at most leave: every role left is one that was there. -/
def State.rolesShrink (s t : State) : Prop := ∀ j ρ, t.role j = some ρ → s.role j = some ρ

/-- From s to t no record becomes active, and none OPEN; keys and cells stay. -/
def State.rolesWithin (s t : State) : Prop := ∀ j ρ, t.role j = some ρ →
  ∃ ρ', s.role j = some ρ' ∧ ρ'.key = ρ.key ∧ ρ'.cell = ρ.cell ∧ (ρ.state = .opened → ρ'.state = .opened)

theorem State.rolesShrink.refl (s : State) : s.rolesShrink s := fun _ _ h => h
theorem State.rolesShrink.trans {s t u : State} (h : s.rolesShrink t) (k : t.rolesShrink u) : s.rolesShrink u :=
  fun j ρ hρ => h j ρ (k j ρ hρ)

theorem State.rolesShrink.within {s t : State} (h : s.rolesShrink t) : s.rolesWithin t :=
  fun j ρ hρ => ⟨ρ, h j ρ hρ, rfl, rfl, fun hs => hs⟩

theorem State.rolesWithin.trans {s t u : State} (h : s.rolesWithin t) (k : t.rolesWithin u) : s.rolesWithin u :=
  fun j ρ hρ => by
    obtain ⟨ρ1, h1, hk1, hc1, ho1⟩ := k j ρ hρ
    obtain ⟨ρ2, h2, hk2, hc2, ho2⟩ := h j ρ1 h1
    exact ⟨ρ2, h2, hk2.trans hk1, hc2.trans hc1, fun hs => ho2 (ho1 hs)⟩

/-- A bank that is LIVE stays so. -/
def State.keepsLive (s t : State) : Prop := ∀ lb, (s.bank lb).state = .live → (t.bank lb).state = .live

theorem State.banksServe.keepsLive {s t : State} (h : s.banksServe t) : s.keepsLive t := fun lb hl => by
  obtain ⟨-, -, hst | ⟨hret, -⟩⟩ := h lb
  · rw [hst, hl]
  · rw [hl] at hret
    exact nomatch hret

/-- A run of acts in which no record becomes active or OPEN, and a LIVE bank stays LIVE. -/
structure Closes (L : Prop) (s t : State) : Prop where
  acts  : Acts L s t
  roles : s.rolesWithin t
  live  : s.keepsLive t

section

variable {L : Prop} {s t u : State} {i : SlotId} {r : Record} {c : CellId} {k : Key}

theorem Closes.refl (s : State) : Closes L s s := ⟨.refl, (State.rolesShrink.refl s).within, fun _ h => h⟩

theorem Closes.trans (h : Closes L s t) (k : Closes L t u) : Closes L s u :=
  ⟨h.acts.trans k.acts, h.roles.trans k.roles, fun lb hl => k.live lb (h.live lb hl)⟩

theorem State.changesOnly.rolesShrink {bs : List Block} (h : s.changesOnly t bs) (hd : .dir ∉ bs := by decide) :
    s.rolesShrink t := fun j _ hρ => (State.role_congr (h.record j hd)).symm.trans hρ

theorem State.role_sealSlot_same (s : State) (i : SlotId) (w : Option CloseReason) : (s.sealSlot i w).role i = none := by
  by_cases hidle : ∀ r, s.record i = some r → r.isActive = false
  · rw [State.sealSlot_of_idle hidle]
    exact State.role_of_idle hidle
  · push Not at hidle
    obtain ⟨r, hr, ha⟩ := hidle
    obtain ⟨b, hb⟩ := State.record_sealSlot_same hr (Bool.eq_true_of_not_eq_false ha) w
    rw [State.role_of_record hb]
    rfl

theorem State.sealSlot_rolesShrink (s : State) (i : SlotId) (w : Option CloseReason) :
    s.rolesShrink (s.sealSlot i w) := fun j ρ hρ => by
  by_cases hj : j = i
  · rw [hj, State.role_sealSlot_same] at hρ
    exact nomatch hρ
  · rwa [State.role_of_standing (s.standing_sealSlot_other hj w)] at hρ

theorem State.freeRecord_rolesShrink (s : State) (i : SlotId) : s.rolesShrink (s.freeRecord i) := fun j ρ hρ => by
  cases hr : s.record i with
  | none => rwa [State.freeRecord_of_none hr] at hρ
  | some r =>
    by_cases hj : j = i
    · rw [hj, State.role_of_idle fun q hq => nomatch (State.record_freeRecord_same hr).symm.trans hq] at hρ
      exact nomatch hρ
    · rwa [State.role_of_standing ((State.standing_freeRecord hr j).trans (if_neg hj))] at hρ

theorem Closes.seal (s : State) (i : SlotId) (w : Option CloseReason) : Closes L s (s.sealSlot i w) :=
  ⟨(Act.sealing s i w).run, (s.sealSlot_rolesShrink i w).within, (s.sealSlot_banksServe i w).keepsLive⟩

theorem Closes.free (s : State) (i : SlotId) : Closes L s (s.freeRecord i) :=
  ⟨(Act.free s i).run, (s.freeRecord_rolesShrink i).within, (s.freeRecord_banksServe i).keepsLive⟩

theorem Closes.cells (h : s.changesOnly t [.cells]) (hp : s.portsKept t) : Closes L s t :=
  ⟨(Act.cells h hp).run, h.rolesShrink.within, h.banksServe.keepsLive⟩

theorem State.sealIf_rolesShrink (s : State) (o : Option SlotId) (w : CloseReason) : s.rolesShrink (s.sealIf o w) := by
  cases o with
  | none => exact .refl s
  | some i => exact s.sealSlot_rolesShrink i _

theorem Closes.sealIf (s : State) (o : Option SlotId) (w : CloseReason) : Closes L s (s.sealIf o w) := by
  cases o with
  | none => exact .refl s
  | some i => exact .seal s i _

/-- A change of a cell's grace timer alone. -/
theorem Closes.grace (s : State) (c : CellId) (f : Cell → Option Timer) :
    Closes L s (s.modCell c fun k => { k with graceTimer := f k }) :=
  .cells (s.modCell_changes c _) (s.modCell_portsKept c (fun _ => rfl) fun _ => rfl)

theorem Closes.startGrace (s : State) (i : SlotId) (c : CellId) : Closes L s (s.startGrace i c) := by
  unfold State.startGrace
  split
  · exact .seal s i none
  · exact .grace s c _

/-! ## Entries to CLOSING (R75) -/

/-- Two records of one cell in one state are one record. -/
theorem State.apart.unique (h : s.apart) {i j : SlotId} {p q : Role} (hp : s.role i = some p) (hq : s.role j = some q)
    (hcell : p.cell = q.cell) (hstate : p.state = q.state) : i = j := by
  by_contra hij
  exact (h i j hij p q hp hq).2 ⟨hcell, hstate⟩

theorem State.closingOn_of_role (h : s.closingOn c = some i) :
    ∃ p, s.role i = some p ∧ p.state = .closing ∧ p.cell = c := by
  obtain ⟨r, hr, hp⟩ := State.findSlot_some h
  obtain ⟨hs, hc⟩ := State.closingOn_spec h hr
  exact ⟨r.role, State.role_of_active hr (Record.isActive_iff.2 (.inr hs)), hs, hc⟩

/-- After the seal of a cell's CLOSING record the cell has none. -/
theorem State.no_closing_after_seal (h : s.apart) (c : CellId) (w : CloseReason) (j : SlotId) (q : Record)
    (hq : (s.sealIf (s.closingOn c) w).record j = some q) (hs : q.state = .closing) : q.cell ≠ c := by
  intro hc
  have hrole := State.role_of_active hq (Record.isActive_iff.2 (.inr hs))
  have hbefore := s.sealIf_rolesShrink (s.closingOn c) w j _ hrole
  cases ho : s.closingOn c with
  | none =>
    obtain ⟨r, hr, -, hrole'⟩ := State.role_eq_some.1 hbefore
    have hno := State.findSlot_eq_none.1 ho j r hr
    have hst : r.state = .closing := (congrArg Role.state hrole').trans hs
    have hcl : r.cell = c := (congrArg Role.cell hrole').trans hc
    simp [hst, hcl] at hno
  | some k =>
    obtain ⟨p, hp, hps, hpc⟩ := State.closingOn_of_role ho
    obtain rfl := h.unique hbefore hp (hc.trans hpc.symm) (hs.trans hps.symm)
    rw [ho] at hrole
    rw [State.sealIf, State.role_sealSlot_same] at hrole
    exact nomatch hrole

theorem State.modRecord_of_record (hr : s.record i = some r) (f : Record → Record) :
    s.modRecord i f = s.setSlot i (some (f r)) := by
  rw [State.modRecord, hr]

/-- The record that enters CLOSING is no CLOSING one: its cell's seal leaves it but for SUMMARY_OWED. -/
theorem State.record_sealClosing (hr : s.record i = some r) (ho : r.state = .opened) (c : CellId) (w : CloseReason) :
    ∃ r', (s.sealIf (s.closingOn c) w).record i = some r' ∧ r'.standing = r.standing := by
  cases hc : s.closingOn c with
  | none => exact ⟨r, hr, rfl⟩
  | some k =>
    have hki : i ≠ k := by
      rintro rfl
      have hs := (State.closingOn_spec hc hr).1
      rw [ho] at hs
      exact nomatch hs
    have hstand : (s.sealSlot k (some w)).standing i = some r.standing :=
      (s.standing_sealSlot_other hki _).trans (State.standing_of_record hr)
    exact State.standing_eq_some.1 hstand

theorem State.moveToClosing_of_record (hr : s.record i = some r) {r' : Record}
    (hr' : (s.sealIf (s.closingOn r.cell) .forced).record i = some r') (w : CloseReason) (stamp : Word) :
    s.moveToClosing i w stamp = ((s.sealIf (s.closingOn r.cell) .forced).closed i r' w stamp).startGrace i r.cell := by
  rw [State.moveToClosing, hr]
  simp only
  rw [State.modRecord_of_record hr']
  rfl

/-- The roles of an entry to CLOSING. -/
theorem State.closed_rolesWithin {r : Record} (hr : s.record i = some r) (ho : r.state = .opened) (w : CloseReason)
    (stamp : Word) : s.rolesWithin (s.closed i r w stamp) := fun j ρ hρ => by
  rw [State.role_closed] at hρ
  split at hρ
  · next hj =>
    rw [← Option.some.inj hρ, hj]
    exact ⟨r.role, State.role_of_active hr (Record.isActive_iff.2 (.inl ho)), rfl, rfl, fun h => nomatch h⟩
  · exact ⟨ρ, hρ, rfl, rfl, fun h => h⟩

theorem Closes.closed {r : Record} (hr : s.record i = some r) (ho : r.state = .opened)
    (hl : L → ∀ j q, s.record j = some q → q.state = .closing → q.cell ≠ r.cell) (w : CloseReason) (stamp : Word) :
    Closes L s (s.closed i r w stamp) :=
  ⟨(Act.close s i r w stamp hr ho hl).run, State.closed_rolesWithin hr ho w stamp,
    (s.closed_changes i r w stamp).banksServe.keepsLive⟩

/-- An OPEN record's move to CLOSING, after which the slot's record is OPEN no more. -/
theorem State.moveToClosing_closes (hL : L → s.directoryLaw) (hr : s.record i = some r) (ho : r.state = .opened)
    (w : CloseReason) (stamp : Word) : Closes L s (s.moveToClosing i w stamp) ∧
      ∀ p, (s.moveToClosing i w stamp).role i = some p → p.state ≠ .opened := by
  obtain ⟨r', hr', hstand⟩ := State.record_sealClosing hr ho r.cell .forced
  have ho' : r'.state = .opened := (congrArg Standing.state hstand).trans ho
  have hcell : r'.cell = r.cell := congrArg Standing.cell hstand
  have hclosed := Closes.closed (L := L) hr' ho' (fun hl => by
    rw [hcell]
    exact State.no_closing_after_seal (State.recordLaw_iff.1 (hL hl).2).1 r.cell .forced) w stamp
  have hgrace := Closes.startGrace (L := L) ((s.sealIf (s.closingOn r.cell) .forced).closed i r' w stamp) i r.cell
  rw [State.moveToClosing_of_record hr hr' w stamp]
  refine ⟨((Closes.sealIf s _ .forced).trans hclosed).trans hgrace, fun p hp hopen => ?_⟩
  obtain ⟨p', hp', -, -, hopen'⟩ := hgrace.roles i p hp
  have hs := hopen' hopen
  rw [State.role_closed, if_pos rfl] at hp'
  rw [← Option.some.inj hp'] at hs
  exact nomatch hs

theorem State.openOn_spec' (h : s.openOn c = some i) : ∃ r, s.record i = some r ∧ r.state = .opened ∧ r.cell = c := by
  obtain ⟨r, hr, -⟩ := State.findSlot_some h
  exact ⟨r, hr, State.openOn_spec h hr⟩

theorem State.openOn_none (h : s.openOn c = none) (j : SlotId) (q : Record) (hq : s.record j = some q)
    (ho : q.state = .opened) : q.cell ≠ c := fun hc => by
  have hno := State.findSlot_eq_none.1 h j q hq
  simp [ho, hc] at hno

/-- After the close of a cell's OPEN record the cell has none. -/
theorem State.closeOpen_closes (hL : L → s.directoryLaw) (c : CellId) (w : CloseReason) (stamp : Word) :
    Closes L s (s.closeOpen c w stamp) ∧
      (L → ∀ j p, (s.closeOpen c w stamp).role j = some p → p.state = .opened → p.cell ≠ c) := by
  unfold State.closeOpen
  cases ho : s.openOn c with
  | none =>
    refine ⟨.refl s, fun _ j p hp hs => ?_⟩
    obtain ⟨q, hq, -, rfl⟩ := State.role_eq_some.1 hp
    exact State.openOn_none ho j q hq hs
  | some i =>
    obtain ⟨r, hr, hro, hrc⟩ := State.openOn_spec' ho
    obtain ⟨hrun, hgone⟩ := State.moveToClosing_closes hL hr hro w stamp
    refine ⟨hrun, fun hl j p hp hs hc => ?_⟩
    obtain ⟨p', hp', -, hc', ho'⟩ := hrun.roles j p hp
    have hri := State.role_of_active hr (Record.isActive_iff.2 (.inl hro))
    obtain rfl : j = i := (State.recordLaw_iff.1 (hL hl).2).1.unique hp' hri ((hc'.trans hc).trans hrc.symm)
      ((ho' hs).trans hro.symm)
    exact hgone p hp hs

/-! ## Openings (R82 to R87) -/

theorem State.liveBank_state {s : State} {lb : BankId} (h : s.liveBank = some lb) : (s.bank lb).state = .live := by
  unfold State.liveBank at h
  split at h
  · next ha => rw [← Option.some.inj h]; exact ha
  · split at h
    · next hb => rw [← Option.some.inj h]; exact hb
    · exact nomatch h

theorem State.activeWith_none (h : s.activeWith k = none) (j : SlotId) (p : Role) (hp : s.role j = some p) : p.key ≠ k := by
  obtain ⟨q, hq, ha, rfl⟩ := State.role_eq_some.1 hp
  intro hk
  have hno := State.findSlot_eq_none.1 h j q hq
  rw [ha, Bool.true_and] at hno
  exact beq_eq_false_iff_ne.1 hno hk

theorem State.freeSlot_spec (h : s.freeSlot? = some i) : s.record i = none := by
  simpa using List.find?_some h

theorem Closes.freeExportedWith (s : State) (k : Key) : Closes L s (s.freeExportedWith k) := by
  unfold State.freeExportedWith
  generalize allSlots = is
  induction is generalizing s with
  | nil => exact .refl s
  | cons i is ih =>
    refine Closes.trans ?_ (ih _)
    dsimp only
    split
    · exact .refl s
    · split
      · exact .free s i
      · exact .refl s

theorem Closes.takeSlot (s : State) : Closes L s s.takeSlot.1 := by
  unfold State.takeSlot
  split
  · exact .refl s
  · split
    · exact .refl s
    · exact .free s _

theorem State.record_freeRecord_none (s : State) (i : SlotId) : (s.freeRecord i).record i = none := by
  cases hr : s.record i with
  | none => rwa [State.freeRecord_of_none hr]
  | some r => exact State.record_freeRecord_same hr

theorem State.takeSlot_free (h : s.takeSlot.2 = some i) : s.takeSlot.1.record i = none := by
  unfold State.takeSlot at h ⊢
  split at h
  · next j hj =>
    rw [← Option.some.inj h]
    exact State.freeSlot_spec hj
  · split at h
    · exact nomatch h
    · next j rest _ =>
      rw [← Option.some.inj h]
      exact s.record_freeRecord_none j

/-- What an opening of key k on cell c needs of the roles: the key is no active record's, and the cell has no OPEN one. -/
def State.opensFor (s : State) (c : CellId) (k : Key) : Prop :=
  ∀ j p, s.role j = some p → p.key ≠ k ∧ (p.state = .opened → p.cell ≠ c)

theorem State.rolesWithin.opensFor (h : s.rolesWithin t) (hs : s.opensFor c k) : t.opensFor c k := fun j p hp => by
  obtain ⟨p', hp', hkey, hcell, hopen⟩ := h j p hp
  obtain ⟨hk, ho⟩ := hs j p' hp'
  exact ⟨fun he => hk (hkey.trans he), fun hst he => ho (hopen hst) (hcell.trans he)⟩

theorem State.opensFor.records (h : s.opensFor c k) (j : SlotId) (q : Record) (hq : s.record j = some q)
    (ha : q.isActive = true) : q.key ≠ k ∧ (q.state = .opened → q.cell ≠ c) := h j q.role (State.role_of_active hq ha)

theorem State.openFresh_acts (ho : L → s.opensFor c k) (wanted : Option (Fin 8)) {lb : BankId}
    (hlive : (s.bank lb).state = .live) : Acts L s (s.openFresh c k wanted lb).1 := by
  have hfree := Closes.freeExportedWith (L := L) s k
  unfold State.openFresh
  generalize s.freeExportedWith k = s1 at hfree ⊢
  have hslot := hfree.trans (Closes.takeSlot s1)
  have hspec : ∀ i, s1.takeSlot.2 = some i → s1.takeSlot.1.record i = none := fun i => State.takeSlot_free
  dsimp only
  split
  · exact hfree.acts.tail (.raise _ _)
  · next recipe _ =>
    generalize s1.takeSlot = ts at hslot hspec ⊢
    obtain ⟨s2, o⟩ := ts
    cases o with
    | none => exact hslot.acts.tail (.raise _ _)
    | some i =>
      exact hslot.acts.tail (.opening s2 i c k recipe lb (hspec i rfl) (hslot.live lb hlive) fun hl =>
        (hslot.roles.opensFor (ho hl)).records)

/-- An opening in the order of R82. -/
theorem State.openWafer_acts (hL : L → s.directoryLaw) (hk : s.activeWith k = none) (c : CellId)
    (wanted : Option (Fin 8)) {lb : BankId} (hlive : (s.bank lb).state = .live) :
    Acts L s (s.openWafer c k wanted lb).1 := by
  have hseal := Closes.sealIf (L := L) s (s.closingOn c) .forced
  obtain ⟨hclose, hnone⟩ := State.closeOpen_closes (hseal.acts.directoryLaw hL) c .nextWafer
    (s.sealIf (s.closingOn c) .forced).time
  have hrun := hseal.trans hclose
  have hopens : L → State.opensFor _ c k := fun hl j p hp => by
    obtain ⟨p', hp', hkey, -, -⟩ := hrun.roles j p hp
    exact ⟨fun he => State.activeWith_none hk j p' hp' (hkey.trans he), hnone hl j p hp⟩
  unfold State.openWafer
  simp only
  generalize hs2 : (s.sealIf (s.closingOn c) .forced).closeOpen c .nextWafer (s.sealIf (s.closingOn c) .forced).time = s2
  rw [hs2] at hrun hopens
  split
  · next i hi =>
    obtain ⟨r, hr, hres⟩ := State.findSlot_some hi
    simp only [State.resumable, Bool.and_eq_true, beq_iff_eq] at hres
    obtain ⟨⟨⟨⟨⟨⟨⟨hsealed, hkey⟩, hbank⟩, -⟩, -⟩, -⟩, -⟩, -⟩ := hres
    exact hrun.acts.tail (.resume s2 i r c hr hsealed (State.liveBank_state hbank) fun hl => by
      rw [hkey]
      exact (hopens hl).records)
  · exact hrun.acts.trans (State.openFresh_acts hopens wanted (hrun.live lb hlive))

/-! ## Boundaries (R78 to R81) -/

theorem State.endMarker_acts (hL : L → s.directoryLaw) (c : CellId) (k : Key) : Acts L s (s.endMarker c k).1 := by
  unfold State.endMarker
  split
  · exact .refl
  · next i hi =>
    obtain ⟨r, hr, hp⟩ := State.findSlot_some hi
    simp only [Bool.and_eq_true, beq_iff_eq] at hp
    exact (State.moveToClosing_closes hL hr hp.1.1 _ _).1.acts

theorem State.lotEndMarker_acts (hL : L → s.directoryLaw) (c : CellId) (lot : Word) :
    Acts L s (s.lotEndMarker c lot).1 := by
  unfold State.lotEndMarker
  split
  · exact .refl
  · next i hi =>
    obtain ⟨r, hr, hp⟩ := State.findSlot_some hi
    simp only [Bool.and_eq_true, beq_iff_eq] at hp
    exact (State.moveToClosing_closes hL hr hp.1.1 _ _).1.acts

/-- A move to CLOSING leaves the standing of every slot but its own and the one its cell seals. -/
theorem State.standing_moveToClosing_other (hr : s.record i = some r) (ho : r.state = .opened) {j : SlotId} (hj : j ≠ i)
    (hk : s.closingOn r.cell ≠ some j) (w : CloseReason) (stamp : Word) :
    (s.moveToClosing i w stamp).standing j = s.standing j := by
  obtain ⟨r', hr', -⟩ := State.record_sealClosing hr ho r.cell .forced
  have hseal : (s.sealIf (s.closingOn r.cell) .forced).standing j = s.standing j := by
    cases hc : s.closingOn r.cell with
    | none => rfl
    | some k => exact s.standing_sealSlot_other (fun he => hk (hc.trans (congrArg some he.symm))) _
  rw [State.moveToClosing_of_record hr hr', ← hseal]
  have hclosed : ((s.sealIf (s.closingOn r.cell) .forced).closed i r' w stamp).standing j =
      (s.sealIf (s.closingOn r.cell) .forced).standing j := by
    rw [State.closed, (State.setProgress_changes _ i none).standing (by decide) j, State.standing_setSlot, if_neg hj]
  unfold State.startGrace
  split
  · exact (State.standing_sealSlot_other _ hj none).trans hclosed
  · exact ((State.modCell_changes _ r.cell _).standing (by decide) j).trans hclosed

theorem State.returnToOpen_acts (hL : L → s.directoryLaw) (hr : s.record i = some r) (hc : r.state = .closing) :
    Acts L s (s.returnToOpen r.cell i) := by
  have hcells := Closes.grace (L := L) s r.cell fun _ => none
  have hrec : (s.stopGrace r.cell).record i = some r := ((s.stopGrace_changes r.cell).record i).trans hr
  have hreopen : (s.stopGrace r.cell).modRecord i Record.reopened =
      (s.stopGrace r.cell).setSlot i (some r.reopened) := State.modRecord_of_record hrec _
  have hstart : ∀ {u : State}, Acts L s u → (u.standing i).map Standing.state = some .opened →
      Acts L s (u.startProgress i) := fun hu hst => hu.tail (.startProgress _ i fun q hq => by
    rw [State.standing_of_record hq] at hst
    exact Option.some.inj hst)
  have hopened : (((s.stopGrace r.cell).setSlot i (some r.reopened)).standing i).map Standing.state = some .opened := by
    rw [State.standing_setSlot, if_pos rfl]
    rfl
  unfold State.returnToOpen
  simp only
  rw [hreopen]
  cases ho : s.openOn r.cell with
  | none =>
    exact hstart (hcells.acts.tail (.reopen _ i r hrec hc fun _ j q hq hs =>
      State.openOn_none ho j q (((s.stopGrace_changes r.cell).record j).symm.trans hq) hs)) hopened
  | some j =>
    obtain ⟨q, hq, hqo, hqc⟩ := State.openOn_spec' ho
    have hij : j ≠ i := by
      rintro rfl
      rw [← Option.some.inj (hr.symm.trans hq), hc] at hqo
      exact nomatch hqo
    have hq0 : (s.stopGrace r.cell).record j = some q := ((s.stopGrace_changes r.cell).record j).trans hq
    have hq1 : ((s.stopGrace r.cell).setSlot i (some r.reopened)).record j = some q :=
      (State.record_setSlot_other _ _ hij).trans hq0
    have hnoti : ((s.stopGrace r.cell).setSlot i (some r.reopened)).closingOn q.cell ≠ some i := fun h => by
      have hs := (State.closingOn_spec h (State.record_setSlot_same _ i _)).1
      exact nomatch hs
    refine hstart ?_ (by rw [State.standing_moveToClosing_other hq1 hqo hij.symm hnoti]; exact hopened)
    dsimp only
    cases hk : ((s.stopGrace r.cell).setSlot i (some r.reopened)).closingOn q.cell with
    | none =>
      have hsame : ((s.stopGrace r.cell).setSlot i (some r.reopened)).sealIf
          (((s.stopGrace r.cell).setSlot i (some r.reopened)).closingOn q.cell) .forced =
          (s.stopGrace r.cell).setSlot i (some r.reopened) := by rw [hk]; rfl
      rw [State.moveToClosing_of_record hq1 (by rw [hsame]; exact hq1), hsame]
      exact (hcells.acts.tail (.swap _ i j r q .nextWafer _ hrec hc hq0 hqo hqc)).trans
        (Closes.startGrace _ j q.cell).acts
    | some k =>
      have hno : L → False := fun hl => by
        obtain ⟨p, hp, hps, hpc⟩ := State.closingOn_of_role hk
        have hki : k ≠ i := fun he => hnoti (hk.trans (congrArg some he))
        rw [State.role_reopened, if_neg hki, State.role_congr ((s.stopGrace_changes r.cell).record k)] at hp
        exact hki ((State.recordLaw_iff.1 (hL hl).2).1.unique hp
          (State.role_of_active hr (Record.isActive_iff.2 (.inr hc))) (hpc.trans hqc) (hps.trans hc.symm))
      exact (hcells.acts.tail (.reopen _ i r hrec hc fun hl => (hno hl).elim)).trans
        (State.moveToClosing_closes (fun hl => (hno hl).elim) hq1 hqo _ _).1.acts

theorem State.beginMarker_acts (hL : L → s.directoryLaw) (c : CellId) (k : Key) (wanted : Option (Fin 8)) {lb : BankId}
    (hlive : (s.bank lb).state = .live) : Acts L s (s.beginMarker c k wanted lb).1 := by
  unfold State.beginMarker
  split
  · next i hi =>
    obtain ⟨r, hr, hp⟩ := State.findSlot_some hi
    rw [hr]
    simp only
    split
    · exact (Act.raise _ _).run
    · next hcell =>
      split
      · exact .refl
      · next ho =>
        simp only [Bool.and_eq_true] at hp
        have hc : r.state = .closing := (Record.isActive_iff.1 hp.1).resolve_left ho
        rw [← not_not.1 hcell]
        exact State.returnToOpen_acts hL hr hc
  · next hk => exact State.openWafer_acts hL hk c wanted hlive

/-! ## The resolution of a touchdown's key (R88) -/

theorem State.findSlot_none_of {p q : Record → Bool} (h : s.findSlot p = none) (hpq : ∀ r, q r = true → p r = true) :
    s.findSlot q = none :=
  State.findSlot_eq_none.2 fun i r hr => Bool.eq_false_iff.2 fun hq =>
    Bool.false_ne_true ((State.findSlot_eq_none.1 h i r hr).symm.trans (hpq r hq))

theorem State.resolveKey_acts (hL : L → s.directoryLaw) (c : CellId) (k : Key) {lb : BankId}
    (hlive : (s.bank lb).state = .live) : Acts L s (s.resolveKey c k lb).1 := by
  unfold State.resolveKey
  split
  · split
    · exact .refl
    · split
      · exact .refl
      · exact (Act.raise _ _).run
  · next hk =>
    split
    · have hlate : Act L s (s.countLate c) :=
        .cells (s.modCell_changes c _) (s.modCell_portsKept c (fun _ => rfl) fun _ => rfl)
      exact hlate.run.tail (.raise _ _)
    · exact State.openWafer_acts hL hk c none hlive

end

end Sys2Proof.Machine

/-! SUPPORT. The engine's and the ports' commands are runs of moves: a touchdown's entries, the tests behind it, markers,
the forwarded copies, and what the ports admit (R5 to R19, R56 to R69). -/

namespace Sys2Proof.Machine

set_option Elab.async false

/-! ## A touchdown in its record (R57 to R65) -/

section

variable {L : Prop} {s t : State} {i : SlotId} {r : Record} {c : CellId}

/-- A change of a record that no law reads. -/
theorem Acts.modRecord (s : State) (i : SlotId) {f : Record → Record} (hs : ∀ r, (f r).standing = r.standing)
    (ho : ∀ r, (f r).flags.summaryOwed = r.flags.summaryOwed) : Acts L s (s.modRecord i f) := by
  cases hr : s.record i with
  | none =>
    rw [State.modRecord, hr]
  | some r =>
    rw [State.modRecord_of_record hr]
    exact (Act.note s i r _ hr (hs r) (ho r)).run

theorem Acts.raiseAll (s : State) (as : List Alert) : Acts L s (s.raiseAll as) := by
  induction as generalizing s with
  | nil => exact .refl
  | cons a as ih => exact Relation.ReflTransGen.head (.raise s a) (ih _)

/-- A change of one cell that leaves its FIFO and its flow state. -/
theorem Acts.modCell (s : State) (c : CellId) {f : Cell → Cell} (hfifo : ∀ k, (f k).fifo = k.fifo)
    (hflow : ∀ k, (f k).flow = k.flow) : Acts L s (s.modCell c f) :=
  (Act.cells (s.modCell_changes c f) (s.modCell_portsKept c hfifo hflow)).run

theorem Moves.modCell (s : State) (c : CellId) {f : Cell → Cell} (hfifo : ∀ k, (f k).fifo = k.fifo)
    (hflow : ∀ k, (f k).flow = k.flow) : Moves L s (s.modCell c f) := (Acts.modCell s c hfifo hflow).moves

theorem Acts.siteRun (s : State) (c : CellId) (k : Fin 16) (cls : BinClass) (limit : Nat) :
    Acts L s (s.siteRun c k cls limit) := by
  have hfault : ∀ cls, cls = .fail ∨ cls = .recheck → Acts L s (s.siteRun c k cls limit) := fun cls h => by
    have hcount : Acts L s (s.runCounted c k) := .modCell s c (fun _ => rfl) fun _ => rfl
    rw [State.siteRun_of_fault h]
    split
    · have hmark : Acts L (s.runCounted c k) (s.marked c k) := .modCell _ c (fun _ => rfl) fun _ => rfl
      exact (hcount.trans hmark).tail (.raise _ _)
    · exact hcount
  cases cls with
  | void => exact .refl
  | pass =>
    rw [State.siteRun]
    exact .modCell s c (fun _ => rfl) fun _ => rfl
  | fail => exact hfault _ (.inl rfl)
  | recheck => exact hfault _ (.inr rfl)

theorem Record.countStopped_kept (r : Record) (v : Verdict) :
    (r.countStopped v).standing = r.standing ∧ (r.countStopped v).flags.summaryOwed = r.flags.summaryOwed := by
  unfold Record.countStopped
  split <;> exact ⟨rfl, rfl⟩

/-- An entry that no site check stops is below the result cap. -/
theorem below_cap_of_siteCheck {rc : Recipe} {dies : List (Half × Half)} {e : SiteEntry}
    (h : siteCheck r rc dies e = none) : r.counts.t.toNat + r.counts.r.toNat < 1048575 := by
  unfold siteCheck at h
  split at h
  · exact nomatch h
  · split at h
    · exact nomatch h
    · split at h
      · exact nomatch h
      · split at h
        · exact nomatch h
        · next hcap =>
          simp only [Record.atCap, decide_eq_true_eq, not_le] at hcap
          exact hcap

theorem Progress.entry_acts (c : CellId) (i : SlotId) (p : Progress) (e : SiteEntry) :
    Acts L p.state (p.entry c i e).state := by
  unfold Progress.entry
  split
  · exact .refl
  · next r hr =>
    dsimp only
    split
    · next v _ =>
      obtain ⟨hs, ho⟩ := r.countStopped_kept v
      exact (Act.note p.state i r _ hr hs ho).run
    · next hcheck =>
      exact (Act.resolve p.state i r _ hr (below_cap_of_siteCheck hcheck)).run.trans (Acts.siteRun _ c _ _ _)

theorem State.collate_acts (s : State) (c : CellId) (i : SlotId) (td : Touchdown) (gap : Half) :
    Acts L s (s.collate c i td gap).state := by
  have hfold : ∀ (es : List SiteEntry) (p : Progress), Acts L p.state (es.foldl (Progress.entry c i) p).state := by
    intro es
    induction es with
    | nil => exact fun p => .refl
    | cons e es ih => exact fun p => (p.entry_acts c i e).trans (ih _)
  have hgap : Acts L s (s.addGap i gap) := by
    rw [State.addGap]
    exact .modRecord s i (fun _ => rfl) fun _ => rfl
  exact hgap.trans (hfold td.entries { state := s.addGap i gap, dies := [], notes := [] })

theorem Record.summaryOwed_checked (r : Record) (rc : Recipe) :
    (r.checked rc).flags.summaryOwed = r.flags.summaryOwed := by
  simp only [Record.checked, Record.updateOverGross_eq]

theorem State.checkpointTest_acts (s : State) (i : SlotId) : Acts L s (s.checkpointTest i) := by
  cases hr : s.record i with
  | none =>
    rw [State.checkpointTest_of_none hr]
  | some r =>
    rw [State.checkpointTest_of_record hr]
    have hnote := Act.note (L := L) s i r _ hr (r.standing_checked (s.recipeOf r)) (r.summaryOwed_checked (s.recipeOf r))
    exact hnote.run.trans (Acts.raiseAll _ _)

theorem State.sealAtCap_acts (s : State) (i : SlotId) : Acts L s (s.sealAtCap i) := by
  unfold State.sealAtCap
  split
  · exact .refl
  · split
    · exact (Act.sealing s i _).run
    · exact .refl

/-! ## The handling of a taken frame (R56, R67, R69) -/

/-- The FWD queue has room for a frame that will be forwarded. -/
def State.roomFor (s : State) (forwarded : Bool) : Prop := forwarded = true → s.hall.fwd.length < 64

theorem Acts.roomFor {b : Bool} (h : Acts L s t) (hs : s.roomFor b) : t.roomFor b := fun hb => by
  rw [h.queuesKept.fwd]
  exact hs hb

theorem State.forward_moves (f : OutFrame) (h : s.hall.fwd.length < 64) : Moves L s (s.forward f) :=
  (Move.hall (t := s.forward f) (s.withHall_changes _) (fun h => h) (fun _ => by
    rw [State.forward, State.withHall_hall]
    rw [List.length_append, List.length_singleton]
    omega) fun h => h).run

/-- From s to t a taken frame is handled: a run of acts, and then at most its copy joins the FWD queue (R56). -/
def Handles (L : Prop) (forwarded : Bool) (s t : State) : Prop :=
  ∃ u, Acts L s u ∧ (t = u ∨ forwarded = true ∧ ∃ f, t = u.forward f)

theorem Handles.forwardIf {b : Bool} (h : Acts L s t) (f : OutFrame) :
    Handles L b s (if b = true then t.forward f else t) := by
  split
  · next hb => exact ⟨t, h, .inr ⟨hb, f, rfl⟩⟩
  · exact ⟨t, h, .inl rfl⟩

theorem Handles.moves {b : Bool} (h : Handles L b s t) (hs : s.roomFor b) : Moves L s t := by
  obtain ⟨u, hacts, rfl | ⟨hb, f, rfl⟩⟩ := h
  · exact hacts.moves
  · exact hacts.moves.trans (State.forward_moves f (hacts.roomFor hs hb))

theorem Handles.portsKept {b : Bool} (h : Handles L b s t) : s.portsKept t := by
  obtain ⟨u, hacts, rfl | ⟨-, f, rfl⟩⟩ := h
  · exact hacts.queuesKept.ports
  · exact hacts.queuesKept.ports.trans (u.withHall_changes _).portsKept

theorem State.boundTouchdown_handles (s : State) (b : Bool) (c : CellId) (i : SlotId) (route : Byte) (td : Touchdown)
    (gap : Half) : Handles L b s (s.boundTouchdown c i b route td gap) :=
  .forwardIf (((s.collate_acts c i td gap).trans (State.checkpointTest_acts _ i)).trans (State.sealAtCap_acts _ i)) _

theorem State.classifyTouchdown_handles (hL : L → s.directoryLaw) (b : Bool) (c : CellId) {lb : BankId}
    (hlive : (s.bank lb).state = .live) (route : Byte) (td : Touchdown) (gap : Half) :
    Handles L b s (s.classifyTouchdown c lb b route td gap) := by
  have hacts := State.resolveKey_acts hL c td.key hlive
  unfold State.classifyTouchdown
  dsimp only
  split
  · obtain ⟨u, hrest, hfwd⟩ := State.boundTouchdown_handles (L := L) (s.resolveKey c td.key lb).1 b c _ route td gap
    exact ⟨u, hacts.trans hrest, hfwd⟩
  · exact .forwardIf hacts _

theorem State.deliver_acts (hL : L → s.directoryLaw) (c : CellId) {lb : BankId} (hlive : (s.bank lb).state = .live)
    (m : Marker) : Acts L s (s.deliver c lb m).1 := by
  unfold State.deliver
  split
  · exact State.beginMarker_acts hL c m.key m.wanted hlive
  · split
    · exact State.endMarker_acts hL c m.key
    · split
      · exact State.lotEndMarker_acts hL c m.key.lot
      · exact .refl

theorem State.collatingBank_live {m : Mode} {lb : BankId} (h : s.collatingBank m = some lb) :
    (s.bank lb).state = .live := by
  unfold State.collatingBank at h
  split at h
  · exact State.liveBank_state h
  · exact nomatch h

theorem State.handleFrame_handles (hL : L → s.directoryLaw) (c : CellId) (m : Mode) (e : FifoEntry) :
    Handles L m.forwards s (s.handleFrame c m e) := by
  cases e with
  | touchdown route td gap =>
    cases hb : s.collatingBank m with
    | none =>
      simp only [State.handleFrame, hb]
      exact .forwardIf .refl _
    | some lb =>
      simp only [State.handleFrame, hb]
      exact State.classifyTouchdown_handles hL _ c (State.collatingBank_live hb) route td gap
  | marker route m0 =>
    cases hb : s.collatingBank m with
    | none =>
      simp only [State.handleFrame, hb]
      exact .forwardIf .refl _
    | some lb =>
      simp only [State.handleFrame, hb]
      exact .forwardIf (State.deliver_acts hL c (State.collatingBank_live hb) m0) _

/-! ## The ports (R5 to R15, R19) -/

theorem State.cell_popFifo (s : State) (c d : CellId) : (s.popFifo c).cell d =
    if d = c then { s.cell c with
      fifo := (s.cell c).fifo.tail
      flow := if (s.cell c).flow = .hold ∧ (s.cell c).fifo.tail.length = 8 then .go else (s.cell c).flow }
    else s.cell d := by
  unfold State.popFifo
  dsimp only
  rw [State.cell_modCell_same]
  have hcap : Config.goAt = 8 := rfl
  rw [hcap]
  split
  · next h =>
    rw [State.cell_setFlow, State.cell_modCell]
    by_cases hd : d = c
    · simp only [hd, if_true]
    · simp only [hd, if_false]
  · rw [State.cell_modCell]

theorem Cell.flowLaw_pop {k : Cell} (h : k.flowLaw) : Cell.flowLaw { k with
    fifo := k.fifo.tail
    flow := if k.flow = .hold ∧ k.fifo.tail.length = 8 then .go else k.flow } := by
  obtain ⟨hgo, hhold⟩ := h
  unfold Cell.flowLaw
  simp only [List.length_tail]
  cases hf : k.flow with
  | go =>
    simp only [reduceCtorEq, false_and, if_false, forall_const, false_imp_iff, and_true]
    have := hgo hf
    omega
  | hold =>
    have := hhold hf
    simp only [true_and]
    split
    · simp only [forall_const, reduceCtorEq, false_imp_iff, and_true]
      omega
    · simp only [reduceCtorEq, false_imp_iff, forall_const, true_and]
      omega

theorem State.popFifo_moves (s : State) (c : CellId) : Moves L s (s.popFifo c) :=
  (Move.port (s.popFifo_changes c) fun d hd => by
    rw [State.cell_popFifo]
    split
    · next h => rw [h] at hd; exact Cell.flowLaw_pop hd
    · exact hd).run

theorem Cell.flowLaw_push {k : Cell} (h : k.flowLaw) (hroom : k.fifo.length < 16) (e : FifoEntry) :
    Cell.flowLaw { k with fifo := k.fifo ++ [e], flow := k.flowAfterPush } := by
  obtain ⟨hgo, hhold⟩ := h
  unfold Cell.flowLaw Cell.flowAfterPush Cell.fills
  simp only [List.length_append, List.length_singleton, decide_eq_true_eq]
  cases hf : k.flow with
  | go =>
    have := hgo hf
    by_cases hfull : k.fifo.length = 11
    · simp [hfull]
    · simp only [hfull, and_false, if_false, forall_const, reduceCtorEq, false_imp_iff, and_true]
      omega
  | hold =>
    have := hhold hf
    simp only [reduceCtorEq, false_and, if_false, false_imp_iff, forall_const, true_and]
    omega

theorem State.pushFifo_moves (s : State) (c : CellId) (e : FifoEntry) (h : (s.cell c).fifo.length < 16) :
    Moves L s (s.pushFifo c e) :=
  (Move.port (s.pushFifo_changes c e) fun d hd => by
    by_cases hdc : d = c
    · rw [hdc] at hd ⊢
      rw [State.cell_pushFifo]
      exact Cell.flowLaw_push hd h e
    · rw [State.pushFifo_cellsKeptBut s c e d hdc]
      exact hd).run

theorem State.setFaultCounts_acts (s : State) (c : CellId) (v : PortCounts) : Acts L s (s.setFaultCounts c v) := by
  have hset : Acts L s (s.modCell c fun k => { k with counts := v }) := .modCell s c (fun _ => rfl) fun _ => rfl
  unfold State.setFaultCounts
  dsimp only
  split
  · exact hset.tail (.raise _ _)
  · exact hset

theorem State.admitTouchdown_moves (s : State) (c : CellId) (route : Byte) (td : Touchdown)
    (h : (s.cell c).fifo.length < 16) : Moves L s (s.admitTouchdown c route td) := by
  unfold State.admitTouchdown
  dsimp only
  generalize hgap : gapOf (s.cell c).tracker td.seq = gap
  have hadmit : Moves L s ((s.pushFifo c (.touchdown route td gap)).modCell c fun k => { k with tracker := some td.seq }) :=
    (s.pushFifo_moves c _ h).trans (Moves.modCell _ c (fun _ => rfl) fun _ => rfl)
  generalize (s.pushFifo c (.touchdown route td gap)).modCell c _ = t at hadmit ⊢
  split
  · exact hadmit
  · have hcount : Moves L t (t.modCell c fun k =>
        { k with counts := { k.counts with gap := satAdd k.counts.gap gap.toNat } }) :=
      .modCell t c (fun _ => rfl) fun _ => rfl
    exact (hadmit.trans hcount).tail (.act (.raise _ _))

theorem State.offer_moves (s : State) (c : CellId) (route : Byte) (f : TesterFrame) : Moves L s (s.offer c route f) := by
  unfold State.offer
  split
  · have hcount : Acts L s (s.modCell c fun k =>
        { k with counts := { k.counts with overrun := satAdd k.counts.overrun 1 } }) :=
      .modCell s c (fun _ => rfl) fun _ => rfl
    exact Acts.moves (hcount.tail (.raise _ _))
  · next hfull =>
    have hroom : (s.cell c).fifo.length < 16 := Nat.not_le.1 hfull
    split
    · exact State.pushFifo_moves s c _ hroom
    · next td =>
      split
      · exact .modCell s c (fun _ => rfl) fun _ => rfl
      · exact s.admitTouchdown_moves c route td hroom

theorem State.receiveCell_moves (s : State) (c : CellId) (bs : List Byte) : Moves L s (s.receiveCell c bs) := by
  unfold State.receiveCell
  split
  · exact (s.setFaultCounts_acts c _).moves
  · exact (s.setFaultCounts_acts c _).moves
  · split
    · exact (s.setFaultCounts_acts c _).moves
    · exact s.offer_moves c _ _

theorem State.setRxOpen_moves (s : State) (c : CellId) (b : Bool) : Moves L s (s.setRxOpen c b) := by
  rw [State.setRxOpen]
  exact .modCell s c (fun _ => rfl) fun _ => rfl

end

/-! ## The engine's take (R17 to R19) -/

theorem Moves.directoryLaw {L : Prop} {s t : State} (h : Moves L s t) (hs : L → s.directoryLaw) : L → t.directoryLaw :=
  fun hL => h.keeps (fun _ _ hm => hm.directoryLaw hL) (hs hL)

theorem State.eligible_roomFor {s : State} {c : CellId} (h : s.eligible c = true) :
    s.roomFor (s.cell c).cfg.mode.forwards := fun hf => by
  have hcap : Config.fwdCap = 64 := rfl
  rw [State.eligible, Bool.and_eq_true] at h
  cases hm : (s.cell c).cfg.mode <;> simp [hm, hcap, Mode.forwards] at h hf ⊢ <;> exact h.2

theorem State.nextCell_eligible {s : State} {c : CellId} (h : s.nextCell = some c) : s.eligible c = true :=
  List.find?_some h

theorem State.takeFrom_moves {L : Prop} {s : State} {c : CellId} (hL : L → s.directoryLaw) (h : s.eligible c = true) :
    Moves L s (s.takeFrom c) := by
  have hport : Moves L s ((s.popFifo c).withEngine c) :=
    (s.popFifo_moves c).tail (.act (.aside ((s.popFifo c).withEngine_changes c).mono))
  have hroom := State.eligible_roomFor h
  unfold State.takeFrom
  split
  · exact .refl
  · refine hport.trans ((State.handleFrame_handles (hport.directoryLaw hL) c _ _).moves fun hf => ?_)
    rw [((s.popFifo_changes c).mono.trans ((s.popFifo c).withEngine_changes c).mono
      (bs := [.cells, .sent, .engine])).hall]
    exact hroom hf

end Sys2Proof.Machine

/-! SUPPORT. The commands of the lines, the time count and the hall link are runs of moves (R24 to R31, R76, R92, R153 to
R177). -/

namespace Sys2Proof.Machine

set_option Elab.async false

section

variable {L : Prop} {s t : State} {c : CellId}

/-! ## The prober lines (R24 to R30) -/

theorem Acts.setLine (s : State) (c : CellId) (l : Line) (v : InputLine) : Acts L s (s.setLine c l v) := by
  have hfifo : ∀ k : Cell, (k.setLine l v).fifo = k.fifo := fun k => by cases l <;> rfl
  have hflow : ∀ k : Cell, (k.setLine l v).flow = k.flow := fun k => by cases l <;> rfl
  exact .modCell s c hfifo hflow

theorem State.activeEdge_acts (hL : L → s.directoryLaw) (c : CellId) (l : Line) : Acts L s (s.activeEdge c l) := by
  cases l with
  | load =>
    rw [State.activeEdge]
    exact .modCell s c (fun _ => rfl) fun _ => rfl
  | unload =>
    have hstamp : Acts L s (s.modCell c fun k => { k with lastUnload := some s.time }) :=
      .modCell s c (fun _ => rfl) fun _ => rfl
    exact hstamp.trans (State.closeOpen_closes (hstamp.directoryLaw hL) c .unload s.time).1.acts

theorem State.recognize_acts (hL : L → s.directoryLaw) (c : CellId) (l : Line) (v : Level) :
    Acts L s (s.recognize c l v) := by
  have hset := Acts.setLine (L := L) s c l { pin := v, recognized := v, candidate := none }
  unfold State.recognize
  dsimp only
  split
  · exact hset.trans (State.activeEdge_acts (hset.directoryLaw hL) c l)
  · exact hset

theorem State.recognizeDue_acts (hL : L → s.directoryLaw) (c : CellId) (l : Line) : Acts L s (s.recognizeDue c l) := by
  unfold State.recognizeDue
  split
  · exact .refl
  · split
    · exact State.recognize_acts hL c l _
    · exact .refl

theorem State.rawChange_acts (hL : L → s.directoryLaw) (c : CellId) (l : Line) (v : Level) :
    Acts L s (s.rawChange c l v) := by
  unfold State.rawChange
  dsimp only
  split
  · exact .refl
  · split
    · exact .setLine s c l _
    · split
      · exact State.recognize_acts hL c l v
      · exact .setLine s c l _

/-! ## Timers and the millisecond step (R26, R31, R76, R162) -/

theorem State.graceDue_acts (s : State) (c : CellId) : Acts L s (s.graceDue c) := by
  have hstop : Acts L s (s.stopGrace c) := .modCell s c (fun _ => rfl) fun _ => rfl
  unfold State.graceDue State.graceExpire
  split
  · exact .refl
  · split
    · split
      · exact hstop
      · exact hstop.tail (.sealing _ _ none)
    · exact .refl

theorem State.progressDue_acts (s : State) (i : SlotId) : Acts L s (s.progressDue i) := by
  unfold State.progressDue
  split
  · exact .refl
  · next m hm =>
    split
    · exact (Act.progressExpire s i (hm ▸ nofun)).run
    · exact .refl

theorem Acts.foldl {α : Type} {f : State → α → State} (hf : ∀ s a, (L → s.directoryLaw) → Acts L s (f s a)) (as : List α)
    (hL : L → s.directoryLaw) : Acts L s (as.foldl f s) := by
  induction as generalizing s with
  | nil => exact .refl
  | cons a as ih => exact (hf s a hL).trans (ih ((hf s a hL).directoryLaw hL))

theorem State.settle_acts (hL : L → s.directoryLaw) : Acts L s s.settle := by
  have hlines : Acts L s (allCells.foldl (fun s c => (s.recognizeDue c .load).recognizeDue c .unload) s) :=
    .foldl (fun u c hu => (State.recognizeDue_acts hu c .load).trans
      (State.recognizeDue_acts ((State.recognizeDue_acts hu c .load).directoryLaw hu) c .unload)) _ hL
  have hgrace := Acts.foldl (f := State.graceDue) (fun u c _ => u.graceDue_acts (L := L) c) allCells (hlines.directoryLaw hL)
  have hboth : Acts L s (allCells.foldl State.graceDue _) := hlines.trans hgrace
  exact hboth.trans (Acts.foldl (fun u i _ => u.progressDue_acts i) allSlots (hboth.directoryLaw hL))

theorem State.tick_acts (s : State) : Acts L s s.tick := by
  have htime : Acts L s (s.withTime (s.time + 1)) := (Act.aside (s.withTime_changes _).mono).run
  have hcells : Acts L (s.withTime (s.time + 1)) ((s.withTime (s.time + 1)).withCells (s.cells.map Cell.tick)) :=
    (Act.cells (State.withCells_changes _ _) fun c => by
      have hc : ((s.withTime (s.time + 1)).withCells (s.cells.map Cell.tick)).cell c = (s.cell c).tick :=
        Vector.getElem_map _ c.isLt
      rw [hc]
      exact ⟨rfl, rfl⟩).run
  refine (htime.trans hcells).tail (.timers _ _ fun i hi => ?_)
  rw [Vector.getElem_map] at hi
  exact fun hnone => hi (congrArg (Option.map Timer.tick) hnone)

/-! ## The hall port's own changes (R158, R176) -/

/-- A change of the hall port in which no queue grows. -/
theorem Moves.hallShrinks (s : State) (v : HallPort) (hresp : v.resp.length ≤ s.hall.resp.length)
    (hfwd : v.fwd.length ≤ s.hall.fwd.length) (hrx : v.rx.fifo.length ≤ s.hall.rx.fifo.length) :
    Moves L s (s.withHall v) :=
  (Move.hall (s.withHall_changes v) hresp.trans hfwd.trans hrx.trans).run

theorem HallRx.length_join {x : HallRx} (e : RxEntry) (h : x.fifo.length ≤ 4) : (x.join e).fifo.length ≤ 4 := by
  have hcap : Config.rxCap = 4 := rfl
  unfold HallRx.join
  split
  · next hroom =>
    rw [List.length_append, List.length_singleton]
    omega
  · exact h

theorem State.length_receiveHall (s : State) (bs : List Byte) (h : s.hall.rx.fifo.length ≤ 4) :
    (s.receiveHall bs).fifo.length ≤ 4 := by
  unfold State.receiveHall
  dsimp only
  split
  · exact h
  · exact h
  · split
    · exact h
    · split
      · exact HallRx.length_join _ h
      · exact h

theorem State.setRx_moves (s : State) (v : HallRx) (h : s.hall.rx.fifo.length ≤ 4 → v.fifo.length ≤ 4) :
    Moves L s (s.setRx v) :=
  (Move.hall (t := s.setRx v) (s.withHall_changes _) (fun h => h) (fun h => h) h).run

/-! ## The arbiter's take (R154 to R156, R161, R170, R171) -/

theorem State.send_moves (s : State) (st : Stream) (f : OutFrame) (a : TxAction) : Moves L s (s.send st f a) :=
  .hallShrinks s _ (Nat.le_refl _) (Nat.le_refl _) (Nat.le_refl _)

theorem State.pointTo_moves (s : State) (st : Stream) : Moves L s (s.pointTo st) :=
  .hallShrinks s _ (Nat.le_refl _) (Nat.le_refl _) (Nat.le_refl _)

theorem State.takeResp_moves (s : State) : Moves L s s.takeResp := by
  unfold State.takeResp
  split
  · exact .refl
  · next f rest h =>
    have htake : Moves L s (s.withHall { s.hall with resp := rest }) :=
      .hallShrinks s _ (h ▸ Nat.le_succ _) (Nat.le_refl _) (Nat.le_refl _)
    exact htake.trans (State.send_moves _ _ _ _)

theorem State.takeAlert_moves (s : State) : Moves L s s.takeAlert := by
  unfold State.takeAlert
  split
  · exact .refl
  · next e rest h =>
    have htake : Moves L s (s.withAlerts { s.alerts with queue := rest }) :=
      (Move.act (.alerts (s.withAlerts_changes _) (h ▸ List.sublist_cons_self e rest))).run
    exact htake.trans (State.send_moves _ _ _ _)

theorem State.takeFwd_moves (s : State) : Moves L s s.takeFwd := by
  unfold State.takeFwd
  split
  · exact .refl
  · next f rest h =>
    have htake : Moves L s (s.withHall { s.hall with fwd := rest }) :=
      .hallShrinks s _ (Nat.le_refl _) (h ▸ Nat.le_succ _) (Nat.le_refl _)
    exact htake.trans (State.send_moves _ _ _ _)

theorem State.takeSum_moves (s : State) : Moves L s s.takeSum := by
  unfold State.takeSum
  split
  · exact .refl
  · next e rest h =>
    exact (Move.act (.takeSum s e rest h)).run.trans (State.send_moves _ _ _ _)

theorem State.raiseUnstable_acts (s : State) (d : Dump) : Acts L s (s.raiseUnstable d) := by
  unfold State.raiseUnstable
  split
  · exact .refl
  · exact (Act.raise s _).run

theorem State.raiseUnstable_xport (s : State) (d : Dump) : (s.raiseUnstable d).xport = s.xport := by
  unfold State.raiseUnstable
  split
  · rfl
  · exact (s.raise_changes _).xport

theorem State.takeRow_moves (h : s.xport.dump ≠ none) (d : Dump) : Moves L s (s.takeRow d) :=
  (Move.act (.dump s _ h)).run.trans (State.send_moves _ _ _ _)

theorem State.takeEnd_moves (h : s.xport.dump ≠ none) (d : Dump) : Moves L s (s.takeEnd d) :=
  (Move.act (.endDump s h)).run.trans (State.send_moves _ _ _ _)

theorem State.takeMapFrame_moves (h : s.xport.dump ≠ none) (d : Dump) : Moves L s (s.takeMapFrame d) := by
  unfold State.takeMapFrame
  split
  · exact State.takeEnd_moves h d
  · split
    · exact State.takeRow_moves h d
    · split
      · exact State.takeEnd_moves h d
      · split
        · exact State.takeRow_moves h _
        · exact (s.raiseUnstable_acts d).moves.trans
            (State.takeEnd_moves (by rw [State.raiseUnstable_xport]; exact h) _)

theorem State.takeStream_moves (s : State) (st : Stream) : Moves L s (s.takeStream st) := by
  cases st with
  | resp => exact s.takeResp_moves
  | alert => exact s.takeAlert_moves
  | fwd => exact s.takeFwd_moves
  | sum => exact s.takeSum_moves
  | map =>
    rw [State.takeStream, State.takeMap]
    split
    · exact .refl
    · next d hd => exact State.takeMapFrame_moves (hd ▸ nofun) d

/-! ## Completions (R92, R166, R171, R173) -/

theorem State.finalDone_acts (s : State) (i : SlotId) : Acts L s (s.finalDone i) := by
  unfold State.finalDone
  split
  · exact .refl
  · next r hr =>
    split
    · exact .refl
    · split
      · next h => exact (Act.chainMap s i r hr h.2).run
      · exact (Act.exportStep s i).run

theorem State.rowDone_acts (s : State) : Acts L s s.rowDone := by
  unfold State.rowDone
  split
  · exact .refl
  · next d hd =>
    have h : s.xport.dump ≠ none := hd ▸ nofun
    split
    · exact .refl
    · split
      · exact (Act.dump s _ h).run
      · exact (s.raiseUnstable_acts d).tail (.dump _ _ (by rw [State.raiseUnstable_xport]; exact h))

theorem State.endDone_acts (s : State) (i : SlotId) (aborted : Bool) : Acts L s (s.endDone i aborted) := by
  unfold State.endDone
  split
  · exact .refl
  · next r hr =>
    split
    · exact .refl
    · split
      · exact (Act.exportStep s i).run
      · split
        · next h => exact (Act.chainMap s i r hr h).run
        · exact .refl

theorem State.complete_acts (s : State) (a : TxAction) : Acts L s (s.complete a) := by
  cases a with
  | nothing => exact .refl
  | final i => exact s.finalDone_acts i
  | mapRow => exact s.rowDone_acts
  | mapEnd i b => exact s.endDone_acts i b

end

/-! ## The commands that are no requests -/

/-- A command's next state is reached by a run of moves. -/
def runsAsMoves (i : Instr) (s : State) : Prop := ∃ t, exec i s = .next t ∧ Moves s.directoryLaw s t

section

variable (s : State) (c : CellId)

theorem cellFrameReception_runs (bs : List Byte) : runsAsMoves (.cellFrameReception c bs) s := by
  change ∃ t, execCellFrameReception c bs s = .next t ∧ _
  unfold execCellFrameReception
  split
  · exact ⟨s, rfl, .refl⟩
  · exact ⟨_, rfl, (s.setRxOpen_moves c false).trans (State.receiveCell_moves _ c bs)⟩

theorem cellOpenFrameDiscard_runs (cause : DiscardCause) : runsAsMoves (.cellOpenFrameDiscard c cause) s := by
  change ∃ t, execCellOpenFrameDiscard c cause s = .next t ∧ _
  unfold execCellOpenFrameDiscard
  split
  · exact ⟨s, rfl, .refl⟩
  · exact ⟨_, rfl, (s.setRxOpen_moves c _).trans (State.setFaultCounts_acts _ c _).moves⟩

theorem lineLevelChange_runs (l : Line) (v : Level) : runsAsMoves (.lineLevelChange c l v) s := by
  have hdue := State.recognizeDue_acts (L := s.directoryLaw) (fun h => h) c l
  exact ⟨_, rfl, Acts.moves (hdue.trans (State.rawChange_acts (hdue.directoryLaw fun h => h) c l v))⟩

theorem edgeRecognition_runs (l : Line) (v : Level) : runsAsMoves (.edgeRecognition c l v) s := by
  change ∃ t, execEdgeRecognition c l v s = .next t ∧ _
  unfold execEdgeRecognition
  split
  · split
    · exact ⟨_, rfl, (State.recognizeDue_acts (fun h => h) c l).moves⟩
    · exact ⟨s, rfl, .refl⟩
  · split
    · exact ⟨_, rfl, (State.rawChange_acts (fun h => h) c l v).moves⟩
    · exact ⟨s, rfl, .refl⟩

theorem timeCountStep_runs : runsAsMoves .timeCountStep s :=
  ⟨_, rfl, Acts.moves ((State.settle_acts fun h => h).trans (State.tick_acts _))⟩

theorem engineTake_runs : runsAsMoves .engineTake s := by
  change ∃ t, execEngineTake s = .next t ∧ _
  unfold execEngineTake
  split
  · exact ⟨s, rfl, .refl⟩
  · next c hc => exact ⟨_, rfl, State.takeFrom_moves (fun h => h) (State.nextCell_eligible hc)⟩

theorem transmitTake_runs : runsAsMoves .transmitTake s := by
  change ∃ t, execTransmitTake s = .next t ∧ _
  unfold execTransmitTake
  split
  · split
    · exact ⟨s, rfl, .refl⟩
    · next st _ => exact ⟨_, rfl, (s.pointTo_moves st).trans (State.takeStream_moves _ st)⟩
  · exact ⟨s, rfl, .refl⟩

theorem transmitCompletion_runs : runsAsMoves .transmitCompletion s := by
  change ∃ t, execTransmitCompletion s = .next t ∧ _
  unfold execTransmitCompletion
  split
  · exact ⟨s, rfl, .refl⟩
  · next t _ =>
    have hidle : Moves s.directoryLaw s (s.withHall { s.hall with tx := none }) :=
      .hallShrinks s _ (Nat.le_refl _) (Nat.le_refl _) (Nat.le_refl _)
    have hsent := hidle.tail (.act (.aside (State.emit_changes _ (.frame t.frame.wire)).mono))
    exact ⟨_, rfl, hsent.trans (State.complete_acts _ _).moves⟩

/-- Every command that is no request. -/
def isEvent : Instr → Bool
  | .powerOnReset _ | .cellFrameReception _ _ | .lineLevelChange _ _ _ | .edgeRecognition _ _ _ | .timeCountStep
  | .graceExpiry _ | .progressExpiry _ | .engineTake | .pause | .resumeSymbol | .hallFrameReception _ | .transmitTake
  | .transmitCompletion | .cellOpenFrameDiscard _ _ | .hallOpenFrameDiscard _ => true
  | _ => false

theorem event_runs (i : Instr) (h : isEvent i = true) : runsAsMoves i s := by
  cases i with
  | powerOnReset straps => exact ⟨_, rfl, (Move.reset s straps).run⟩
  | cellFrameReception c bs => exact cellFrameReception_runs s c bs
  | lineLevelChange c l v => exact lineLevelChange_runs s c l v
  | edgeRecognition c l v => exact edgeRecognition_runs s c l v
  | timeCountStep => exact timeCountStep_runs s
  | graceExpiry c => exact ⟨_, rfl, (s.graceDue_acts c).moves⟩
  | progressExpiry i => exact ⟨_, rfl, (s.progressDue_acts i).moves⟩
  | engineTake => exact engineTake_runs s
  | pause => exact ⟨_, rfl, .hallShrinks s _ (Nat.le_refl _) (Nat.le_refl _) (Nat.le_refl _)⟩
  | resumeSymbol => exact ⟨_, rfl, .hallShrinks s _ (Nat.le_refl _) (Nat.le_refl _) (Nat.le_refl _)⟩
  | hallFrameReception bs => exact ⟨_, rfl, s.setRx_moves _ (s.length_receiveHall bs)⟩
  | transmitTake => exact transmitTake_runs s
  | transmitCompletion => exact transmitCompletion_runs s
  | cellOpenFrameDiscard c cause => exact cellOpenFrameDiscard_runs s c cause
  | hallOpenFrameDiscard cause => exact ⟨_, rfl, s.setRx_moves _ fun h => h⟩
  | _ => exact nomatch h

end

end Sys2Proof.Machine

/-! SUPPORT. What a request does between its take and its reply is a run of moves that leaves the RESP queue, the receive
FIFO and the node address alone (R44 to R54, R140, R157, R180 to R191). -/

namespace Sys2Proof.Machine

set_option Elab.async false

/-- From s to t a request is carried out: a run of moves that leaves what its take and its reply read. -/
structure Serves (s t : State) : Prop where
  moves : Moves s.directoryLaw s t
  resp  : t.hall.resp = s.hall.resp
  rx    : t.hall.rx.fifo = s.hall.rx.fifo
  node  : t.node = s.node

section

variable {u : State}

theorem Serves.refl (u : State) : Serves u u := ⟨.refl, rfl, rfl, rfl⟩

theorem Acts.serves {t : State} (h : Acts u.directoryLaw u t) : Serves u t :=
  ⟨h.moves, h.queuesKept.resp, congrArg HallRx.fifo h.queuesKept.rx, h.queuesKept.node⟩

theorem Act.serves {t : State} (h : Act u.directoryLaw u t) : Serves u t := h.run.serves

/-! ## The checks before a request's action (R45, R178) -/

theorem serves_ite {p : Prop} [Decidable p] {x y : State × Reply} (hx : p → Serves u x.1) (hy : ¬ p → Serves u y.1) :
    Serves u (if p then x else y).1 := by
  split
  · next h => exact hx h
  · next h => exact hy h

theorem decline_serves (st : Status) (u : State) : Serves u (decline st u).1 := .refl u

theorem sized_serves {n : Nat} {rq : Request} {act : List Byte → State → State × Reply}
    (h : ∀ a, Serves u (act a u).1) : Serves u (sized n rq act u).1 :=
  serves_ite (fun _ => h rq.args) fun _ => .refl u

theorem onCell_serves {b : Byte} {act : CellId → State → State × Reply} (h : ∀ c, Serves u (act c u).1) :
    Serves u (onCell b act u).1 := by
  unfold onCell
  split
  · exact .refl u
  · exact h _

theorem withOption_serves {b : Byte} {act : Bool → State → State × Reply} (h : ∀ o, Serves u (act o u).1) :
    Serves u (withOption b act u).1 := by
  unfold withOption
  split
  · exact .refl u
  · exact h _

theorem onBank_serves {b : Byte} {act : BankId → State → State × Reply} (h : ∀ lb, Serves u (act lb u).1) :
    Serves u (onBank b act u).1 := by
  unfold onBank
  split
  · exact .refl u
  · exact h _

theorem bankWrite_serves {rq : Request} {b : Byte} {act : BankId → State → State × Reply}
    (h : ∀ lb, (u.bank lb).state = .loading → Serves u (act lb u).1) : Serves u (bankWrite rq b act u).1 :=
  onBank_serves fun lb => serves_ite (fun hl => h lb hl.1) fun _ => .refl u

theorem onSlot_serves {b : Byte} {act : SlotId → State → State × Reply} (h : ∀ i, Serves u (act i u).1) :
    Serves u (onSlot b act u).1 := by
  unfold onSlot
  split
  · exact .refl u
  · exact h _

theorem onRecord_serves {b : Byte} {act : SlotId → Record → State → State × Reply}
    (h : ∀ i r, u.record i = some r → Serves u (act i r u).1) : Serves u (onRecord b act u).1 :=
  onSlot_serves fun i => by
    split
    · exact .refl u
    · next r hr => exact h i r hr

/-! ## Cells (R16, R21, R32, R182, R183) -/

theorem State.configure_acts {L : Prop} (s : State) (c : CellId) (g : CellConfig) : Acts L s (s.configure c g) := by
  have hset : Acts L s (s.modCell c fun k => { k with cfg := g }) := .modCell s c (fun _ => rfl) fun _ => rfl
  unfold State.configure
  dsimp only
  split
  · exact hset
  · split
    · have hoff : Acts L (s.modCell c fun k => { k with cfg := g })
          ((s.modCell c fun k => { k with cfg := g }).modCell c fun k => { k with tracker := none, rxOpen := false }) :=
        .modCell _ c (fun _ => rfl) fun _ => rfl
      exact hset.trans hoff
    · split
      · exact hset.tail (.aside (State.emit_changes _ _).mono)
      · exact hset

theorem cellSetOn_serves (a : List Byte) (c : CellId) : Serves u (cellSetOn a c u).1 := by
  unfold cellSetOn
  split
  · exact .refl u
  · exact (u.configure_acts c _).serves

theorem State.clearCounts_acts {L : Prop} (s : State) (c : CellId) : Acts L s (s.clearCounts c) := by
  rw [State.clearCounts]
  exact .modCell s c (fun _ => rfl) fun _ => rfl

theorem cellReadOn_serves (o : Bool) (c : CellId) : Serves u (cellReadOn o c u).1 := by
  unfold cellReadOn
  split
  · exact (u.clearCounts_acts c).serves
  · exact .refl u

theorem State.flushPort_changes (s : State) (c : CellId) : s.changesOnly (s.flushPort c) [.cells, .sent] :=
  (s.modCell_changes c _).mono.trans (State.setFlow_changes _ c .go)

theorem State.cell_flushPort (s : State) (c d : CellId) : (s.flushPort c).cell d =
    if d = c then { s.cell c with fifo := [], tracker := none, counts := .zero, flow := .go } else s.cell d := by
  unfold State.flushPort
  rw [State.cell_setFlow, State.cell_modCell]
  by_cases hd : d = c
  · simp only [hd, if_true]
  · simp only [hd, if_false]

theorem Cell.flowLaw_flushed (k : Cell) :
    Cell.flowLaw { k with fifo := [], tracker := none, counts := .zero, flow := .go } :=
  ⟨fun _ => Nat.zero_lt_succ _, nofun⟩

theorem State.flushPort_moves {L : Prop} (s : State) (c : CellId) : Moves L s (s.flushPort c) :=
  (Move.port (s.flushPort_changes c) fun d hd => by
    rw [State.cell_flushPort]
    split
    · exact (s.cell c).flowLaw_flushed
    · exact hd).run

/-- A cell restart after its port is flushed (R33, R95, R137). -/
theorem State.restart_acts {L : Prop} (s : State) (c : CellId) :
    Acts L s (((s.restartLines c).restartRuns c).restartRecords c) := by
  have hlines : Acts L s (s.restartLines c) := by
    rw [State.restartLines]
    exact .modCell s c (fun _ => rfl) fun _ => rfl
  have hruns : Acts L (s.restartLines c) ((s.restartLines c).restartRuns c) := by
    rw [State.restartRuns]
    exact .modCell _ c (fun _ => rfl) fun _ => rfl
  exact (hlines.trans hruns).trans ((Closes.sealIf _ _ .restart).trans (Closes.sealIf _ _ .restart)).acts

theorem State.restartCell_serves (c : CellId) : Serves u (u.restartCell c) := by
  have hport := u.flushPort_changes c
  have hrest := State.restart_acts (L := u.directoryLaw) (u.flushPort c) c
  refine ⟨(u.flushPort_moves c).trans hrest.moves, ?_, ?_, ?_⟩
  · exact hrest.queuesKept.resp.trans (congrArg HallPort.resp hport.hall)
  · exact (congrArg HallRx.fifo hrest.queuesKept.rx).trans (congrArg (fun h => h.rx.fifo) hport.hall)
  · exact hrest.queuesKept.node.trans hport.node

theorem stopClear_serves (c : CellId) : Serves u (u.modCell c fun k => { k with stopLatch := false }) := by
  have h : Acts u.directoryLaw u (u.modCell c fun k => { k with stopLatch := false }) :=
    .modCell u c (fun _ => rfl) fun _ => rfl
  exact h.serves

/-! ## Banks (R44 to R52) -/

/-- A write of a bank's recipes, bins and zones alone. -/
theorem Bank.loadsTo.contents {k v : Bank} (h : v = { k with recipes := v.recipes, bins := v.bins, zones := v.zones })
    (hl : k.state.isLoadable = true) : k.loadsTo v := by
  rw [h]
  exact ⟨rfl, fun hx => hx, fun ho => ho, hl, hl⟩

theorem Bank.loadsTo_opened {k : Bank} (h : k.state = .idle ∨ k.state = .ready) (clear : Bool) (q : Fin 4) :
    k.loadsTo (k.opened clear q) := by
  refine ⟨?_, ?_, fun _ => iff_of_true rfl rfl, by rcases h with h | h <;> rw [h] <;> rfl, rfl⟩
  · cases clear <;> rfl
  · cases clear with
    | true => exact fun _ => storeWf_nil unassigned
    | false => exact fun hx => hx

theorem Bank.loadsTo_xlate {k : Bank} (hl : k.state.isLoadable = true) (r : Fin 8) (first : Nat) (vs : List Byte) :
    k.loadsTo { k with xlate := writeXlate r first vs k.xlate } :=
  ⟨rfl, fun hx => writeXlate_wf r vs hx first, fun ho => ho, hl, hl⟩

theorem Bank.loadsTo_ended {k : Bank} (hl : k.state.isLoadable = true) {st : BankState} (hst : st.isLoadable = true)
    (hne : st ≠ .loading) : k.loadsTo { k with state := st, owner := none } :=
  ⟨rfl, fun hx => hx, fun _ => iff_of_false nofun hne, hl, hst⟩

theorem bankOpenOf_serves (rq : Request) (opt : Byte) (lb : BankId) : Serves u (bankOpenOf rq opt lb u).1 :=
  serves_ite (fun h => withOption_serves fun clear => (Act.load u lb _ (Bank.loadsTo_opened h clear _)).serves)
    fun _ => .refl u

section

variable {lb : BankId} (h : (u.bank lb).state = .loading)

include h

theorem loading_isLoadable : (u.bank lb).state.isLoadable = true := by rw [h]; rfl

theorem bankRecipeOf_serves (a : List Byte) : Serves u (bankRecipeOf a lb u).1 := by
  unfold bankRecipeOf
  split
  · exact (Act.load u lb _ (Bank.loadsTo.contents rfl (loading_isLoadable h))).serves
  · exact .refl u

theorem bankXlateOf_serves (a : List Byte) : Serves u (bankXlateOf a lb u).1 := by
  unfold bankXlateOf
  split
  · exact .refl u
  · split
    · exact .refl u
    · next r _ =>
      exact (Act.load u lb _ (Bank.loadsTo_xlate (loading_isLoadable h) r _ _)).serves

theorem bankClassOf_serves (a : List Byte) : Serves u (bankClassOf a lb u).1 := by
  unfold bankClassOf
  split
  · exact .refl u
  · split
    · exact .refl u
    · exact (Act.load u lb _ (Bank.loadsTo.contents rfl (loading_isLoadable h))).serves

theorem bankZoneOf_serves (a : List Byte) : Serves u (bankZoneOf a lb u).1 := by
  unfold bankZoneOf
  split
  · exact (Act.load u lb _ (Bank.loadsTo.contents rfl (loading_isLoadable h))).serves
  · exact .refl u

theorem bankCloseOf_serves : Serves u (bankCloseOf lb u).1 := by
  unfold bankCloseOf
  split
  · exact .refl u
  · exact (Act.load u lb _ (Bank.loadsTo_ended (loading_isLoadable h) (st := .ready) rfl nofun)).serves

end

theorem bankDropOf_serves (lb : BankId) : Serves u (bankDropOf lb u).1 :=
  serves_ite (fun h => (Act.load u lb _ (Bank.loadsTo_ended (loading_isLoadable h) (st := .idle) rfl
    nofun)).serves) fun _ => .refl u

theorem bankLiveOf_serves (lb : BankId) : Serves u (bankLiveOf lb u).1 :=
  serves_ite (fun h => (Act.activate u lb h).serves) fun _ => .refl u

theorem bankReadOf_serves (a : List Byte) (lb : BankId) : Serves u (bankReadOf a lb u).1 := by
  unfold bankReadOf
  split <;> exact .refl u

/-! ## Alert levels and streams (R140, R157) -/

theorem alertSetWith_serves (a : List Byte) : Serves u (alertSetWith a u).1 := by
  unfold alertSetWith
  split
  · exact .refl u
  · split
    · exact .refl u
    · next ps _ =>
      exact (Act.alerts (u.withAlerts_changes (u.alerts.update a ps)) (List.Sublist.refl _)).serves

theorem streamSetWith_serves (a : List Byte) : Serves u (streamSetWith a u).1 := by
  unfold streamSetWith
  split
  · exact .refl u
  · exact ⟨.hallShrinks u _ (Nat.le_refl _) (Nat.le_refl _) (Nat.le_refl _), rfl, rfl, rfl⟩

/-! ## Records, maps and the link (R187 to R191) -/

theorem setTag_acts {L : Prop} (s : State) (q : Fin 4) (o : Option SlotId) : Acts L s (s.setTag q o) :=
  (Act.aside (s.setTag_changes q o).mono).run

theorem waferSealBy_serves (q : Fin 4) (i : SlotId) : Serves u (waferSealBy q i u).1 :=
  serves_ite (fun _ => Acts.serves ((Act.sealing u i (some .host)).run.trans (setTag_acts _ q none)))
    fun _ => (setTag_acts u q none).serves

theorem waferFreeOf_serves (i : SlotId) (r : Record) : Serves u (waferFreeOf i r u).1 :=
  serves_ite (fun _ => (Act.free u i).serves) fun _ => .refl u

theorem waferSendOf_serves {i : SlotId} {r : Record} (hr : u.record i = some r) : Serves u (waferSendOf i r u).1 :=
  serves_ite (fun _ => .refl u) fun hs => serves_ite (fun _ => .refl u) fun ho =>
    (Act.queueFinal u i r hr (Bool.eq_true_of_not_eq_false hs) ho).serves

theorem mapSendOf_serves {i : SlotId} {r : Record} (hr : u.record i = some r) : Serves u (mapSendOf i r u).1 :=
  serves_ite (fun _ => .refl u) fun hf =>
    (Act.requestMap u i r hr (by rwa [← Option.not_isNone, Bool.not_eq_true', ← Bool.not_eq_true])).serves

theorem modDump_serves (f : Dump → Dump) : Serves u (u.modDump f) := by
  unfold State.modDump
  cases hd : u.xport.dump with
  | none =>
    rw [Option.map_none, ← hd]
    exact .refl u
  | some d => exact (Act.dump u (f d) (hd ▸ nofun)).serves

theorem State.drawn_acts {L : Prop} (s : State) : Acts L s s.drawn := by
  unfold State.drawn
  split
  · exact (Act.aside (s.withDraws_changes _).mono).run
  · exact .refl

theorem linkReadWith_serves (clear : Bool) : Serves u (linkReadWith clear u).1 := by
  have hdrawn := u.drawn_acts (L := u.directoryLaw)
  have hrx : u.drawn.hall.rx = u.hall.rx := hdrawn.queuesKept.rx
  unfold linkReadWith
  dsimp only
  split
  · refine ⟨hdrawn.moves.trans (State.setRx_moves _ _ fun h => ?_), hdrawn.queuesKept.resp, rfl, hdrawn.queuesKept.node⟩
    rwa [hrx] at h
  · exact hdrawn.serves

end

/-! ## Every request (R177, R178) -/

/-- Carried out between its take and its reply, whatever the state. -/
def servesAlways (act : State → State × Reply) : Prop := ∀ u, Serves u (act u).1

/-- A command is a request with this name code, and what it does between take and reply serves. -/
def isServed (i : Instr) (name : Byte) (rq : Request) : Prop :=
  ∃ act, servesAlways act ∧ ∀ s, exec i s = serve name rq act s

theorem unknownRequest_isServed {name : Byte} (rq : Request) (h : knownNames.contains name = false) :
    isServed (.unknownRequest name rq) name rq :=
  ⟨decline .unknown, decline_serves .unknown, fun s => by
    change execUnknownRequest name rq s = _
    unfold execUnknownRequest
    rw [h]
    rfl⟩

theorem request_isServed {i : Instr} {name : Byte} {rq : Request}
    (hunknown : ∀ n r, i = .unknownRequest n r → knownNames.contains n = false)
    (hn : i.nameCode = some name) (hr : i.request = some rq) (hreset : i ≠ .resetAll rq) : isServed i name rq := by
  cases i <;> simp only [Instr.nameCode, Instr.request, Option.some.injEq, reduceCtorEq] at hn hr <;> subst hn hr
  case unknownRequest name rq => exact unknownRequest_isServed rq (hunknown name rq rfl)
  case resetAll => exact absurd rfl hreset
  case ident => exact ⟨_, fun u => sized_serves fun _ => .refl u, fun _ => rfl⟩
  case timeSet => exact ⟨_, fun u => sized_serves fun a => (Act.aside (u.withTime_changes _).mono).serves, fun _ => rfl⟩
  case timeRead => exact ⟨_, fun u => sized_serves fun _ => .refl u, fun _ => rfl⟩
  case cellSet => exact ⟨_, fun _ => sized_serves fun a => onCell_serves (cellSetOn_serves a), fun _ => rfl⟩
  case cellRead =>
    exact ⟨_, fun _ => sized_serves fun _ => onCell_serves fun c => withOption_serves fun o => cellReadOn_serves o c,
      fun _ => rfl⟩
  case cellRestart => exact ⟨_, fun _ => sized_serves fun _ => onCell_serves State.restartCell_serves, fun _ => rfl⟩
  case stopClear => exact ⟨_, fun _ => sized_serves fun _ => onCell_serves stopClear_serves, fun _ => rfl⟩
  case bankOpen => exact ⟨_, fun _ => sized_serves fun _ => onBank_serves (bankOpenOf_serves _ _), fun _ => rfl⟩
  case bankRecipe =>
    exact ⟨_, fun _ => sized_serves fun a => bankWrite_serves fun _ h => bankRecipeOf_serves h a, fun _ => rfl⟩
  case bankXlate =>
    exact ⟨_, fun _ => sized_serves fun a => bankWrite_serves fun _ h => bankXlateOf_serves h a, fun _ => rfl⟩
  case bankClass =>
    exact ⟨_, fun _ => sized_serves fun a => bankWrite_serves fun _ h => bankClassOf_serves h a, fun _ => rfl⟩
  case bankZone =>
    exact ⟨_, fun _ => sized_serves fun a => bankWrite_serves fun _ h => bankZoneOf_serves h a, fun _ => rfl⟩
  case bankClose =>
    exact ⟨_, fun _ => sized_serves fun _ => bankWrite_serves fun _ h => bankCloseOf_serves h, fun _ => rfl⟩
  case bankDrop => exact ⟨_, fun _ => sized_serves fun _ => onBank_serves bankDropOf_serves, fun _ => rfl⟩
  case bankLive => exact ⟨_, fun _ => sized_serves fun _ => onBank_serves bankLiveOf_serves, fun _ => rfl⟩
  case bankRead => exact ⟨_, fun _ => sized_serves fun a => onBank_serves (bankReadOf_serves a), fun _ => rfl⟩
  case alertSet => exact ⟨_, fun _ => sized_serves alertSetWith_serves, fun _ => rfl⟩
  case streamSet => exact ⟨_, fun _ => sized_serves streamSetWith_serves, fun _ => rfl⟩
  case waferList => exact ⟨_, fun u => sized_serves fun _ => .refl u, fun _ => rfl⟩
  case waferRead => exact ⟨_, fun u => sized_serves fun _ => onSlot_serves fun _ => .refl u, fun _ => rfl⟩
  case waferMark =>
    exact ⟨_, fun u => sized_serves fun _ => onRecord_serves fun i _ _ => (setTag_acts u _ (some i)).serves, fun _ => rfl⟩
  case waferSeal => exact ⟨_, fun _ => sized_serves fun _ => onSlot_serves (waferSealBy_serves _), fun _ => rfl⟩
  case waferDrop => exact ⟨_, fun u => sized_serves fun _ => onRecord_serves fun i _ _ => (Act.free u i).serves, fun _ => rfl⟩
  case waferFree =>
    exact ⟨_, fun _ => sized_serves fun _ => onRecord_serves fun i r _ => waferFreeOf_serves i r, fun _ => rfl⟩
  case waferSend =>
    exact ⟨_, fun _ => sized_serves fun _ => onRecord_serves fun _ _ hr => waferSendOf_serves hr, fun _ => rfl⟩
  case mapSend => exact ⟨_, fun _ => sized_serves fun _ => onRecord_serves fun _ _ hr => mapSendOf_serves hr, fun _ => rfl⟩
  case mapStop => exact ⟨_, fun _ => sized_serves fun _ => modDump_serves _, fun _ => rfl⟩
  case linkRead => exact ⟨_, fun _ => sized_serves fun _ => withOption_serves linkReadWith_serves, fun _ => rfl⟩

end Sys2Proof.Machine

/-! SUPPORT. Every command is a run of moves, so every step keeps what each move keeps. -/

namespace Sys2Proof.Machine

set_option Elab.async false

/-! ## A request from its take to its reply (R177, R178) -/

section

variable {s u : State} {name : Byte} {rq : Request}

theorem State.takeRequest_cases (s : State) (name : Byte) (rq : Request) : s.takeRequest name rq = none ∨
    s.hall.resp.length < 8 ∧ s.takeRequest name rq = some s.requestTaken := by
  unfold State.takeRequest
  split
  · exact .inl rfl
  · next hroom =>
    have hlt : s.hall.resp.length < 8 := Nat.not_le.1 hroom
    split
    · next hnil =>
      split
      · exact .inr ⟨hlt, congrArg some (State.requestTaken_of_fifo_nil hnil).symm⟩
      · exact .inl rfl
    · next e rest hcons =>
      split
      · refine .inr ⟨hlt, congrArg some ?_⟩
        rw [State.requestTaken, hcons]
        rfl
      · exact .inl rfl

theorem State.requestTaken_moves {L : Prop} (s : State) : Moves L s s.requestTaken :=
  .hallShrinks s _ (Nat.le_refl _) (Nat.le_refl _) (by rw [List.length_tail]; exact Nat.sub_le _ 1)

theorem State.respond_moves {L : Prop} (h : u.hall.resp.length < 8) (name : Byte) (rq : Request) (p : Reply) :
    Moves L u (u.respond name rq p) := by
  unfold State.respond
  split
  · exact .refl
  · have hresp : (u.hall.resp ++ [replyFrame u name rq p]).length ≤ 8 := by
      rw [List.length_append, List.length_singleton]
      exact h
    exact (Move.hall (t := u.withHall { u.hall with resp := u.hall.resp ++ [replyFrame u name rq p] })
      (u.withHall_changes _) (fun _ => hresp) (fun h => h) fun h => h).run

/-- What the laws of bound counts and records say is not about the hall port. -/
theorem State.directoryLaw_requestTaken (s : State) : s.requestTaken.directoryLaw = s.directoryLaw := rfl

theorem serve_moves {act : State → State × Reply} (hact : servesAlways act) :
    ∃ t, serve name rq act s = .next t ∧ Moves s.directoryLaw s t := by
  unfold serve
  rcases s.takeRequest_cases name rq with h | ⟨hroom, h⟩
  · rw [h]
    exact ⟨s, rfl, .refl⟩
  · rw [h]
    have hserves := hact s.requestTaken
    refine ⟨_, rfl, s.requestTaken_moves.trans (Relation.ReflTransGen.trans ?_ (State.respond_moves ?_ name rq _))⟩
    · rw [← s.directoryLaw_requestTaken]
      exact hserves.moves
    · rw [hserves.resp]
      exact hroom

theorem resetAll_runs (rq : Request) (s : State) : runsAsMoves (.resetAll rq) s := by
  change ∃ t, execResetAll rq s = .next t ∧ _
  unfold execResetAll
  rcases s.takeRequest_cases 0x7F rq with h | ⟨hroom, h⟩
  · rw [h]
    exact ⟨s, rfl, .refl⟩
  · rw [h]
    dsimp only
    split
    · have hreset := s.requestTaken_moves.tail (Move.reset (L := s.directoryLaw) _ (Config.strapLevels s.draws))
      exact ⟨_, rfl, hreset.tail (.act (.aside (State.withDraws_changes _ _).mono))⟩
    · exact ⟨_, rfl, s.requestTaken_moves.trans (State.respond_moves (u := s.requestTaken) hroom 0x7F rq _)⟩

end

/-! ## Every command -/

/-- A command is one of the part's own events, or a request with a name code. -/
theorem isEvent_or_request (i : Instr) :
    isEvent i = true ∨ ∃ name rq, i.nameCode = some name ∧ i.request = some rq := by
  cases i <;> first | exact .inl rfl | exact .inr ⟨_, _, rfl, rfl⟩

theorem exec_runs (i : Instr) (s : State) : runsAsMoves i s := by
  rcases isEvent_or_request i with he | ⟨name, rq, hn, hr⟩
  · exact event_runs s i he
  · by_cases hreset : i = .resetAll rq
    · rw [hreset]
      exact resetAll_runs rq s
    · by_cases hknown : ∃ n r, i = .unknownRequest n r ∧ knownNames.contains n = true
      · obtain ⟨n, r, rfl, hk⟩ := hknown
        exact ⟨s, if_pos hk, .refl⟩
      · push Not at hknown
        obtain ⟨act, hact, hexec⟩ := request_isServed
          (fun n r h => Bool.eq_false_iff.2 (hknown n r h)) hn hr hreset
        rw [runsAsMoves, hexec]
        exact serve_moves hact

/-- Settles O2: the run of moves that a command is leaves the commands that wait alone. -/
theorem everyCommandCompletes : Obligations.EveryCommandCompletes := fun i s => by
  obtain ⟨t, hexec, hmoves⟩ := exec_runs i s
  exact ⟨t, hexec, hmoves.pending⟩

/-! ## Every step -/

/-- A step is a run of moves, from the state with the front command taken off the queue. -/
theorem step_moves {s t : State} (h : step s = .next t) :
    ∃ rest, Moves s.directoryLaw (s.withPending rest) t := by
  unfold step at h
  split at h
  · exact ⟨s.pending, by rw [← Host.Outcome.next.inj h]; exact .refl⟩
  · next c rest _ =>
    obtain ⟨u, hexec, hmoves⟩ := exec_runs c (s.withPending rest)
    rw [hexec] at h
    exact ⟨rest, Host.Outcome.next.inj h ▸ hmoves⟩

/-- A law that does not read the commands that wait, and that every move keeps, is kept by every step. -/
theorem step_keeps {P : State → Prop} {s t : State} (hP : ∀ u v, Move s.directoryLaw u v → P u → P v)
    (hpending : ∀ rest, P s → P (s.withPending rest)) (h : step s = .next t) (hs : P s) : P t := by
  obtain ⟨rest, hmoves⟩ := step_moves h
  exact hmoves.keeps hP (hpending rest hs)

/-- Settles O5. -/
theorem bankLawKeptByEveryStep : Obligations.BankLawKeptByEveryStep := fun _ _ hs h =>
  step_keeps (fun _ _ hm => hm.bankLaw) (fun _ hs => hs) h hs

/-- Settles O6: the record law goes with the bound counts, which hold where the step begins. -/
theorem boundCountsKeptByEveryStep : Obligations.BoundCountsKeptByEveryStep :=
  ⟨fun _ _ hs h => step_keeps (fun _ _ hm => hm.boundLaw) (fun _ hs => hs) h hs,
    fun _ _ hb hr h => (step_keeps (fun _ _ hm => hm.directoryLaw ⟨hb, hr⟩) (fun _ hs => hs) h ⟨hb, hr⟩).2⟩

/-- Settles O7. -/
theorem alertOrderKeptByEveryStep : Obligations.AlertOrderKeptByEveryStep := fun _ _ hs h =>
  step_keeps (fun _ _ hm => hm.alertLaw) (fun _ hs => hs) h hs

/-- Settles O4: the count laws go with the canonical form and the frame law. -/
theorem storesCanonicalKeptByEveryStep : Obligations.StoresCanonicalKeptByEveryStep := by
  refine ⟨fun _ _ hs h => step_keeps (fun _ _ hm => hm.storesCanonical) (fun _ hs => hs) h hs,
    fun _ _ hs h => step_keeps (fun _ _ hm => hm.frameLaw) (fun _ hs => hs) h hs, fun s t hc hf ht h => ?_⟩
  have hstore : t.storeLaw := step_keeps (fun _ _ hm => hm.storeLaw) (fun _ hs => hs) h ⟨hc, hf, ht⟩
  exact hstore.2.2

/-- Settles O3. -/
theorem capacitiesKeptByEveryStep : Obligations.CapacitiesKeptByEveryStep :=
  ⟨fun _ _ hs h => step_keeps (fun _ _ hm => hm.withinCapacities) (fun _ hs => hs) h hs,
    fun _ _ hs h => step_keeps (fun _ _ hm => hm.listLaw) (fun _ hs => hs) h hs⟩

/-! ## A request is answered once (R177, R178) -/

/-- Settles O12: what a request does between its take and its reply leaves the RESP queue, the receive FIFO and the node
address alone. -/
theorem requestIsAnsweredOnce : Obligations.RequestIsAnsweredOnce := by
  intro i name rq s hw hn hr hreset
  obtain ⟨act, hact, hexec⟩ := request_isServed (fun n r h => by
    rw [h] at hw
    simp only [Instr.wellFormed, Bool.and_eq_true, Bool.not_eq_true'] at hw
    exact hw.1) hn hr hreset
  refine ⟨fun ht => ?_, fun hfull => ?_⟩
  · obtain ⟨-, hresp, hrx, hnode⟩ := hact s.requestTaken
    refine ⟨_, (act s.requestTaken).2, (hexec s).trans (serve_of_takesNow ht rfl), ?_, ?_⟩
    · have hreply : (act s.requestTaken).1.repliesTo name rq (act s.requestTaken).2 =
          s.repliesTo name rq (act s.requestTaken).2 := by
        unfold State.repliesTo
        rw [replyFrame_congr (s := s) hnode]
      rw [State.respond_eq, State.withHall_hall, hresp, hreply]
      rfl
    · rw [State.respond_eq, State.withHall_hall]
      exact hrx
  · have hcap : Config.respCap ≤ s.hall.resp.length := hfull
    rw [hexec, serve, State.takeRequest, if_pos hcap]

end Sys2Proof.Machine

/-! SUPPORT. Requests that fit no layout or name nothing are answered BAD_ARGUMENT, and unknown names UNKNOWN (R1, R44,
R45, R54, R140, R178, R200). -/

namespace Sys2Proof.Machine

set_option Elab.async false

/-! ## Codes and selectors that name nothing -/

section

variable {b : Byte}

/-- A byte above n is no byte up to n. -/
theorem ne_of_above {n : Nat} (h : n < b.toNat) (k : Byte) (hk : k.toNat ≤ n := by decide) : b ≠ k := by
  rintro rfl
  omega

theorem boolOfByte_of_above (h : 1 < b.toNat) : boolOfByte b = none := by
  rw [boolOfByte, if_neg (ne_of_above h 0), if_neg (ne_of_above h 1)]

theorem modeOfByte_of_above (h : 3 < b.toNat) : modeOfByte b = none := by
  rw [modeOfByte, if_neg (ne_of_above h 0), if_neg (ne_of_above h 1), if_neg (ne_of_above h 2), if_neg (ne_of_above h 3)]

theorem orderOfByte_of_above (h : 1 < b.toNat) : orderOfByte b = none := by
  rw [orderOfByte, if_neg (ne_of_above h 0), if_neg (ne_of_above h 1)]

theorem polarityOfByte_of_above (h : 1 < b.toNat) : polarityOfByte b = none := by
  rw [polarityOfByte, if_neg (ne_of_above h 0), if_neg (ne_of_above h 1)]

theorem classOfByte_of_above (h : 3 < b.toNat) : classOfByte b = none := by
  rw [classOfByte, if_neg (ne_of_above h 0), if_neg (ne_of_above h 1), if_neg (ne_of_above h 2),
    if_neg (ne_of_above h 3)]

theorem policyOfByte_of_above (h : 2 < b.toNat) : policyOfByte b = none := by
  rw [policyOfByte, if_neg (ne_of_above h 0), if_neg (ne_of_above h 1), if_neg (ne_of_above h 2)]

theorem denominatorOfByte_of_above (h : 1 < b.toNat) : denominatorOfByte b = none := by
  rw [denominatorOfByte, if_neg (ne_of_above h 0), if_neg (ne_of_above h 1)]

theorem exportOfByte_of_above (h : 1 < b.toNat) : exportOfByte b = none := by
  rw [exportOfByte, if_neg (ne_of_above h 0), if_neg (ne_of_above h 1)]

theorem recipeOfByte_of_above (h : 7 < b.toNat) : recipeOfByte b = none := dif_neg (by omega)

theorem zoneOfByte_of_none (h : b.toNat = 0 ∨ 8 < b.toNat) : zoneOfByte b = none := dif_neg (by omega)

theorem kindOfByte_of_none (h : b.toNat = 0 ∨ 15 < b.toNat) : kindOfByte b = none := by
  have hne : ∀ k : Byte, 1 ≤ k.toNat → k.toNat ≤ 15 → b ≠ k := by
    rintro k h1 h15 rfl
    omega
  simp [kindOfByte, hne]

theorem onCell_of_above (h : 7 < b.toNat) (act : CellId → State → State × Reply) :
    onCell b act = decline .badArgument := by
  funext s
  rw [onCell, show cellOfByte b = none from dif_neg (by omega)]

theorem withOption_of_above (h : 1 < b.toNat) (act : Bool → State → State × Reply) :
    withOption b act = decline .badArgument := by
  funext s
  rw [withOption, boolOfByte_of_above h]

end

section

variable {rq : Request} {u : State}

/-! ## Banks and their parts (R45, R54) -/

theorem bankOfByte_of_named (h : namesBank rq = true) : bankOfByte (byteAt rq.args 0) = some (bankNamed rq) := by
  rw [namesBank, Bool.or_eq_true, beq_iff_eq, beq_iff_eq] at h
  unfold bankNamed
  rcases h with h | h
  · have hbyte : byteAt rq.args 0 = 0x0A := BitVec.eq_of_toNat_eq h
    rw [hbyte, if_pos h]
    rfl
  · have hbyte : byteAt rq.args 0 = 0x0B := BitVec.eq_of_toNat_eq h
    rw [hbyte, if_neg (by rw [h]; decide)]
    rfl

theorem onBank_of_unnamed (h : namesBank rq = false) (act : BankId → State → State × Reply) :
    onBank (byteAt rq.args 0) act = decline .badArgument := by
  rw [namesBank, Bool.or_eq_false_iff, beq_eq_false_iff_ne, beq_eq_false_iff_ne] at h
  have hnone : bankOfByte (byteAt rq.args 0) = none := by
    have ha : byteAt rq.args 0 ≠ 0x0A := fun hb => h.1 (congrArg BitVec.toNat hb)
    have hb : byteAt rq.args 0 ≠ 0x0B := fun hb => h.2 (congrArg BitVec.toNat hb)
    rw [bankOfByte, if_neg ha, if_neg hb]
  funext s
  rw [onBank, hnone]

theorem onBank_of_named (h : namesBank rq = true) (act : BankId → State → State × Reply) :
    onBank (byteAt rq.args 0) act = act (bankNamed rq) := onBank_of_some (bankOfByte_of_named h) act

/-- A bank request is refused that names no bank, or whose action on the bank it names is refused. -/
theorem onBank_refused {act : BankId → State → State × Reply} {p : Bool} (h : (!namesBank rq || p) = true)
    (hact : p = true → act (bankNamed rq) u = decline .badArgument u) :
    onBank (byteAt rq.args 0) act u = decline .badArgument u := by
  cases hn : namesBank rq with
  | false => rw [onBank_of_unnamed hn]
  | true =>
    rw [onBank_of_named hn]
    exact hact (by simpa [hn] using h)

theorem bankWrite_refused {act : BankId → State → State × Reply} {p : Bool}
    (h : (!namesBank rq || (u.ownsLoad rq && p)) = true)
    (hact : p = true → act (bankNamed rq) u = decline .badArgument u) :
    bankWrite rq (byteAt rq.args 0) act u = decline .badArgument u :=
  onBank_refused h fun hp => by
    simp only [State.ownsLoad, Bool.and_eq_true, beq_iff_eq] at hp
    obtain ⟨⟨⟨-, hl⟩, ho⟩, hp⟩ := hp
    rw [asOwner, if_pos ⟨hl, ho⟩]
    exact hact hp

theorem Request.arg_eq (rq : Request) (k : Nat) : rq.arg k = (byteAt rq.args k).toNat := rfl

theorem Bank.part_of_readsNoPart (k : Bank) (h : readsNoPart rq = true) : k.part rq.args = none := by
  simp only [readsNoPart, Request.arg_eq] at h
  unfold Bank.part
  split
  · next hb => simp [hb] at h
  · split
    · next hb =>
      simp only [hb, BitVec.reduceToNat] at h
      rw [Bank.recipePart, recipeOfByte_of_above (of_decide_eq_true h)]
      rfl
    · split
      · next hb =>
        simp only [hb, BitVec.reduceToNat, Bool.or_eq_true] at h
        unfold Bank.xlatePart
        rcases h with h | h
        · rw [recipeOfByte_of_above (of_decide_eq_true h)]
          split <;> rfl
        · rw [if_pos (of_decide_eq_true h)]
      · split
        · next hb =>
          simp only [hb, BitVec.reduceToNat] at h
          rw [Bank.binsPart, if_pos (of_decide_eq_true h)]
        · split
          · next hb =>
            simp only [hb, BitVec.reduceToNat, Bool.or_eq_true, beq_iff_eq] at h
            rw [Bank.zonePart, zoneOfByte_of_none (h.imp_right of_decide_eq_true)]
            rfl
          · rfl

theorem bankReadOf_refused (h : readsNoPart rq = true) (lb : BankId) :
    bankReadOf rq.args lb u = decline .badArgument u := by
  rw [bankReadOf, Bank.part_of_readsNoPart _ h]

theorem bankOpenOf_badOption {lb : BankId} (h : (decide (1 < rq.arg 1) &&
      ((u.bank lb).state == .idle || (u.bank lb).state == .ready)) = true) :
    bankOpenOf rq (byteAt rq.args 1) lb u = decline .badArgument u := by
  simp only [Bool.and_eq_true, decide_eq_true_eq, Bool.or_eq_true, beq_iff_eq] at h
  rw [bankOpenOf, if_pos h.2, withOption_of_above (b := byteAt rq.args 1) h.1]

theorem recipeOfBytes_of_bad_code {a : List Byte} (h : 1 < (byteAt a 2).toNat ∨ 2 < (byteAt a 12).toNat ∨
    1 < (byteAt a 13).toNat ∨ 1 < (byteAt a 22).toNat) : recipeOfBytes a = none := by
  unfold recipeOfBytes
  rcases h with h | h | h | h
  · rw [boolOfByte_of_above h]
  · rw [policyOfByte_of_above h]
    split
    · contradiction
    · rfl
  · rw [denominatorOfByte_of_above h]
    split
    · contradiction
    · rfl
  · rw [exportOfByte_of_above h]
    split
    · contradiction
    · rfl

theorem bankRecipeOf_badArgument {a : List Byte} (h : recipeOfByte (byteAt a 1) = none ∨ recipeOfBytes a = none)
    (lb : BankId) : bankRecipeOf a lb u = decline .badArgument u := by
  unfold bankRecipeOf
  split
  · next hr hv =>
    rcases h with h | h
    · exact nomatch h.symm.trans hr
    · exact nomatch h.symm.trans hv
  · rfl

theorem bankXlateOf_badArgument {a : List Byte} (h : 7 < (byteAt a 1).toNat ∨ 64 < (byteAt a 4).toNat) (lb : BankId) :
    bankXlateOf a lb u = decline .badArgument u := by
  unfold bankXlateOf
  split
  · rfl
  · next hn =>
    rw [recipeOfByte_of_above (h.resolve_right hn)]

theorem bankZoneOf_badArgument {a : List Byte} (h : zoneOfByte (byteAt a 1) = none ∨ zoneOfBytes a = none) (lb : BankId) :
    bankZoneOf a lb u = decline .badArgument u := by
  unfold bankZoneOf
  split
  · next hr hv =>
    rcases h with h | h
    · exact nomatch h.symm.trans hr
    · exact nomatch h.symm.trans hv
  · rfl

/-! ## Lists (R48, R140) -/

theorem byteAt_drop (a : List Byte) (n k : Nat) : byteAt (a.drop n) k = byteAt a (n + k) := by
  simp [byteAt, List.getD_eq_getElem?_getD]

/-- One code that names no class anywhere in the list refuses it. -/
theorem parseBins_eq_none (k : Nat) {l : List Byte} (hlen : 3 * k + 3 ≤ l.length)
    (h : classOfByte (byteAt l (3 * k)) = none) : parseBins l = none := by
  induction k generalizing l with
  | zero =>
    match l with
    | cls :: l0 :: l1 :: rest =>
      have hc : classOfByte cls = none := h
      rw [parseBins, hc]
  | succ k ih =>
    match l with
    | cls :: l0 :: l1 :: rest =>
      have hrest : parseBins rest = none := ih (by simp only [List.length_cons] at hlen; omega) h
      rw [parseBins, hrest]
      split
      · contradiction
      · rfl

/-- One code that names no alert kind anywhere in the list refuses it. -/
theorem parsePairs_eq_none (k : Nat) {l : List Byte} (hlen : 2 * k + 2 ≤ l.length)
    (h : kindOfByte (byteAt l (2 * k)) = none) : parsePairs l = none := by
  induction k generalizing l with
  | zero =>
    match l with
    | kind :: level :: rest =>
      have hk : kindOfByte kind = none := h
      rw [parsePairs, hk]
  | succ k ih =>
    match l with
    | kind :: level :: rest =>
      have hrest : parsePairs rest = none := ih (by simp only [List.length_cons] at hlen; omega) h
      rw [parsePairs, hrest]
      split
      · contradiction
      · rfl

theorem bankClassOf_badList (hlen : rq.args.length = 3 + 3 * rq.arg 2) (h : (decide (16 < rq.arg 2) ||
      (List.range (rq.arg 2)).any fun k => decide (3 < rq.arg (3 + 3 * k))) = true) (lb : BankId) :
    bankClassOf rq.args lb u = decline .badArgument u := by
  simp only [Bool.or_eq_true, decide_eq_true_eq, List.any_eq_true, List.mem_range] at h
  unfold bankClassOf
  split
  · rfl
  · next hn =>
    obtain ⟨k, hk, hcode⟩ := h.resolve_left hn
    have hbad : classOfByte (byteAt (rq.args.drop 3) (3 * k)) = none := by
      rw [byteAt_drop]
      exact classOfByte_of_above hcode
    rw [parseBins_eq_none k (by rw [List.length_drop]; omega) hbad]

theorem alertSetWith_badList (hlen : rq.args.length = 3 + 2 * rq.arg 2) (h : (decide (15 < rq.arg 2) ||
      (List.range (rq.arg 2)).any fun k => rq.arg (3 + 2 * k) == 0 || decide (15 < rq.arg (3 + 2 * k))) = true) :
    alertSetWith rq.args u = decline .badArgument u := by
  simp only [Bool.or_eq_true, decide_eq_true_eq, List.any_eq_true, List.mem_range, beq_iff_eq] at h
  unfold alertSetWith
  split
  · rfl
  · next hn =>
    obtain ⟨k, hk, hcode⟩ := h.resolve_left hn
    have hbad : kindOfByte (byteAt (rq.args.drop 3) (2 * k)) = none := by
      rw [byteAt_drop]
      exact kindOfByte_of_none hcode
    rw [parsePairs_eq_none k (by rw [List.length_drop]; omega) hbad]

/-! ## Codes that a mask selects (R1, R157) -/

theorem CellConfig.update_of_bad_code (g : CellConfig) {a : List Byte}
    (h : (byteAt a 1).getLsbD 0 = true ∧ 3 < (byteAt a 2).toNat ∨ (byteAt a 1).getLsbD 1 = true ∧ 1 < (byteAt a 3).toNat ∨
      (byteAt a 1).getLsbD 4 = true ∧ 1 < (byteAt a 6).toNat ∨ (byteAt a 1).getLsbD 5 = true ∧ 1 < (byteAt a 7).toNat) :
    g.update a = none := by
  unfold CellConfig.update
  dsimp only
  rcases h with ⟨hm, hc⟩ | ⟨hm, hc⟩ | ⟨hm, hc⟩ | ⟨hm, hc⟩
  · rw [masked_eq_none _ hm (modeOfByte_of_above hc)]
  · rw [masked_eq_none _ hm (orderOfByte_of_above hc)]
    split
    · contradiction
    · rfl
  · rw [masked_eq_none _ hm (polarityOfByte_of_above hc)]
    split
    · contradiction
    · rfl
  · rw [masked_eq_none _ hm (polarityOfByte_of_above hc)]
    split
    · contradiction
    · rfl

theorem streamSetWith_badBurst {a : List Byte} (hm : (byteAt a 0).getLsbD 5 = true) (hc : 1 < (byteAt a 6).toNat) :
    streamSetWith a u = decline .badArgument u := by
  rw [streamSetWith, masked_eq_none _ hm (boolOfByte_of_above hc)]

end

/-! ## Every request with arguments -/

/-- A command is a request with this name code and number of argument bytes, refused where it names nothing. -/
def isSized (i : Instr) (n : Nat) (name : Byte) (rq : Request) : Prop :=
  ∃ act, (∀ s, exec i s = serve name rq (sized n rq act) s) ∧
    ∀ u : State, rq.args.length = n → u.namesNothing i = true → act rq.args u = decline .badArgument u

theorem request_isSized {i : Instr} {n : Nat} {name : Byte} {rq : Request} (hlen : i.argLength = some n)
    (hn : i.nameCode = some name) (hr : i.request = some rq) (hreset : i ≠ .resetAll rq) : isSized i n name rq := by
  cases i <;> simp only [Instr.argLength, Instr.nameCode, Instr.request, Option.some.injEq, reduceCtorEq] at hlen hn hr <;>
    subst hlen hn hr
  case resetAll => exact absurd rfl hreset
  case ident => exact ⟨_, fun _ => rfl, fun _ _ h => nomatch h⟩
  case timeSet => exact ⟨_, fun _ => rfl, fun _ _ h => nomatch h⟩
  case timeRead => exact ⟨_, fun _ => rfl, fun _ _ h => nomatch h⟩
  case waferList => exact ⟨_, fun _ => rfl, fun _ _ h => nomatch h⟩
  case mapStop => exact ⟨_, fun _ => rfl, fun _ _ h => nomatch h⟩
  case cellSet rq =>
    refine ⟨_, fun _ => rfl, fun u _ h => ?_⟩
    simp only [State.namesNothing, Bool.or_eq_true, Bool.and_eq_true, decide_eq_true_eq, or_assoc] at h
    by_cases hc : 7 < (byteAt rq.args 0).toNat
    · exact congrFun (onCell_of_above hc _) _
    · have hcell : cellOfByte (byteAt rq.args 0) = some ⟨(byteAt rq.args 0).toNat, by omega⟩ := dif_pos _
      rw [onCell_of_some hcell]
      exact cellSetOn_of_none (CellConfig.update_of_bad_code _ (h.resolve_left hc))
  case cellRead rq =>
    refine ⟨_, fun _ => rfl, fun u _ h => ?_⟩
    simp only [State.namesNothing, Bool.or_eq_true, decide_eq_true_eq] at h
    by_cases hc : 7 < (byteAt rq.args 0).toNat
    · exact congrFun (onCell_of_above hc _) _
    · have hcell : cellOfByte (byteAt rq.args 0) = some ⟨(byteAt rq.args 0).toNat, by omega⟩ := dif_pos _
      rw [onCell_of_some hcell]
      exact congrFun (withOption_of_above (h.resolve_left hc) _) _
  case cellRestart => exact ⟨_, fun _ => rfl, fun _ _ h => congrFun (onCell_of_above (of_decide_eq_true h) _) _⟩
  case stopClear => exact ⟨_, fun _ => rfl, fun _ _ h => congrFun (onCell_of_above (of_decide_eq_true h) _) _⟩
  case bankOpen => exact ⟨_, fun _ => rfl, fun _ _ h => onBank_refused h bankOpenOf_badOption⟩
  case bankRecipe =>
    refine ⟨_, fun _ => rfl, fun u _ h => bankWrite_refused h fun hp => ?_⟩
    simp only [Bool.or_eq_true, decide_eq_true_eq, or_assoc] at hp
    exact bankRecipeOf_badArgument (hp.imp recipeOfByte_of_above recipeOfBytes_of_bad_code) _
  case bankXlate =>
    refine ⟨_, fun _ => rfl, fun u _ h => bankWrite_refused h fun hp => ?_⟩
    simp only [Bool.or_eq_true, decide_eq_true_eq] at hp
    exact bankXlateOf_badArgument hp _
  case bankClass =>
    exact ⟨_, fun _ => rfl, fun u hlen h => bankWrite_refused h fun hp => bankClassOf_badList hlen hp _⟩
  case bankZone rq =>
    refine ⟨_, fun _ => rfl, fun u _ h => bankWrite_refused h fun hp => ?_⟩
    simp only [Bool.or_eq_true, decide_eq_true_eq, beq_iff_eq] at hp
    refine bankZoneOf_badArgument (hp.imp zoneOfByte_of_none fun hb => ?_) _
    rw [zoneOfBytes, boolOfByte_of_above (b := byteAt rq.args 2) hb]
    rfl
  case bankClose =>
    exact ⟨_, fun _ => rfl, fun _ _ h => congrFun (onBank_of_unnamed (Bool.not_eq_true' _ ▸ h) _) _⟩
  case bankDrop =>
    exact ⟨_, fun _ => rfl, fun _ _ h => congrFun (onBank_of_unnamed (Bool.not_eq_true' _ ▸ h) _) _⟩
  case bankLive =>
    exact ⟨_, fun _ => rfl, fun _ _ h => congrFun (onBank_of_unnamed (Bool.not_eq_true' _ ▸ h) _) _⟩
  case bankRead => exact ⟨_, fun _ => rfl, fun _ _ h => onBank_refused h fun hp => bankReadOf_refused hp _⟩
  case alertSet => exact ⟨_, fun _ => rfl, fun _ hlen h => alertSetWith_badList hlen h⟩
  case streamSet =>
    refine ⟨_, fun _ => rfl, fun _ _ h => ?_⟩
    simp only [State.namesNothing, Bool.and_eq_true, decide_eq_true_eq] at h
    exact streamSetWith_badBurst h.1 h.2
  case waferRead => exact ⟨_, fun _ => rfl, fun _ _ h => congrFun (onSlot_of_above (of_decide_eq_true h) _) _⟩
  case waferMark => exact ⟨_, fun _ => rfl, fun _ _ h => congrFun (onRecord_of_above (of_decide_eq_true h) _) _⟩
  case waferSeal => exact ⟨_, fun _ => rfl, fun _ _ h => congrFun (onSlot_of_above (of_decide_eq_true h) _) _⟩
  case waferDrop => exact ⟨_, fun _ => rfl, fun _ _ h => congrFun (onRecord_of_above (of_decide_eq_true h) _) _⟩
  case waferFree => exact ⟨_, fun _ => rfl, fun _ _ h => congrFun (onRecord_of_above (of_decide_eq_true h) _) _⟩
  case waferSend => exact ⟨_, fun _ => rfl, fun _ _ h => congrFun (onRecord_of_above (of_decide_eq_true h) _) _⟩
  case mapSend => exact ⟨_, fun _ => rfl, fun _ _ h => congrFun (onRecord_of_above (of_decide_eq_true h) _) _⟩
  case linkRead => exact ⟨_, fun _ => rfl, fun _ _ h => congrFun (withOption_of_above (of_decide_eq_true h) _) _⟩

theorem exec_resetAll_of_arguments {s : State} {rq : Request} (ht : s.takesNow 0x7F rq) (h : rq.args ≠ []) :
    exec (.resetAll rq) s = .next (s.withHall (s.answered 0x7F rq (bareReply .badArgument))) := by
  change execResetAll rq s = _
  rw [execResetAll, State.takeRequest_of_takesNow ht]
  dsimp only
  rw [if_neg h, State.respond_requestTaken]

/-- Settles O13: the length, then what the arguments name, then the name code, each refused with the take and the reply
alone. -/
theorem unfitRequestsChangeNothing : Obligations.UnfitRequestsChangeNothing := by
  refine ⟨fun i n name rq s hlen hn hr ht hne => ?_, fun i n name rq s hlen hn hr ht heq hnothing => ?_,
    fun name rq s hname ht => ?_⟩
  · by_cases hreset : i = .resetAll rq
    · subst hreset
      obtain rfl := Option.some.inj hlen
      obtain rfl := Option.some.inj hn
      exact exec_resetAll_of_arguments ht fun h => hne (congrArg List.length h)
    · obtain ⟨act, hexec, -⟩ := request_isSized hlen hn hr hreset
      exact (hexec s).trans (serve_onlyReplies ht (if_neg hne))
  · obtain ⟨act, hexec, hact⟩ := request_isSized hlen hn hr fun h => by
      rw [h] at hnothing
      exact nomatch hnothing
    refine (hexec s).trans (serve_onlyReplies ht ?_)
    rw [sized_of_length heq]
    exact hact s.requestTaken heq hnothing
  · have hknown : ¬ knownNames.contains name = true := by rwa [List.contains_iff_mem]
    exact (if_neg hknown).trans (serve_onlyReplies ht rfl)

end Sys2Proof.Machine

/-! SUPPORT. A record's contents apart from SUMMARY_OWED, which seals of other records may move; and what a cell restart
leaves (R21, R33, R91, R95, R137, R164, R182). -/

namespace Sys2Proof.Machine

set_option Elab.async false

/-! ## A record's contents -/

/-- The record in a slot with SUMMARY_OWED left out; none when the slot is FREE. -/
def State.content (s : State) (i : SlotId) : Option Record := (s.record i).map (·.withOwed false)

/-- From s to t the records keep everything but SUMMARY_OWED. -/
def State.sameContents (s t : State) : Prop := ∀ i, t.content i = s.content i

theorem State.sameContents.refl (s : State) : s.sameContents s := fun _ => rfl
theorem State.sameContents.trans {s t u : State} (h : s.sameContents t) (k : t.sameContents u) : s.sameContents u :=
  fun i => (k i).trans (h i)

section

variable {s t : State} {i j : SlotId} {r : Record}

theorem State.content_of_record (h : s.record i = some r) : s.content i = some (r.withOwed false) :=
  congrArg (Option.map _) h

theorem State.record_of_content (h : s.content i = some (r.withOwed false)) :
    ∃ b, s.record i = some (r.withOwed b) := by
  cases hq : s.record i with
  | none => rw [State.content, hq] at h; exact nomatch h
  | some q =>
    rw [State.content_of_record hq] at h
    refine ⟨q.flags.summaryOwed, congrArg some ?_⟩
    have hback : q = (q.withOwed false).withOwed q.flags.summaryOwed := rfl
    rw [hback, Option.some.inj h]
    rfl

theorem State.content_eq_none : s.content i = none ↔ s.record i = none := Option.map_eq_none_iff

theorem State.content_congr (h : t.record i = s.record i) : t.content i = s.content i := congrArg (Option.map _) h

theorem State.changesOnly.contents {bs : List Block} (h : s.changesOnly t bs) (hb : .dir ∉ bs := by decide) :
    s.sameContents t := fun i => State.content_congr (h.record i hb)

theorem State.content_setSlot (s : State) (i j : SlotId) (v : Option Record) :
    (s.setSlot i v).content j = if j = i then v.map (·.withOwed false) else s.content j := by
  rw [State.content, State.record_setSlot]
  split <;> rfl

theorem State.setOwedFlag_contents (s : State) (i : SlotId) (b : Bool) : s.sameContents (s.setOwedFlag i b) := fun j => by
  rw [State.content, State.record_setOwedFlag]
  split
  · next h =>
    rw [h, State.content]
    cases s.record i <;> rfl
  · rfl

theorem State.dropOwed_contents (s : State) (i : SlotId) : s.sameContents (s.dropOwed i) := by
  unfold State.dropOwed
  split
  · exact (s.setOwedFlag_contents i false).trans (State.withXport_changes _ _).contents
  · exact .refl s

theorem State.fillPlace_contents (s : State) : s.sameContents s.fillPlace := by
  unfold State.fillPlace
  split
  · exact .refl s
  · exact (s.setOwedFlag_contents _ false).trans (State.withXport_changes _ _).contents

theorem State.removeSum_contents (s : State) (e : SlotId × SumKind) : s.sameContents (s.removeSum e) := by
  unfold State.removeSum
  split
  · exact (s.withXport_changes _).contents.trans (State.fillPlace_contents _)
  · exact .refl s

theorem State.queueFinal_contents (s : State) (i : SlotId) : s.sameContents (s.queueFinal i) := by
  unfold State.queueFinal
  split
  · exact .refl s
  · split
    · exact (s.withXport_changes _).contents
    · split
      · exact (s.withXport_changes _).contents
      · exact (s.setOwedFlag_contents _ true).trans (State.withXport_changes _ _).contents

theorem State.handToExport_contents (s : State) (i : SlotId) : s.sameContents (s.handToExport i) :=
  (s.removeSum_contents _).trans (State.queueFinal_contents _ i)

theorem State.content_sealSlot (hr : s.record i = some r) (ha : r.isActive = true) (w : Option CloseReason) (j : SlotId) :
    (s.sealSlot i w).content j =
      if j = i then some ((r.judgedAs w s.time (s.recipeOf r)).withOwed false) else s.content j := by
  rw [State.content_congr (State.record_sealSlot hr ha w j), State.handToExport_contents, State.content,
    State.record_judged]
  split <;> rfl

theorem State.content_sealSlot_other (s : State) (hj : j ≠ i) (w : Option CloseReason) :
    (s.sealSlot i w).content j = s.content j := by
  by_cases hidle : ∀ r, s.record i = some r → r.isActive = false
  · rw [State.sealSlot_of_idle hidle]
  · push Not at hidle
    obtain ⟨r, hr, ha⟩ := hidle
    rw [State.content_sealSlot hr (Bool.eq_true_of_not_eq_false ha), if_neg hj]

theorem State.content_sealIf_other (s : State) {o : Option SlotId} (ho : o ≠ some j) (w : CloseReason) :
    (s.sealIf o w).content j = s.content j := by
  cases o with
  | none => rfl
  | some i => exact s.content_sealSlot_other (fun h => ho (congrArg some h.symm)) _

/-- A record sealed with a reason is CLOSED with it, its key, cell and counts as they were. -/
theorem State.sealIf_seals (hr : s.record i = some r) (ha : r.isActive = true) (w : CloseReason) :
    (s.sealIf (some i) w).content i = some ((r.judgedAs (some w) s.time (s.recipeOf r)).withOwed false) := by
  rw [State.sealIf, State.content_sealSlot hr ha, if_pos rfl]

/-! ## Which slots a cell's records are in -/

theorem State.closingOn_ne_openOn {c d : CellId} (hc : s.closingOn c = some i) (ho : s.openOn d = some j) : i ≠ j := by
  rintro rfl
  obtain ⟨r, hr, -⟩ := State.findSlot_some hc
  exact nomatch (State.closingOn_spec hc hr).1.symm.trans (State.openOn_spec ho hr).1

end

/-! ## A cell restart (R21, R33, R95, R137, R182) -/

section

variable (s : State) (c : CellId)

/-- Steps 1 to 3 of a cell restart. -/
def State.cleared : State := ((s.flushPort c).restartLines c).restartRuns c

theorem State.cleared_changes : s.changesOnly (s.cleared c) [.cells, .sent] :=
  (s.flushPort_changes c).trans (((State.modCell_changes _ c _).mono).trans (State.modCell_changes _ c _).mono)

theorem State.cell_cleared : (s.cleared c).cell c = { s.cell c with
    fifo := [], flow := .go, tracker := none, counts := .zero, pendingLoad := none, lastUnload := none
    stopLatch := false, runs := .replicate 16 0, suspects := .replicate 16 false } := by
  rw [State.cleared, State.restartRuns, State.cell_modCell_same, State.restartLines, State.cell_modCell_same,
    State.cell_flushPort, if_pos rfl]

theorem State.cleared_cellsKeptBut : s.cellsKeptBut (s.cleared c) c := fun d hd => by
  rw [State.cleared, State.restartRuns, State.modCell_cellsKeptBut _ c _ d hd, State.restartLines,
    State.modCell_cellsKeptBut _ c _ d hd, State.cell_flushPort, if_neg hd]

theorem State.sent_cleared : (s.cleared c).sent = s.sent ++
    (if (s.cell c).flow = .hold ∧ (s.cell c).cfg.mode ≠ .off then [.flow c .go] else []) := by
  have hrest : (s.flushPort c).changesOnly (s.cleared c) [.cells] :=
    (State.modCell_changes _ c _).trans (State.modCell_changes _ c _)
  have hmod := s.modCell_changes c fun k => { k with fifo := [], tracker := none, counts := .zero }
  rw [hrest.sent, State.flushPort, State.sent_setFlow, State.cell_modCell_same, hmod.sent]
  cases hf : (s.cell c).flow with
  | go => simp
  | hold => cases hm : (s.cell c).cfg.mode <;> simp

theorem State.restartCell_eq : s.restartCell c =
    ((s.cleared c).sealIf (s.closingOn c) .restart).sealIf (s.openOn c) .restart := by
  have h := s.cleared_changes c
  rw [State.restartCell, State.restartRecords]
  change ((s.cleared c).sealIf ((s.cleared c).closingOn c) .restart).sealIf ((s.cleared c).openOn c) .restart = _
  rw [h.closingOn c, h.openOn c]

theorem State.restartCell_changes :
    s.changesOnly (s.restartCell c) [.cells, .banks, .dir, .alerts, .xport, .tags, .sent] := by
  rw [State.restartCell_eq]
  exact (s.cleared_changes c).mono.trans (((State.sealIf_changes _ _ _).mono).trans (State.sealIf_changes _ _ _).mono)

theorem State.sent_restartCell : (s.restartCell c).sent = s.sent ++
    (if (s.cell c).flow = .hold ∧ (s.cell c).cfg.mode ≠ .off then [.flow c .go] else []) := by
  rw [State.restartCell_eq, (State.sealIf_changes _ _ _).sent, (State.sealIf_changes _ _ _).sent, State.sent_cleared]

theorem State.restartCell_timed : ((s.cleared c).cell c).onlyTimed ((s.restartCell c).cell c) := by
  have h := s.cleared_changes c
  rw [State.restartCell_eq]
  have hclosing : ∀ i r, s.closingOn c = some i → (s.cleared c).record i = some r → r.cell = c := fun i r hi hr =>
    (State.closingOn_spec hi ((h.record i).symm.trans hr)).2
  have hopen : ∀ i r, s.openOn c = some i → ((s.cleared c).sealIf (s.closingOn c) .restart).record i = some r →
      r.cell = c := fun i r hi => State.cell_sealIf_record (fun q hq =>
    (State.openOn_spec hi ((h.record i).symm.trans hq)).2) _ _ r
  exact (State.sealIf_closesOn hclosing .restart).timed c |>.trans ((State.sealIf_closesOn hopen .restart).timed c)

/-- Both records of the cell seal with RESTART. -/
theorem State.content_restartCell {i : SlotId} {r : Record} (hi : s.closingOn c = some i ∨ s.openOn c = some i)
    (hr : s.record i = some r) : ∃ rc b, (s.restartCell c).content i =
      some (((r.withOwed b).judgedAs (some .restart) s.time rc).withOwed false) := by
  have h := s.cleared_changes c
  have hrec : (s.cleared c).record i = some r := (h.record i).trans hr
  rw [State.restartCell_eq, ← h.time]
  rcases hi with hi | hi
  · have hne : s.openOn c ≠ some i := fun ho => State.closingOn_ne_openOn hi ho rfl
    rw [State.content_sealIf_other _ hne, hi]
    exact ⟨_, r.flags.summaryOwed, State.sealIf_seals hrec (Record.isActive_iff.2 (.inr (State.closingOn_spec hi hr).1)) _⟩
  · have hact := Record.isActive_iff.2 (.inl (State.openOn_spec hi hr).1)
    have hne : s.closingOn c ≠ some i := fun hc => State.closingOn_ne_openOn hc hi rfl
    have hfirst := State.sealIf_changes (s.cleared c) (s.closingOn c) .restart
    obtain ⟨b, hb⟩ := State.record_of_content
      ((State.content_sealIf_other (s.cleared c) hne .restart).trans (State.content_of_record hrec))
    rw [hi, State.sealIf_seals hb hact, hfirst.time]
    exact ⟨_, b, rfl⟩

end

theorem exec_cellRestart {s : State} {rq : Request} {c : CellId} (ht : s.takesNow 0x12 rq)
    (hargs : rq.args = [natByte c.val]) : exec (.cellRestart rq) s = .next ((s.requestTaken.restartCell c).respond 0x12 rq
      (okReply [indexByte (s.closingOn c), indexByte (s.openOn c)])) := by
  refine serve_sized (act := fun a => onCell (byteAt a 0) fun c s =>
    (s.restartCell c, okReply [indexByte (s.closingOn c), indexByte (s.openOn c)])) ht (by rw [hargs]; rfl) ?_
  rw [hargs, byteAt_cons_zero, onCell_natByte]
  rfl

/-- Settles O46: the flush, the lines and the runs, and then the two seals. -/
theorem cellRestartFlushesAndSeals : Obligations.CellRestartFlushesAndSeals := by
  intro s rq c ht hargs
  have hchanges := s.requestTaken.restartCell_changes c
  have hreply := State.respond_changes (s.requestTaken.restartCell c) 0x12 rq
    (okReply [indexByte (s.closingOn c), indexByte (s.openOn c)])
  have hcell : ((s.requestTaken.restartCell c).respond 0x12 rq
      (okReply [indexByte (s.closingOn c), indexByte (s.openOn c)])).cell c = _ :=
    (hreply.cell c).trans (s.requestTaken.restartCell_timed c)
  rw [State.cell_cleared] at hcell
  refine ⟨_, exec_cellRestart ht hargs, by rw [hcell], by rw [hcell], by rw [hcell], by rw [hcell], by rw [hcell]; rfl,
    by rw [hcell]; rfl, by rw [hcell]; rfl, by rw [hcell], by rw [hcell], fun k => ?_, fun i r hi hr => ?_, ?_,
    State.hall_respond hchanges 0x12 rq _, fun hc ho => ?_⟩
  · rw [hcell]
    exact ⟨Vector.getElem_replicate k.isLt, Vector.getElem_replicate k.isLt⟩
  · obtain ⟨rc, b0, hcontent⟩ := s.requestTaken.content_restartCell c hi hr
    obtain ⟨b, hb⟩ := State.record_of_content hcontent
    exact ⟨_, (hreply.record i).trans hb, rfl, rfl, rfl, rfl, rfl⟩
  · rw [hreply.sent, State.sent_restartCell]
    rfl
  · have heq : s.requestTaken.restartCell c = s.requestTaken.cleared c := by
      have hc' : s.requestTaken.closingOn c = none := hc
      have ho' : s.requestTaken.openOn c = none := ho
      rw [State.restartCell_eq, hc', ho']
      rfl
    have hlatch : (((s.requestTaken.restartCell c).respond 0x12 rq
        (okReply [indexByte (s.closingOn c), indexByte (s.openOn c)])).cell c).stopLatch = false := by
      rw [hreply.cell, heq, State.cell_cleared]
    refine ⟨hlatch, ?_, ?_, ?_⟩
    · rw [State.stopLine_running, hlatch]
    · refine State.cellsKeptBut.trans ?_ (hreply.cellsKeptBut c)
      rw [heq]
      exact s.requestTaken.cleared_cellsKeptBut c
    · refine State.served_changes (bs := [.cells, .sent]) ?_ 0x12 rq _
      rw [heq]
      exact s.requestTaken.cleared_changes c

end Sys2Proof.Machine

/-! SUPPORT. A request's frame runs its command; the alert levels and the stream settings (R140, R157, R176, R177, R200). -/

namespace Sys2Proof.Machine

set_option Elab.async false

/-! ## A request's frame (R176, R177) -/

theorem ofRequest_spells {i : Instr} {name : Byte} {rq : Request} (hw : i.wellFormed = true)
    (hn : i.nameCode = some name) (hr : i.request = some rq) : Instr.ofRequest name rq = i := by
  cases i <;> simp only [Instr.nameCode, Instr.request, Option.some.injEq, reduceCtorEq] at hn hr <;> subst hn hr
  case unknownRequest n rq => exact Sys2Proof.Laws.OfRequest.unknownRequest n rq n rq hw rfl rfl
  all_goals rfl

theorem unknown_of_wellFormed {i : Instr} (hw : i.wellFormed = true) (n : Byte) (r : Request)
    (h : i = .unknownRequest n r) : knownNames.contains n = false := by
  rw [h] at hw
  simp only [Instr.wellFormed, Bool.and_eq_true, Bool.not_eq_true'] at hw
  exact hw.1

/-- What a request taken now does is said by the state its take leaves. -/
theorem exec_of_requestTaken {i : Instr} {name : Byte} {rq : Request} (hw : i.wellFormed = true)
    (hn : i.nameCode = some name) (hr : i.request = some rq) {s u : State} (hs : s.takesNow name rq)
    (hu : u.takesNow name rq) (h : s.requestTaken = u.requestTaken) : exec i s = exec i u := by
  by_cases hreset : i = .resetAll rq
  · subst hreset
    obtain rfl := Option.some.inj hn
    change execResetAll rq s = execResetAll rq u
    rw [execResetAll, execResetAll, State.takeRequest_of_takesNow hs, State.takeRequest_of_takesNow hu, h]
  · obtain ⟨act, -, hexec⟩ := request_isServed (unknown_of_wellFormed hw) hn hr hreset
    rw [hexec, hexec, serve, serve, State.takeRequest_of_takesNow hs, State.takeRequest_of_takesNow hu, h]

theorem Request.length_args {i : Instr} {name : Byte} {rq : Request} (hw : i.wellFormed = true)
    (hn : i.nameCode = some name) (hr : i.request = some rq) : rq.args.length ≤ 1022 := by
  have hcap : Config.maxPayload = 1024 := rfl
  have hrq : rq.wellFormed = true := by
    cases i <;> simp only [Instr.nameCode, Instr.request, Option.some.injEq, reduceCtorEq] at hn hr <;> subst hn hr
    case unknownRequest =>
      simp only [Instr.wellFormed, Bool.and_eq_true] at hw
      exact hw.2
    all_goals exact hw
  simp only [Request.wellFormed, decide_eq_true_eq] at hrq
  omega

/-- Settles O11: the frame's entry is alone in the FIFO, and taking it leaves what taking the request at once leaves. -/
theorem requestFrameRunsItsCommand : Obligations.RequestFrameRunsItsCommand := by
  intro i name rq s hw hn hr hnil haddr
  have hrx : s.receiveHall (requestFrame name rq).wire =
      { s.hall.rx with isOpen := false, fifo := [{ name := name, rq := rq }] } := by
    rw [receiveHall_request name (Request.length_args hw hn hr), if_pos haddr, HallRx.join]
    simp [hnil, Config.rxCap]
  refine ⟨s.setRx (s.receiveHall (requestFrame name rq).wire), rfl, by rw [hrx]; rfl, ofRequest_spells hw hn hr,
    fun hroom => ?_⟩
  rw [hrx]
  refine exec_of_requestTaken hw hn hr ⟨hroom, .inr rfl⟩ ⟨hroom, .inl ⟨hnil, haddr⟩⟩ ?_
  rw [State.requestTaken, State.requestTaken]
  simp only [State.setRx, State.withHall, hnil, List.tail_cons, List.tail_nil]

/-! ## ALERT_SET (R140) -/

theorem kindOfByte_code (k : AlertKind) : kindOfByte k.code = some k := by cases k <;> rfl

theorem AlertKind.index_injective : Function.Injective AlertKind.index := fun a b h => by
  cases a <;> cases b <;> first | rfl | exact absurd h (by decide)

/-- A pair as an ALERT_SET stores it, a level above 7 as 7. -/
def storedPair (p : AlertKind × Byte) : AlertKind × Fin 8 := (p.1, clampFin 7 p.2.toNat)

theorem parsePairs_pairs (ps : List (AlertKind × Byte)) :
    parsePairs (ps.flatMap fun p => [p.1.code, p.2]) = some (ps.map storedPair) := by
  induction ps with
  | nil => rfl
  | cons p ps ih =>
    simp only [List.flatMap_cons, List.cons_append, List.nil_append, parsePairs, kindOfByte_code, ih]
    rfl

/-- The last pair of a kind in the list gives its level. -/
theorem foldl_levels (ps : List (AlertKind × Byte)) (v : Vector (Fin 8) 15) (k : AlertKind) :
    (((ps.map storedPair).foldl (fun v p => v.set p.1.index.val p.2) v)[k.index.val]).val =
      match ps.reverse.find? fun p => p.1 == k with
      | none => (v[k.index.val]).val
      | some p => min p.2.toNat 7 := by
  induction ps using List.reverseRecOn with
  | nil => rfl
  | append_singleton ps p ih =>
    rw [List.map_append, List.foldl_append, List.reverse_append]
    simp only [List.map_cons, List.map_nil, List.foldl_cons, List.foldl_nil, List.reverse_singleton, List.singleton_append,
      List.find?_cons, storedPair]
    by_cases hk : p.1 = k
    · simp [hk, clampFin]
    · have hne : p.1.index.val ≠ k.index.val := fun h => hk (AlertKind.index_injective (Fin.ext h))
      rw [Vector.getElem_set_ne _ _ hne, beq_false_of_ne hk]
      exact ih

theorem exec_alertSet {s : State} {rq : Request} {m th : Byte} {ps : List (AlertKind × Byte)} (ht : s.takesNow 0x30 rq)
    (hlen : ps.length ≤ 15) (hargs : rq.args = [m, th, natByte ps.length] ++ ps.flatMap fun p => [p.1.code, p.2]) :
    exec (.alertSet rq) s = .next ((s.requestTaken.withAlerts (s.alerts.update rq.args (ps.map storedPair))).respond 0x30 rq
      (okReply (s.alerts.update rq.args (ps.map storedPair)).tableBytes)) := by
  have hn : (byteAt rq.args 2).toNat = ps.length := by
    rw [hargs]
    exact toNat_natByte (by omega)
  have hflat : (ps.flatMap fun p => [p.1.code, p.2]).length = 2 * ps.length := by
    rw [List.length_flatMap]
    simp [Nat.mul_comm]
  have hsize : rq.args.length = 3 + 2 * (byteAt rq.args 2).toNat := by
    rw [hn, hargs, List.length_append, hflat]
    rfl
  refine serve_sized ht hsize ?_
  rw [alertSetWith, if_neg (by rw [hn]; omega)]
  have hdrop : rq.args.drop 3 = ps.flatMap fun p => [p.1.code, p.2] := by rw [hargs]; rfl
  rw [hdrop, parsePairs_pairs]
  rfl

/-! ## STREAM_SET (R157) -/

theorem exec_streamSet {s : State} {rq : Request} {on : Bool} (ht : s.takesNow 0x31 rq) (hlen : rq.args.length = 7)
    (hburst : masked (byteAt rq.args 0) 5 s.hall.burst (boolOfByte (byteAt rq.args 6)) = some on) :
    exec (.streamSet rq) s = .next ((s.requestTaken.withHall { s.requestTaken.hall with
      prio := prioritiesOf s.hall.prio rq.args, burst := on }).respond 0x31 rq
        (okReply (((prioritiesOf s.hall.prio rq.args).toList.map fun p => natByte p.val) ++ [boolByte on]))) := by
  refine serve_sized ht hlen ?_
  have hburst' : masked (byteAt rq.args 0) 5 s.requestTaken.hall.burst (boolOfByte (byteAt rq.args 6)) = some on := hburst
  rw [streamSetWith, hburst']
  rfl

theorem prioritiesOf_get (old : Vector (Fin 4) 5) (a : List Byte) (k : Fin 5) : ((prioritiesOf old a)[k.val]).val =
    if (byteAt a 0).getLsbD k.val then min (byteAt a (k.val + 1)).toNat 3 else (old[k.val]).val := by
  rw [prioritiesOf, Vector.getElem_ofFn]
  unfold maskBit
  split <;> rfl

theorem Vector.toList_five {α : Type} (v : Vector α 5) : v.toList = [v[0], v[1], v[2], v[3], v[4]] := by
  refine List.ext_getElem (by simp) fun n h _ => ?_
  have hn : n < 5 := by simpa using h
  rw [Vector.getElem_toList]
  match n with
  | 0 | 1 | 2 | 3 | 4 => rfl

/-- Settles O54: the levels and the threshold of an ALERT_SET, the priorities and the burst setting of a STREAM_SET. -/
theorem alertAndStreamSettingsAreStored : Obligations.AlertAndStreamSettingsAreStored := by
  refine fun s rq m => ⟨fun th ps ht hlen hargs => ?_, fun p0 p1 p2 p3 p4 b on ht hargs hburst => ?_⟩
  · have hm : byteAt rq.args 0 = m := by rw [hargs]; rfl
    have hth : byteAt rq.args 1 = th := by rw [hargs]; rfl
    have hchanges := s.requestTaken.withAlerts_changes (s.alerts.update rq.args (ps.map storedPair))
    have halerts := (State.respond_changes (s.requestTaken.withAlerts (s.alerts.update rq.args (ps.map storedPair))) 0x30 rq
      (okReply (s.alerts.update rq.args (ps.map storedPair)).tableBytes)).alerts
    refine ⟨_, exec_alertSet ht hlen hargs, by rw [halerts]; rfl, fun k => ?_, ?_, ?_, State.served_changes hchanges 0x30 rq _⟩
    · rw [halerts]
      exact foldl_levels ps s.alerts.levels k
    · rw [halerts]
      change Fin.val (if maskBit (byteAt rq.args 0) 0 then clampThreshold (byteAt rq.args 1) else s.alerts.threshold) = _
      rw [hm, hth, maskBit]
      split
      · change min (max 1 th.toNat) 8 = _
        omega
      · rfl
    · rw [State.hall_respond hchanges 0x30 rq, halerts]
      rfl
  · have hm : byteAt rq.args 0 = m := by rw [hargs]; rfl
    have hb : byteAt rq.args 6 = b := by rw [hargs]; rfl
    have hmasked : masked (byteAt rq.args 0) 5 s.hall.burst (boolOfByte (byteAt rq.args 6)) = some on := by
      rw [hm, hb]
      exact masked_eq_some hburst
    have hexec := exec_streamSet ht (by rw [hargs]; rfl) hmasked
    rw [State.respond_eq] at hexec
    refine ⟨_, hexec, fun st => ?_, ?_, (s.requestTaken_changes.trans (State.withHall_changes _ _)).trans
      (State.withHall_changes _ _)⟩
    · refine (prioritiesOf_get s.hall.prio rq.args st.index).trans ?_
      rw [hm, hargs, byteAt_cons_succ]
      cases st <;> rfl
    · rw [Vector.toList_five]
      rfl

end Sys2Proof.Machine

/-! SUPPORT. The engine's take and what is forwarded without a record (R2, R13, R17 to R19, R56, R67, R69, R197). -/

namespace Sys2Proof.Machine

set_option Elab.async false

/-! ## The next cell (R17, R18) -/

theorem cellsAfter_eq (e : CellId) : cellsAfter e = (List.finRange 8).map (e + 1 + ·) := by
  revert e
  decide

section

variable {s : State} {c : CellId}

theorem State.nextCell_of_first {k : Fin 8} (hk : s.eligible (s.engine + 1 + k) = true)
    (hfirst : ∀ j, j < k → s.eligible (s.engine + 1 + j) = false) : s.nextCell = some (s.engine + 1 + k) := by
  rw [State.nextCell, cellsAfter_eq, List.find?_map, ← Fin.find?_eq_find?_finRange]
  have hfind : Fin.find? (s.eligible ∘ (s.engine + 1 + ·)) = some k := Fin.find?_eq_some_iff.2 ⟨hk, hfirst⟩
  rw [hfind]
  rfl

theorem State.nextCell_of_none (h : ∀ c, s.eligible c = false) : s.nextCell = none :=
  List.find?_eq_none.2 fun c _ hc => Bool.noConfusion ((h c).symm.trans hc)

theorem State.fifo_of_eligible (h : s.eligible c = true) : ∃ e rest, (s.cell c).fifo = e :: rest := by
  rw [State.eligible, Bool.and_eq_true] at h
  cases hf : (s.cell c).fifo with
  | nil => simp [hf] at h
  | cons e rest => exact ⟨e, rest, rfl⟩

/-! ## The state the take leaves (R18, R19) -/

theorem State.changesOnly.engine {t : State} {bs : List Block} (h : s.changesOnly t bs)
    (hb : .engine ∉ bs := by decide) : t.engine = s.engine := h .engine hb

theorem State.taken_changes (s : State) (c : CellId) : s.changesOnly (s.taken c) [.cells, .sent, .engine] :=
  (s.popFifo_changes c).seq (State.withEngine_changes _ c)

theorem State.cell_taken (s : State) (c : CellId) : (s.taken c).cell c = { s.cell c with
    fifo := (s.cell c).fifo.tail
    flow := if (s.cell c).flow = .hold ∧ (s.cell c).fifo.tail.length = 8 then .go else (s.cell c).flow } :=
  (s.cell_popFifo c c).trans (if_pos rfl)

theorem State.taken_cellsKeptBut (s : State) (c : CellId) : s.cellsKeptBut (s.taken c) c := fun d hd =>
  (s.cell_popFifo c d).trans (if_neg hd)

theorem State.sent_taken (s : State) (c : CellId) : (s.taken c).sent = s.sent ++
    (if ((s.cell c).flow = .hold ∧ (s.cell c).fifo.tail.length = 8) ∧ (s.cell c).cfg.mode ≠ .off then [.flow c .go]
      else []) := by
  have hcap : Config.goAt = 8 := rfl
  have hmod : (s.modCell c fun k => { k with fifo := k.fifo.tail }).sent = s.sent := (s.modCell_changes c _).sent
  change (s.popFifo c).sent = _
  unfold State.popFifo
  dsimp only
  rw [State.cell_modCell_same, hcap]
  by_cases h : (s.cell c).flow = .hold ∧ (s.cell c).fifo.tail.length = 8
  · rw [if_pos h, State.sent_setFlow, State.cell_modCell_same, hmod]
    simp only [h, true_and]
    cases (s.cell c).cfg.mode <;> simp
  · rw [if_neg h, hmod, if_neg fun hn => h hn.1, List.append_nil]

theorem State.taken_changes_of_off (h : (s.cell c).cfg.mode = .off) : s.changesOnly (s.taken c) [.cells, .engine] := by
  have hpop : s.changesOnly (s.popFifo c) [.cells] := by
    unfold State.popFifo
    dsimp only
    have hmod := s.modCell_changes c fun k => { k with fifo := k.fifo.tail }
    split
    · refine hmod.trans ?_
      unfold State.setFlow
      rw [State.cell_modCell_same]
      split
      · exact .refl _ _
      · exact State.modCell_changes _ c _
    · exact hmod
  exact hpop.seq (State.withEngine_changes _ c)

theorem exec_engineTake {e : FifoEntry} {rest : List FifoEntry} (hn : s.nextCell = some c)
    (hf : (s.cell c).fifo = e :: rest) :
    exec .engineTake s = .next ((s.taken c).handleFrame c (s.cell c).cfg.mode e) := by
  change execEngineTake s = _
  simp only [execEngineTake, hn, State.takeFrom, hf]

end

/-- Settles O26: the take pops the cell's FIFO and names the cell; the handling moves no FIFO, flow state or output. -/
theorem engineServesCellsInTurn : Obligations.EngineServesCellsInTurn := by
  refine fun s => ⟨fun k hk hfirst => ?_, fun hnone => ?_⟩
  · obtain ⟨e, rest, hf⟩ := State.fifo_of_eligible hk
    have hexec := exec_engineTake (State.nextCell_of_first hk hfirst) hf
    generalize s.engine + 1 + k = c at hexec hf ⊢
    have hports := (State.handleFrame_handles (L := False) (s := s.taken c) nofun c (s.cell c).cfg.mode e).portsKept
    have hblocks := State.handleFrame_changes (s.taken c) c (s.cell c).cfg.mode e
    have hcell := s.cell_taken c
    have hlen : (s.cell c).fifo.tail.length = 8 ↔ (s.cell c).fifo.length = 9 := by
      rw [List.length_tail, hf, List.length_cons]
      omega
    simp only [hlen] at hcell
    refine ⟨_, hexec, hblocks.engine, by rw [(hports c).1, hcell], ?_, fun d hd => ?_⟩
    · rw [(hports c).2, hblocks.sent, hcell, State.sent_taken]
      simp only [hlen]
      split
      · next h =>
        refine ⟨rfl, ?_⟩
        cases hm : (s.cell c).cfg.mode <;> simp [h]
      · next h => exact ⟨rfl, by rw [if_neg fun hn => h hn.1, List.append_nil]⟩
    · rw [(hports d).1, s.taken_cellsKeptBut c d hd]
  · change execEngineTake s = _
    rw [execEngineTake, State.nextCell_of_none hnone]

/-! ## Frames that are not collated (R56, R67, R69) -/

section

variable {s : State} {c : CellId}

theorem SiteNote.flatMap_plain {α : Type} (es : List α) (v : Verdict) :
    (es.map fun _ => plainNote v).flatMap SiteNote.bytes = es.flatMap fun _ => [0xFF, 0xFF, v.code, 0] := by
  rw [List.flatMap_map]
  rfl

/-- The copy of a touchdown that names no record, one verdict for every site. -/
theorem State.fwdTouchdown_plain (s : State) (c : CellId) (route : Byte) (td : Touchdown) (v : Verdict) :
    fwdTouchdown s c route td none (td.entries.map fun _ => plainNote v) =
      s.touchdownCopy c route td noPlace (td.entries.flatMap fun _ => [0xFF, 0xFF, v.code, 0]) := by
  rw [fwdTouchdown, SiteNote.flatMap_plain]
  simp only [annotation, State.touchdownCopy, noPlace, State.routeByte, Option.bind_none, List.append_assoc]
  rfl

/-- The copy of a marker that names no record. -/
theorem State.fwdMarker_plain (s : State) (c : CellId) (route : Byte) (m : Marker) :
    fwdMarker s c route m none = s.markerCopy c route m noPlace := by
  simp only [fwdMarker, annotation, State.markerCopy, noPlace, State.routeByte, Option.bind_none, List.append_assoc]
  rfl

theorem State.collatingBank_of_none {m : Mode} (h : m.collates = false ∨ s.liveBank = none) : s.collatingBank m = none := by
  unfold State.collatingBank
  split
  · next hc => exact h.resolve_left fun hf => Bool.noConfusion (hc.symm.trans hf)
  · rfl

theorem State.liveBank_taken (s : State) (c : CellId) : (s.taken c).liveBank = s.liveBank := by
  simp only [State.liveBank, (s.taken_changes c).banks]

theorem State.collatingBank_taken (s : State) (c : CellId) (m : Mode) :
    (s.taken c).collatingBank m = s.collatingBank m := by
  rw [State.collatingBank, State.liveBank_taken]
  rfl

/-- A frame with no bank to collate it with is forwarded as its plain copy, or discarded. -/
def State.plainCopy (s : State) (c : CellId) : FifoEntry → OutFrame
  | .touchdown route td _ => s.touchdownCopy c route td noPlace (td.entries.flatMap fun _ => [0xFF, 0xFF, 0, 0])
  | .marker route m => s.markerCopy c route m noPlace

theorem State.handleFrame_uncollated {m : Mode} (h : s.collatingBank m = none) (c : CellId) (e : FifoEntry) :
    s.handleFrame c m e = if m.forwards then s.forward (s.plainCopy c e) else s := by
  cases e with
  | touchdown route td gap =>
    simp only [State.handleFrame, h, State.unboundTouchdown, State.fwdTouchdown_plain]
    rfl
  | marker route m0 =>
    simp only [State.handleFrame, h, State.forwardMarker, State.fwdMarker_plain]
    rfl

theorem State.plainCopy_taken (s : State) (c : CellId) (e : FifoEntry) : (s.taken c).plainCopy c e = s.plainCopy c e := by
  have hnode := (s.taken_changes c).node
  cases e with
  | touchdown => simp only [State.plainCopy, State.touchdownCopy, hnode]
  | marker => simp only [State.plainCopy, State.markerCopy, hnode]

theorem State.cell_taken_of_fifo {e : FifoEntry} {rest : List FifoEntry} (hf : (s.cell c).fifo = e :: rest) :
    (s.taken c).cell c = { s.cell c with fifo := rest, flow := ((s.taken c).cell c).flow } := by
  rw [State.cell_taken, hf]
  rfl

theorem exec_engineTake_forwards {e : FifoEntry} {rest : List FifoEntry} (hn : s.nextCell = some c)
    (hf : (s.cell c).fifo = e :: rest)
    (hm : (s.cell c).cfg.mode = .forward ∨ ((s.cell c).cfg.mode = .collate ∧ s.liveBank = none)) :
    exec .engineTake s = .next ((s.taken c).forward (s.plainCopy c e)) := by
  have hbank : (s.taken c).collatingBank (s.cell c).cfg.mode = none := by
    rw [State.collatingBank_taken]
    rcases hm with hm | ⟨-, hlive⟩
    · exact State.collatingBank_of_none (.inl (by rw [hm]; rfl))
    · exact State.collatingBank_of_none (.inr hlive)
  have hfwd : (s.cell c).cfg.mode.forwards = true := by
    rcases hm with hm | ⟨hm, -⟩ <;> rw [hm] <;> rfl
  rw [exec_engineTake hn hf, State.handleFrame_uncollated hbank, if_pos hfwd, State.plainCopy_taken]

theorem exec_engineTake_discards {e : FifoEntry} {rest : List FifoEntry} (hn : s.nextCell = some c)
    (hf : (s.cell c).fifo = e :: rest)
    (hm : (s.cell c).cfg.mode = .off ∨ ((s.cell c).cfg.mode = .silent ∧ s.liveBank = none)) :
    exec .engineTake s = .next (s.taken c) := by
  have hbank : (s.taken c).collatingBank (s.cell c).cfg.mode = none := by
    rw [State.collatingBank_taken]
    rcases hm with hm | ⟨-, hlive⟩
    · exact State.collatingBank_of_none (.inl (by rw [hm]; rfl))
    · exact State.collatingBank_of_none (.inr hlive)
  have hfwd : (s.cell c).cfg.mode.forwards ≠ true := by
    rcases hm with hm | ⟨hm, -⟩ <;> rw [hm] <;> decide
  rw [exec_engineTake hn hf, State.handleFrame_uncollated hbank, if_neg hfwd]

theorem State.forward_taken_changes (s : State) (c : CellId) (f : OutFrame) :
    s.changesOnly ((s.taken c).forward f) [.cells, .engine, .hall, .sent] :=
  (s.taken_changes c).mono.trans ((s.taken c).withHall_changes _).mono

theorem State.hall_forward_taken (s : State) (c : CellId) (f : OutFrame) :
    ((s.taken c).forward f).hall = { s.hall with fwd := s.hall.fwd ++ [f] } := by
  rw [State.forward, State.withHall_hall, (s.taken_changes c).hall]

end

/-- Settles O27: the frame is forwarded plain, or discarded, and its cell keeps all but its FIFO and its flow state. -/
theorem uncollatedFramesAreForwardedOrDiscarded : Obligations.UncollatedFramesAreForwardedOrDiscarded := by
  intro s c route rest hn
  have hkept := s.taken_cellsKeptBut c
  refine ⟨fun td gap hf hm => ?_, fun m hf hm => ?_, fun e hf hm hlive => ?_, fun e hf hm => ?_⟩
  · have hcell := State.cell_taken_of_fifo hf
    refine ⟨_, exec_engineTake_forwards hn hf hm, congrArg Cell.fifo hcell, ?_, hcell, hkept, s.forward_taken_changes c _⟩
    rw [State.hall_forward_taken, State.plainCopy, State.touchdownCopy, noPlace, List.append_assoc td.bytes]
    rfl
  · refine ⟨_, exec_engineTake_forwards hn hf hm, ?_, State.cell_taken_of_fifo hf, hkept, s.forward_taken_changes c _⟩
    rw [State.hall_forward_taken, State.plainCopy, State.markerCopy, noPlace, List.append_assoc]
    rfl
  · exact ⟨_, exec_engineTake_discards hn hf (.inr ⟨hm, hlive⟩), State.cell_taken_of_fifo hf, hkept,
      (s.taken_changes c).mono⟩
  · have hcell := State.cell_taken_of_fifo hf
    exact ⟨_, exec_engineTake_discards hn hf (.inl hm), congrArg Cell.fifo hcell, hcell, hkept,
      State.taken_changes_of_off hm⟩

end Sys2Proof.Machine

/-! SUPPORT. What an entry to CLOSING leaves (R75, R76, R78 to R80). -/

namespace Sys2Proof.Machine

set_option Elab.async false

section

variable {s t u : State} {i : SlotId} {c : CellId} {r : Record} {w : CloseReason} {stamp : Word}

/-! ## The entry to CLOSING and the seal before it, in a later state -/

theorem State.entersClosing.kept (h : s.entersClosing t c i r w stamp) (hp : u.progressTimer i = t.progressTimer i)
    (hcontent : u.content i = t.content i) (hg : (u.cell c).graceTimer = (t.cell c).graceTimer) :
    s.entersClosing u c i r w stamp := by
  obtain ⟨hprog, r', hr', hkey, hcell, hcounts, hframe, hreason, hstart, hend⟩ := h
  obtain ⟨b, hb⟩ := State.record_of_content (hcontent.trans (State.content_of_record hr'))
  refine ⟨hp.trans hprog, r'.withOwed b, hb, hkey, hcell, hcounts, hframe, hreason, hstart, ?_⟩
  rw [hg]
  exact hend

/-- The entry reads its cell's grace setting and the time count alone of the state it begins in. -/
theorem State.entersClosing.from (h : s.entersClosing t c i r w stamp) (hcfg : (u.cell c).cfg = (s.cell c).cfg)
    (htime : u.time = s.time) : u.entersClosing t c i r w stamp := by
  unfold State.entersClosing
  rw [hcfg, htime]
  exact h

theorem State.forcesClosing.kept (h : s.forcesClosing t c)
    (hcontent : ∀ j, s.closingOn c = some j → u.content j = t.content j) : s.forcesClosing u c := fun j q hj hq => by
  obtain ⟨q', hq', hst, hreason, htime, hstart, hkey, hcounts⟩ := h j q hj hq
  obtain ⟨b, hb⟩ := State.record_of_content ((hcontent j hj).trans (State.content_of_record hq'))
  exact ⟨q'.withOwed b, hb, hst, hreason, htime, hstart, hkey, hcounts⟩

theorem State.forcesClosing.from {bs : List Block} (h : s.forcesClosing t c) (hc : u.changesOnly s bs)
    (hdir : .dir ∉ bs := by decide) (ht : .time ∉ bs := by decide) : u.forcesClosing t c := fun j q hj hq => by
  rw [← hc.time ht]
  exact h j q ((hc.closingOn c hdir).trans hj) ((hc.record j hdir).trans hq)

/-! ## The seal of the cell's CLOSING record (step 1 of R75) -/

theorem State.sealClosing_forces (s : State) (c : CellId) : s.forcesClosing (s.sealIf (s.closingOn c) .forced) c :=
  fun j q hj hq => by
    have hst := (State.closingOn_spec hj hq).1
    rw [hj]
    obtain ⟨b, hb⟩ := State.record_of_content (State.sealIf_seals hq (Record.isActive_iff.2 (.inr hst)) .forced)
    refine ⟨_, hb, rfl, rfl, rfl, ?_, rfl, rfl⟩
    exact if_pos hst

theorem State.closingOn_ne_of_open (hr : s.record i = some r) (ho : r.state = .opened) : s.closingOn c ≠ some i := fun h =>
  nomatch (State.closingOn_spec h hr).1.symm.trans ho

theorem State.record_of_sealClosing (hr : s.record i = some r) (ho : r.state = .opened) (c : CellId) (w : CloseReason) :
    ∃ b, (s.sealIf (s.closingOn c) w).record i = some (r.withOwed b) :=
  State.record_of_content ((s.content_sealIf_other (State.closingOn_ne_of_open hr ho) w).trans (State.content_of_record hr))

/-! ## The entry itself (steps 2 and 3 of R75) -/

theorem State.record_closed (s : State) (i j : SlotId) (r : Record) (w : CloseReason) (stamp : Word) :
    (s.closed i r w stamp).record j = if j = i then some (r.enterClosing w stamp) else s.record j := by
  rw [State.closed, (State.setProgress_changes _ i none).record, State.record_setSlot]

theorem State.progressTimer_closed (s : State) (i j : SlotId) (r : Record) (w : CloseReason) (stamp : Word) :
    (s.closed i r w stamp).progressTimer j = if j = i then none else s.progressTimer j := by
  rw [State.closed, State.progressTimer_setProgress]
  rfl

/-- A record in CLOSING with its grace timer started, or sealed at once when the grace setting is 0. -/
theorem State.startGrace_enters {q : Record} (hq : s.record i = some q) (hs : q.state = .closing) (hcell : q.cell = c)
    (hp : s.progressTimer i = none) (hw : q.reason = some w) (hstamp : q.closeStart = some stamp) :
    s.entersClosing (s.startGrace i c) c i q w stamp := by
  unfold State.startGrace State.entersClosing
  split
  · have ha := Record.isActive_iff.2 (.inr hs)
    obtain ⟨b, hb⟩ := State.record_sealSlot_same hq ha none
    refine ⟨by rw [State.progressTimer_sealSlot hq ha, if_pos rfl], _, hb, rfl, rfl, rfl, rfl, hw, ?_, rfl, rfl, ?_⟩
    · exact (if_pos hs).trans hstamp
    · rw [State.cell_sealSlot hq ha]
      exact if_pos ⟨hs, hcell.symm⟩
  · have hc := s.modCell_changes c fun k => { k with graceTimer := some { elapsed := 0, length := 20 * k.cfg.grace.toNat } }
    refine ⟨(hc.progressTimer i).trans hp, q, (hc.record i).trans hq, rfl, rfl, rfl, rfl, hw, hstamp, hs, ?_⟩
    rw [State.cell_modCell_same]

theorem State.content_startGrace_other (s : State) {j : SlotId} (hj : j ≠ i) (c : CellId) :
    (s.startGrace i c).content j = s.content j := by
  unfold State.startGrace
  split
  · exact s.content_sealSlot_other hj none
  · exact (s.modCell_changes c _).contents (by decide) j

section

variable (hr : s.record i = some r) (ho : r.state = .opened) (w : CloseReason) (stamp : Word)

include hr ho

theorem State.moveToClosing_enters : s.entersClosing (s.moveToClosing i w stamp) r.cell i r w stamp := by
  obtain ⟨b, hb⟩ := State.record_of_sealClosing hr ho r.cell .forced
  rw [State.moveToClosing_of_record hr hb]
  have hsealed := s.sealIf_changes (s.closingOn r.cell) .forced
  have hclosed := State.closed_changes (s.sealIf (s.closingOn r.cell) .forced) i (r.withOwed b) w stamp
  have htimed := (s.sealClosing_closesOn r.cell .forced).timed r.cell
  have henters := State.startGrace_enters (s := (s.sealIf (s.closingOn r.cell) .forced).closed i (r.withOwed b) w stamp)
    (i := i) (c := r.cell) ((State.record_closed _ i i _ w stamp).trans (if_pos rfl)) rfl rfl
    ((State.progressTimer_closed _ i i _ w stamp).trans (if_pos rfl)) rfl rfl
  exact henters.from (by rw [hclosed.cell, htimed]) (hsealed.time.symm.trans hclosed.time.symm)

theorem State.content_moveToClosing_other {j : SlotId} (hj : j ≠ i) (hc : s.closingOn r.cell ≠ some j) :
    (s.moveToClosing i w stamp).content j = s.content j := by
  obtain ⟨b, hb⟩ := State.record_of_sealClosing hr ho r.cell .forced
  rw [State.moveToClosing_of_record hr hb, State.content_startGrace_other _ hj, State.content, State.record_closed,
    if_neg hj]
  exact s.content_sealIf_other hc .forced

theorem State.moveToClosing_forces : s.forcesClosing (s.moveToClosing i w stamp) r.cell := by
  obtain ⟨b, hb⟩ := State.record_of_sealClosing hr ho r.cell .forced
  refine (s.sealClosing_forces r.cell).kept fun j hj => ?_
  have hji : j ≠ i := fun h => State.closingOn_ne_of_open hr ho (h ▸ hj)
  rw [State.moveToClosing_of_record hr hb, State.content_startGrace_other _ hji, State.content, State.record_closed,
    if_neg hji]
  rfl

/-- The record that enters CLOSING keeps its bank and its generation. -/
theorem State.moveToClosing_place :
    ∃ q, (s.moveToClosing i w stamp).record i = some q ∧ q.bank = r.bank ∧ q.gen = r.gen := by
  obtain ⟨b, hb⟩ := State.record_of_sealClosing hr ho r.cell .forced
  rw [State.moveToClosing_of_record hr hb]
  have hclosed := (State.record_closed (s.sealIf (s.closingOn r.cell) .forced) i i (r.withOwed b) w stamp).trans
    (if_pos rfl)
  unfold State.startGrace
  split
  · obtain ⟨b', hq⟩ := State.record_sealSlot_same hclosed (Record.isActive_iff.2 (.inr rfl)) none
    exact ⟨_, hq, rfl, rfl⟩
  · exact ⟨_, (State.modCell_changes _ r.cell _).record i |>.trans hclosed, rfl, rfl⟩

omit ho in
/-- With no CLOSING record and a grace setting above 0 the record moves and its timers do, and nothing else. -/
theorem State.moveToClosing_alone (hc : s.closingOn r.cell = none) (hg : (s.cell r.cell).cfg.grace ≠ 0) :
    s.moveToClosing i w stamp = (s.closed i r w stamp).modCell r.cell fun k =>
      { k with graceTimer := some { elapsed := 0, length := 20 * k.cfg.grace.toNat } } := by
  have hr' : (s.sealIf (s.closingOn r.cell) .forced).record i = some r := by
    rw [hc]
    exact hr
  rw [State.moveToClosing_of_record hr hr', hc]
  have hcfg : ((s.closed i r w stamp).cell r.cell).cfg.grace ≠ 0 := by
    rw [(s.closed_changes i r w stamp).cell]
    exact hg
  exact if_neg hcfg

end

/-! ## A cell's one OPEN record (R73) -/

theorem State.changesOnly.recordLaw {bs : List Block} (h : s.changesOnly t bs) (hs : s.recordLaw)
    (hdir : .dir ∉ bs := by decide) (hbanks : .banks ∉ bs := by decide) : t.recordLaw := by
  have hactive : ∀ i, t.active i = s.active i := fun i => by rw [State.active, State.active, h.record i hdir]
  unfold State.recordLaw
  simp only [hactive, h.bank _ hbanks]
  exact hs

theorem State.openOn_unique (hlaw : s.recordLaw) (ho : s.openOn c = some i) {j : SlotId} {q : Record}
    (hq : s.record j = some q) (hst : q.state = .opened) (hcell : q.cell = c) : j = i := by
  obtain ⟨r, hr, hro, hrc⟩ := State.openOn_spec' ho
  exact (State.recordLaw_iff.1 hlaw).1.unique (State.role_of_active hq (Record.isActive_iff.2 (.inl hst)))
    (State.role_of_active hr (Record.isActive_iff.2 (.inl hro))) (hcell.trans hrc.symm) (hst.trans hro.symm)

/-- The slot a boundary marker names is the cell's OPEN record's, where the marker names that. -/
theorem State.findOpen_of_openOn (hlaw : s.recordLaw) (ho : s.openOn c = some i) (hr : s.record i = some r)
    {p : Record → Bool} (hp : p r = true) :
    s.findSlot (fun r => r.state == .opened && r.cell == c && p r) = some i := by
  obtain ⟨hst, hcell⟩ := State.openOn_spec ho hr
  refine State.findSlot_of_unique hr (by simp [hst, hcell, hp]) fun j q hq hpq => ?_
  simp only [Bool.and_eq_true, beq_iff_eq] at hpq
  exact State.openOn_unique hlaw ho hq hpq.1.1 hpq.1.2

theorem State.findOpen_eq_none (hlaw : s.recordLaw) {p : Record → Bool}
    (h : ∀ i r, s.openOn c = some i → s.record i = some r → p r = false) :
    s.findSlot (fun r => r.state == .opened && r.cell == c && p r) = none := by
  refine State.findSlot_eq_none.2 fun j q hq => Bool.eq_false_iff.2 fun hpq => ?_
  simp only [Bool.and_eq_true, beq_iff_eq] at hpq
  obtain ⟨⟨hst, hcell⟩, hpq⟩ := hpq
  cases ho : s.openOn c with
  | none => exact State.openOn_none ho j q hq hst hcell
  | some i =>
    obtain rfl := State.openOn_unique hlaw ho hq hst hcell
    exact Bool.noConfusion ((h j q ho hq).symm.trans hpq)

/-! ## A collated marker and its copy (R68, R69) -/

theorem State.copied_eq (s : State) (c : CellId) (f : OutFrame) : s.copied c f =
    if (s.cell c).cfg.mode.forwards then { s.hall with fwd := s.hall.fwd ++ [f] } else s.hall := by
  unfold State.copied
  cases (s.cell c).cfg.mode <;> simp [Mode.forwards]

theorem State.collatingBank_of_collatesNext {e : FifoEntry} {rest : List FifoEntry} {lb : BankId}
    (h : s.collatesNext c e rest lb) : (s.taken c).collatingBank (s.cell c).cfg.mode = some lb := by
  obtain ⟨-, -, hm, hlive⟩ := h
  rw [State.collatingBank_taken, State.collatingBank]
  rcases hm with hm | hm <;> rw [hm] <;> exact hlive

theorem exec_engineTake_marker {route : Byte} {m : Marker} {rest : List FifoEntry} {lb : BankId}
    (h : s.collatesNext c (.marker route m) rest lb) : exec .engineTake s =
      .next (((s.taken c).deliver c lb m).1.forwardMarker c (s.cell c).cfg.mode.forwards route m
        ((s.taken c).deliver c lb m).2) := by
  rw [exec_engineTake h.1 h.2.1]
  simp only [State.handleFrame, State.collatingBank_of_collatesNext h]

/-- The hall port with a copy at the tail of the FWD queue, where the mode forwards. -/
theorem State.hall_forwardMarker (hhall : u.hall = s.hall) {route : Byte} {m : Marker} {slot : Option SlotId} {f : OutFrame}
    (hf : fwdMarker u c route m slot = f) :
    (u.forwardMarker c (s.cell c).cfg.mode.forwards route m slot).hall = s.copied c f := by
  rw [State.copied_eq, State.forwardMarker, hf]
  split
  · rw [State.forward, State.withHall_hall, hhall]
  · exact hhall

/-- The copy of a marker that acted on the record in slot i, which keeps its place. -/
theorem State.fwdMarker_placed (hnode : u.node = s.node) {q : Record} (hq : u.record i = some q) (hb : q.bank = r.bank)
    (hg : q.gen = r.gen) (c : CellId) (route : Byte) (m : Marker) :
    fwdMarker u c route m (some i) = s.markerCopy c route m (r.place i) := by
  simp only [fwdMarker, annotation, State.markerCopy, Record.place, State.routeByte, hnode, Option.bind_some, hq,
    Option.map_some, hb, hg, List.append_assoc]

theorem State.fwdMarker_nowhere (hnode : u.node = s.node) (c : CellId) (route : Byte) (m : Marker) :
    fwdMarker u c route m none = s.markerCopy c route m noPlace := by
  rw [State.fwdMarker_plain, State.markerCopy, State.markerCopy, hnode]

/-- The delivery of a marker that closes the cell's OPEN record. -/
theorem State.deliver_closes (hlaw : s.recordLaw) (ho : s.openOn c = some i) (hr : s.record i = some r) (lb : BankId)
    {m : Marker} (hm : (m.kind = 0x02 ∧ r.key = m.key) ∨ (m.kind = 0x03 ∧ r.key.lot = m.key.lot)) :
    s.deliver c lb m = (s.moveToClosing i (if m.kind = 0x02 then .markerEnd else .lotEnd) s.time, some i) := by
  rcases hm with ⟨hk, hkey⟩ | ⟨hk, hlot⟩
  · have hfind := State.findOpen_of_openOn hlaw ho hr (p := fun r => r.key == m.key) (beq_iff_eq.2 hkey)
    simp only [State.deliver, hk, State.endMarker, hfind]
    rfl
  · have hfind := State.findOpen_of_openOn hlaw ho hr (p := fun r => r.key.lot == m.key.lot) (beq_iff_eq.2 hlot)
    simp only [State.deliver, hk, State.lotEndMarker, hfind]
    rfl

/-- The delivery of a marker that names no record of the cell. -/
theorem State.deliver_nothing (hlaw : s.recordLaw) (lb : BankId) {m : Marker}
    (hend : m.kind = 0x02 → ∀ i r, s.openOn c = some i → s.record i = some r → r.key ≠ m.key)
    (hlot : m.kind = 0x03 → ∀ i r, s.openOn c = some i → s.record i = some r → r.key.lot ≠ m.key.lot)
    (hbegin : m.kind ≠ 0x01) : s.deliver c lb m = (s, none) := by
  rw [State.deliver, if_neg hbegin]
  split
  · next hk =>
    have hfind := State.findOpen_eq_none hlaw (c := c) (p := fun r => r.key == m.key) fun i r hi hr =>
      beq_false_of_ne (hend hk i r hi hr)
    simp only [State.endMarker, hfind]
  · split
    · next hk =>
      have hfind := State.findOpen_eq_none hlaw (c := c) (p := fun r => r.key.lot == m.key.lot) fun i r hi hr =>
        beq_false_of_ne (hlot hk i r hi hr)
      simp only [State.lotEndMarker, hfind]
    · rfl

end

/-! ## UNLOAD edges and boundary markers (R25, R30, R78 to R80) -/

section

variable {s : State} {c : CellId} {v : Level}

theorem State.recognize_unload_open {i : SlotId} (ha : (s.cell c).cfg.unloadPol.activeTo v) (ho : s.openOn c = some i) :
    s.recognize c .unload v = (s.unloadStamped c v).moveToClosing i .unload s.time := by
  rw [State.recognize_unload_active ha, State.closeOpen, s.unloadStamped_changes.openOn c, ho]

theorem State.recognize_unload_without (h : (s.cell c).cfg.unloadPol.activeTo v → s.openOn c = none) :
    s.recognize c .unload v =
      if (s.cell c).cfg.unloadPol.activeTo v then s.unloadStamped c v else s.levelled c .unload v := by
  split
  · next ha =>
    rw [State.recognize_unload_active ha, State.closeOpen, s.unloadStamped_changes.openOn c, h ha]
  · next ha => exact State.recognize_of_passive (l := .unload) ha

/-- The line and the stamp of an UNLOAD edge stay through the entry to CLOSING. -/
theorem State.cell_unload_moved {i : SlotId} {r : Record} (hr : s.record i = some r) (hcell : r.cell = c) :
    (((s.unloadStamped c v).moveToClosing i .unload s.time).cell c).lastUnload = some s.time ∧
      (((s.unloadStamped c v).moveToClosing i .unload s.time).cell c).unloadLine =
        { pin := v, recognized := v, candidate := none } := by
  have htimed := (State.moveToClosing_closesOn (s := s.unloadStamped c v) (c := c) (fun q hq => by
    rw [← hcell, Option.some.inj ((s.unloadStamped_changes.record i).symm.trans hq |>.symm.trans hr)])
    .unload s.time).timed c
  rw [htimed, State.cell_unloadStamped]
  exact ⟨rfl, rfl⟩

end

/-- Settles O22: an UNLOAD edge and a boundary marker move the cell's OPEN record by one entry to CLOSING. -/
theorem unloadEdgeClosesTheOpenRecord : Obligations.UnloadEdgeClosesTheOpenRecord := by
  refine ⟨fun s k c v hk => ⟨fun hnone => ?_, fun i r ha ho hr => ?_⟩,
    fun s c route m rest lb htake hlaw => ⟨fun i r ho hr hm => ?_, fun hend hlot hbegin => ?_⟩⟩
  · refine ⟨_, hk.exec_eq, ?_⟩
    rw [State.recognize_unload_without hnone]
    split
    · next ha => exact ⟨by rw [State.cell_unloadStamped], s.unloadStamped_cellsKeptBut, s.unloadStamped_changes⟩
    · next ha => exact ⟨by rw [State.cell_levelled]; rfl, s.levelled_cellsKeptBut, s.levelled_changes⟩
  · have hv := s.unloadStamped_changes (c := c) (v := v)
    have hr' : (s.unloadStamped c v).record i = some r := (hv.record i).trans hr
    obtain ⟨hst, rfl⟩ := State.openOn_spec ho hr
    obtain ⟨hlast, hline⟩ := State.cell_unload_moved (v := v) hr rfl
    have hcfg : (s.cell r.cell).cfg = ((s.unloadStamped r.cell v).cell r.cell).cfg := by rw [State.cell_unloadStamped]
    rw [hk.exec_eq, State.recognize_unload_open ha ho]
    refine ⟨fun hc hg => ⟨_, rfl, ?_, hlast, ?_, hline, ?_, ?_, ?_, ?_⟩, fun _ => ⟨_, rfl,
      (State.moveToClosing_enters hr' hst .unload s.time).from hcfg hv.time.symm,
      (State.moveToClosing_forces hr' hst .unload s.time).from hv, hlast, hline,
      hv.mono.trans (State.moveToClosing_changes _ i _ _)⟩⟩
    all_goals
      rw [State.moveToClosing_alone hr' .unload s.time ((hv.closingOn r.cell).trans hc) (hcfg ▸ hg)]
    · rw [(State.modCell_changes _ r.cell _).record, State.record_closed, if_pos rfl]
      rfl
    · rw [State.cell_modCell_same, (State.closed_changes _ i r _ _).cell, ← hcfg]
    · rw [(State.modCell_changes _ r.cell _).progressTimer, State.progressTimer_closed, if_pos rfl]
    · intro j hj
      rw [(State.modCell_changes _ r.cell _).record, State.record_closed, if_neg hj, hv.record]
    · exact (s.unloadStamped_cellsKeptBut.trans ((State.closed_changes _ i r _ _).cellsKeptBut r.cell)).trans
        (State.modCell_cellsKeptBut _ r.cell _)
    · exact (hv.mono.trans (State.closed_changes _ i r _ _).mono).trans (State.modCell_changes _ r.cell _).mono
  · have hv := s.taken_changes c
    have hr' : (s.taken c).record i = some r := (hv.record i).trans hr
    obtain ⟨hst, rfl⟩ := State.openOn_spec ho hr
    have hcfg : (s.cell r.cell).cfg = ((s.taken r.cell).cell r.cell).cfg := by rw [State.cell_taken]
    have hmoved := State.moveToClosing_changes (s.taken r.cell) i (if m.kind = 0x02 then .markerEnd else .lotEnd) s.time
    have hfwd := State.forwardMarker_changes ((s.taken r.cell).moveToClosing i
      (if m.kind = 0x02 then .markerEnd else .lotEnd) s.time) r.cell (s.cell r.cell).cfg.mode.forwards route m (some i)
    obtain ⟨q, hq, hbank, hgen⟩ := State.moveToClosing_place hr' hst (if m.kind = 0x02 then .markerEnd else .lotEnd) s.time
    refine ⟨_, exec_engineTake_marker htake, ?_⟩
    rw [State.deliver_closes (hv.recordLaw hlaw) ((hv.openOn r.cell).trans ho) hr' lb hm, hv.time]
    refine ⟨((State.moveToClosing_enters hr' hst _ s.time).from hcfg hv.time.symm).kept (hfwd.progressTimer i)
      (hfwd.contents (by decide) i) (congrArg Cell.graceTimer (hfwd.cell r.cell)),
      ((State.moveToClosing_forces hr' hst _ s.time).from hv).kept fun j _ => hfwd.contents (by decide) j,
      State.hall_forwardMarker (hmoved.hall.trans hv.hall)
        (State.fwdMarker_placed (hmoved.node.trans hv.node) hq hbank hgen _ route m), fun hc hg => ?_⟩
    have halone := State.moveToClosing_alone hr' (if m.kind = 0x02 then .markerEnd else .lotEnd) s.time
      ((hv.closingOn r.cell).trans hc) (hcfg ▸ hg)
    rw [halone] at hfwd ⊢
    have hclosed := State.closed_changes (s.taken r.cell) i r (if m.kind = 0x02 then .markerEnd else .lotEnd) s.time
    refine ⟨fun j hj => ?_, ?_, ?_⟩
    · rw [hfwd.record, (State.modCell_changes _ r.cell _).record, State.record_closed, if_neg hj, hv.record]
    · exact (((s.taken_cellsKeptBut r.cell).trans (hclosed.cellsKeptBut r.cell)).trans
        (State.modCell_cellsKeptBut _ r.cell _)).trans (hfwd.cellsKeptBut r.cell)
    · exact ((hv.mono.trans hclosed.mono).trans (State.modCell_changes _ r.cell _).mono).trans hfwd.mono
  · have hv := s.taken_changes c
    have hfwd := State.forwardMarker_changes (s.taken c) c (s.cell c).cfg.mode.forwards route m none
    refine ⟨_, exec_engineTake_marker htake, ?_⟩
    rw [State.deliver_nothing (hv.recordLaw hlaw) lb
      (fun hk i r hi hr => hend hk i r ((hv.openOn c).symm.trans hi) ((hv.record i).symm.trans hr))
      (fun hk i r hi hr => hlot hk i r ((hv.openOn c).symm.trans hi) ((hv.record i).symm.trans hr)) hbegin]
    refine ⟨State.hall_forwardMarker hv.hall (State.fwdMarker_nowhere hv.node c route m), ?_,
      (s.taken_cellsKeptBut c).trans (hfwd.cellsKeptBut c), hv.mono.trans hfwd.mono⟩
    rw [hfwd.cell, State.cell_taken]

end Sys2Proof.Machine

/-! SUPPORT. A touchdown bound to a record is collated entry by entry (R57 to R67). -/

namespace Sys2Proof.Machine

set_option Elab.async false

/-! ## The site checks in order (R58 to R61) -/

theorem Record.atCap_iff (r : Record) : r.atCap = true ↔ 1048575 ≤ r.counts.t.toNat + r.counts.r.toNat := by
  rw [Record.atCap, decide_eq_true_eq]
  rfl

theorem siteCheck_eq {r : Record} {rc : Recipe} {dies : List (Half × Half)} {e : SiteEntry}
    (hn : rc.siteCount.toNat ≤ 16) (hw : rc.width.toNat ≤ 512) (hh : rc.height.toNat ≤ 512) :
    siteCheck r rc dies e =
      if rc.siteCount.toNat ≤ e.site.toNat then some .badSite
      else if rc.width.toNat ≤ e.x.toNat ∨ rc.height.toNat ≤ e.y.toNat then some .offGrid
      else if (e.x, e.y) ∈ dies then some .clash
      else if 1048575 ≤ r.counts.t.toNat + r.counts.r.toNat then some .late
      else none := by
  have hsite : (rc.siteCount.toNat ≤ e.site.toNat ∨ 16 ≤ e.site.toNat) ↔ rc.siteCount.toNat ≤ e.site.toNat := by omega
  have hgrid : (rc.width.toNat ≤ e.x.toNat ∨ rc.height.toNat ≤ e.y.toNat ∨ 511 < e.x.toNat ∨ 511 < e.y.toNat) ↔
      (rc.width.toNat ≤ e.x.toNat ∨ rc.height.toNat ≤ e.y.toNat) := by omega
  simp only [siteCheck, hsite, hgrid, Record.atCap_iff]

/-! ## One entry (R58 to R64, R67) -/

theorem Bank.translate_spec (k : Bank) (p : Fin 8) (rc : Recipe) (b : Nat) :
    if b ≤ 511 ∧ (storeRead unassigned k.xlate (512 * p.val + b)).toNat ≤ 63 then
      (k.translate p rc b).val = (storeRead unassigned k.xlate (512 * p.val + b)).toNat
    else k.translate p rc b = rc.unknownBin := by
  unfold Bank.translate Bank.entryOf xlateAddr
  split
  · next h =>
    rw [if_neg (by omega), dif_pos (by omega)]
    rfl
  · next h =>
    split
    · rfl
    · rw [dif_neg (by omega)]
      rfl

/-- What the entries of one touchdown rely on: the record stands in its slot with the place, the recipe index and the bank
it had. -/
structure Progress.bound (p : Progress) (i : SlotId) (r : Record) (rc : Recipe) (k : Bank) : Prop where
  record : ∃ q, p.state.record i = some q ∧ q.recipe = r.recipe ∧ q.bank = r.bank ∧ q.gen = r.gen ∧
    p.state.recipeOf q = rc
  bank   : p.state.bank r.bank = k

section

variable {s t : State} {c : CellId} {i : SlotId} {r : Record} {rc : Recipe} {k : Bank} {p : Progress} {e : SiteEntry}

/-- A change of the record's counts keeps what the entries rely on. -/
theorem Progress.bound.of_counts {p' : Progress} {q q' : Record} (h : p.bound i r rc k) (hq : p.state.record i = some q)
    (hq' : p'.state.record i = some q') (hplace : q'.recipe = q.recipe ∧ q'.bank = q.bank ∧ q'.gen = q.gen ∧
      q'.recipeCopy = q.recipeCopy) (hbanks : p'.state.banks = p.state.banks) : p'.bound i r rc k := by
  obtain ⟨⟨q0, hq0, hrecipe, hbank, hgen, hrc⟩, hk⟩ := h
  obtain rfl := Option.some.inj (hq.symm.trans hq0)
  obtain ⟨hp1, hp2, hp3, hp4⟩ := hplace
  refine ⟨⟨q', hq', hp1.trans hrecipe, hp2.trans hbank, hp3.trans hgen, ?_⟩, (State.bank_congr hbanks _).trans hk⟩
  rw [← hrc]
  simp only [State.recipeOf, hp1, hp2, hp4, State.bank_congr hbanks]

theorem Record.countStopped_place (r : Record) (v : Verdict) : (r.countStopped v).recipe = r.recipe ∧
    (r.countStopped v).bank = r.bank ∧ (r.countStopped v).gen = r.gen ∧ (r.countStopped v).recipeCopy = r.recipeCopy := by
  unfold Record.countStopped
  split <;> exact ⟨rfl, rfl, rfl, rfl⟩

theorem Progress.entry_bound (h : p.bound i r rc k) (c : CellId) (e : SiteEntry) : (p.entry c i e).bound i r rc k := by
  obtain ⟨q, hq, -⟩ := h.record
  unfold Progress.entry
  rw [hq]
  dsimp only
  split
  · exact h.of_counts hq ((p.state.record_setSlot i i _).trans (if_pos rfl)) (q.countStopped_place _)
      (p.state.setSlot_changes i _).banks
  · generalize resultOf q (p.state.recipeOf q) (p.state.bank q.bank) e = x
    obtain ⟨q', hkept, hrec⟩ := p.state.record_resolveResult i q x
    have hrun := State.siteRun_changes (p.state.resolveResult i q x).1 c x.site x.cls (p.state.recipeOf q).runLimit.toNat
    refine h.of_counts hq ((hrun.record i).trans ((hrec i).trans (if_pos rfl))) ?_
      (hrun.banks.trans (p.state.resolveResult_changes i q x).banks)
    rw [hkept]
    exact ⟨rfl, rfl, rfl, rfl⟩

/-- The entry's four annotation bytes are its note's, the last of the list. -/
theorem Progress.entry_handled (h : p.bound i r rc k) (hrange : rc.inRange = true) (c : CellId) (e : SiteEntry) :
    ∃ note, p.state.entryHandled (p.entry c i e).state c i rc k p.dies (p.entry c i e).dies e note ∧
      (p.entry c i e).notes.flatMap SiteNote.bytes = p.notes.flatMap SiteNote.bytes ++ note := by
  obtain ⟨q, hq, hrecipe, hbank, -, hrc⟩ := h.record
  have hk : p.state.bank q.bank = k := by rw [hbank]; exact h.bank
  simp only [Recipe.inRange, Bool.and_eq_true, decide_eq_true_eq] at hrange
  obtain ⟨⟨hn, hw⟩, hh⟩ := hrange
  have hcheck := siteCheck_eq (r := q) (dies := p.dies) (e := e) hn hw hh
  have hentry : p.entry c i e = match siteCheck q rc p.dies e with
      | some v => { state := p.state.setSlot i (some (q.countStopped v)), dies := p.dies, notes := p.notes ++ [plainNote v] }
      | none =>
        { state := (p.state.resolveResult i q (resultOf q rc k e)).1.siteRun c (resultOf q rc k e).site
            (resultOf q rc k e).cls rc.runLimit.toNat
          dies := p.dies ++ [(e.x, e.y)]
          notes := p.notes ++ [resultNote (resultOf q rc k e) (p.state.resolveResult i q (resultOf q rc k e)).2.1
            (p.state.resolveResult i q (resultOf q rc k e)).2.2] } := by
    unfold Progress.entry
    rw [hq]
    simp only [hrc, hk] <;> rfl
  have hnotes : ∀ x : SiteNote, (p.notes ++ [x]).flatMap SiteNote.bytes = p.notes.flatMap SiteNote.bytes ++ x.bytes :=
    fun x => by rw [List.flatMap_append, List.flatMap_singleton]
  unfold State.entryHandled
  rw [hentry, hcheck]
  by_cases hbad : rc.siteCount.toNat ≤ e.site.toNat
  · simp only [hbad, if_true]
    exact ⟨_, ⟨q, hq, rfl, trivial, rfl⟩, hnotes _⟩
  · by_cases hgrid : rc.width.toNat ≤ e.x.toNat ∨ rc.height.toNat ≤ e.y.toNat
    · simp only [hbad, hgrid, if_true, if_false]
      exact ⟨_, ⟨q, hq, rfl, trivial, rfl⟩, hnotes _⟩
    · by_cases hclash : (e.x, e.y) ∈ p.dies
      · simp only [hbad, hgrid, hclash, if_true, if_false]
        exact ⟨_, ⟨q, hq, rfl, trivial, rfl⟩, hnotes _⟩
      · by_cases hcap : 1048575 ≤ q.counts.t.toNat + q.counts.r.toNat
        · simp only [hbad, hgrid, hclash, hcap, if_true, if_false]
          exact ⟨_, ⟨q, hq, by simp only [hcap, if_true]; exact ⟨rfl, trivial, rfl⟩⟩, hnotes _⟩
        · simp only [hbad, hgrid, hclash, hcap, if_false]
          refine ⟨_, ⟨q, hq, ?_⟩, hnotes _⟩
          simp only [hcap, if_false]
          exact ⟨resultOf q rc k e, rfl, rfl, Nat.mod_eq_of_lt (by omega), k.translate_spec q.recipe rc _, rfl, rfl, rfl,
            trivial, rfl⟩

/-! ## All entries (R58) -/

/-- A sequence with one more member in front. -/
def consSeq {α : Type} (a : α) (f : Nat → α) : Nat → α
  | 0 => a
  | n + 1 => f n

theorem Progress.entries_handled (hrange : rc.inRange = true) (c : CellId) (es : List SiteEntry) (h : p.bound i r rc k) :
    ∃ (σ : Nat → State) (dies : Nat → List (Half × Half)) (note : Nat → List Byte),
      σ 0 = p.state ∧ dies 0 = p.dies ∧
      (∀ n e, es[n]? = some e → (σ n).entryHandled (σ (n + 1)) c i rc k (dies n) (dies (n + 1)) e (note n)) ∧
      σ es.length = (es.foldl (Progress.entry c i) p).state ∧
      (es.foldl (Progress.entry c i) p).bound i r rc k ∧
      (es.foldl (Progress.entry c i) p).notes.flatMap SiteNote.bytes =
        p.notes.flatMap SiteNote.bytes ++ (List.range es.length).flatMap note := by
  induction es generalizing p with
  | nil =>
    refine ⟨fun _ => p.state, fun _ => p.dies, fun _ => [], rfl, rfl, fun n e he => ?_, rfl, h, ?_⟩
    · exact nomatch he
    · exact (List.append_nil _).symm
  | cons e es ih =>
    obtain ⟨x, hx, hbytes⟩ := Progress.entry_handled h hrange c e
    obtain ⟨σ, dies, note, hσ, hdies, hall, hend, hbound, hnotes⟩ := ih (Progress.entry_bound h c e)
    refine ⟨consSeq p.state σ, consSeq p.dies dies, consSeq x note, rfl, rfl, fun n e' he' => ?_, hend, hbound, ?_⟩
    · cases n with
      | zero =>
        obtain rfl := Option.some.inj he'
        change p.state.entryHandled (σ 0) c i rc k p.dies (dies 0) e x
        rw [hσ, hdies]
        exact hx
      | succ n => exact hall n e' he'
    · rw [List.foldl_cons, hnotes, hbytes, List.length_cons, List.range_succ_eq_map, List.flatMap_cons, List.flatMap_map,
        List.append_assoc]
      rfl

/-! ## The touchdown whole (R57, R65, R67) -/

theorem satAdd_word_half (g : Word) (gap : Half) :
    satAdd g gap.toNat = BitVec.ofNat 32 (min (g.toNat + gap.toNat) 4294967295) := rfl

theorem State.addGap_of_record (hr : s.record i = some r) (gap : Half) : s.addGap i gap = s.setSlot i (some { r with
    gapSum := BitVec.ofNat 32 (min (r.gapSum.toNat + gap.toNat) 4294967295) }) := by
  rw [State.addGap, State.modRecord_of_record hr, satAdd_word_half]

theorem State.sealAtCap_checked {q : Record} (hq : s.record i = some q) :
    (s.checkpointTest i).sealAtCap i = if 1048575 ≤ q.counts.t.toNat + q.counts.r.toNat then
      (s.checkpointTest i).sealSlot i (some .resultLimit) else s.checkpointTest i := by
  have hrec : (s.checkpointTest i).record i = some (q.checked (s.recipeOf q)) := by
    rw [State.checkpointTest_of_record hq, (State.raiseAll_changes _ _).record, State.record_setSlot, if_pos rfl]
  have hcounts : (q.checked (s.recipeOf q)).counts = q.counts := by
    simp only [Record.checked, Record.updateOverGross_eq]
  rw [State.sealAtCap, hrec]
  simp only [Record.atCap_iff, hcounts]

theorem State.fwdTouchdown_placed {u : State} (hnode : u.node = s.node) {q : Record} (hq : u.record i = some q)
    (hb : q.bank = r.bank) (hg : q.gen = r.gen) (c : CellId) (route : Byte) (td : Touchdown) (notes : List SiteNote) :
    fwdTouchdown u c route td (some i) notes = s.touchdownCopy c route td (r.place i) (notes.flatMap SiteNote.bytes) := by
  simp only [fwdTouchdown, annotation, State.touchdownCopy, Record.place, State.routeByte, hnode, Option.bind_some, hq,
    Option.map_some, hb, hg, List.append_assoc]

theorem State.boundTouchdown_collated (hr : s.record i = some r) (hrange : (s.recipeOf r).inRange = true) (route : Byte)
    (td : Touchdown) (gap : Half) :
    s.collated (s.boundTouchdown c i (s.cell c).cfg.mode.forwards route td gap) c i r route td gap := by
  have hgap := State.addGap_of_record hr gap
  have hbound : Progress.bound { state := s.addGap i gap, dies := [], notes := [] } i r (s.recipeOf r) (s.bank r.bank) := by
    have hc := s.setSlot_changes i (some { r with
      gapSum := BitVec.ofNat 32 (min (r.gapSum.toNat + gap.toNat) 4294967295) })
    rw [hgap]
    exact ⟨⟨_, (s.record_setSlot i i _).trans (if_pos rfl), rfl, rfl, rfl, (hc.recipeOf _).trans rfl⟩, hc.bank _⟩
  obtain ⟨σ, dies, note, hσ, hdies, hall, hend, hlast, hnotes⟩ := Progress.entries_handled hrange c td.entries hbound
  obtain ⟨q, hq, -, hqb, hqg, -⟩ := hlast.record
  have hcollate : (td.entries.foldl (Progress.entry c i) { state := s.addGap i gap, dies := [], notes := [] }) =
      s.collate c i td gap := rfl
  rw [hcollate] at hend hq hnotes
  have hchanges := s.collate_changes c i td gap
  have htest := State.checkpointTest_changes (s.collate c i td gap).state i
  have hseal := State.sealAtCap_changes ((s.collate c i td gap).state.checkpointTest i) i
  have hhall : (((s.collate c i td gap).state.checkpointTest i).sealAtCap i).hall = s.hall :=
    hseal.hall.trans (htest.hall.trans hchanges.hall)
  refine ⟨σ, dies, note, q, hσ.trans hgap, hdies, hall, by rw [hend]; exact hq, ?_⟩
  rw [hend, ← State.sealAtCap_checked hq, State.copied_eq, State.boundTouchdown]
  dsimp only
  rw [State.fwdTouchdown_placed (s := s) hchanges.node hq hqb hqg, hnotes]
  split
  · rw [State.forward, hhall]
    rfl
  · rw [← hhall]
    rfl

end

theorem exec_engineTake_touchdown {s : State} {c : CellId} {route : Byte} {td : Touchdown} {gap : Half}
    {rest : List FifoEntry} {lb : BankId} (h : s.collatesNext c (.touchdown route td gap) rest lb) :
    exec .engineTake s =
      .next ((s.taken c).classifyTouchdown c lb (s.cell c).cfg.mode.forwards route td gap) := by
  rw [exec_engineTake h.1 h.2.1]
  simp only [State.handleFrame, State.collatingBank_of_collatesNext h]

theorem State.changesOnly.activeWith {s t : State} {bs : List Block} (h : s.changesOnly t bs) (k : Key)
    (hb : .dir ∉ bs := by decide) : t.activeWith k = s.activeWith k := State.findSlot_congr (fun i => h.record i hb) _

/-- Settles O30: the checks in order, and a bound touchdown entry by entry. -/
theorem siteChecksApplyInOrder : Obligations.SiteChecksApplyInOrder := by
  refine ⟨fun r rc dies e hn hw hh => ?_, fun s c route td gap rest lb i r htake hk hr hcell hrange => ?_⟩
  · rw [siteCheck_eq hn hw hh]
    by_cases hbad : rc.siteCount.toNat ≤ e.site.toNat
    · simp [hbad, Nat.not_lt.2 hbad]
    · by_cases hgrid : rc.width.toNat ≤ e.x.toNat ∨ rc.height.toNat ≤ e.y.toNat
      · simp [hbad, hgrid, Nat.not_le.1 hbad]
        omega
      · obtain ⟨hx, hy⟩ := not_or.1 hgrid
        by_cases hclash : (e.x, e.y) ∈ dies <;> by_cases hcap : 1048575 ≤ r.counts.t.toNat + r.counts.r.toNat <;>
          simp [hbad, hx, hy, hclash, hcap, Nat.not_le.1 hbad, Nat.not_le.1 hx, Nat.not_le.1 hy]
        all_goals omega
  · have hv := s.taken_changes c
    have hr' : (s.taken c).record i = some r := (hv.record i).trans hr
    refine ⟨_, exec_engineTake_touchdown htake, ?_⟩
    have hresolve : (s.taken c).resolveKey c td.key lb = (s.taken c, .record i) := by
      rw [State.resolveKey, (hv.activeWith td.key).trans hk]
      simp only [hr', hcell, if_true]
    have hmode : (s.cell c).cfg.mode = ((s.taken c).cell c).cfg.mode := by rw [State.cell_taken]
    rw [State.classifyTouchdown, hresolve, hmode]
    exact State.boundTouchdown_collated hr' (by rw [hv.recipeOf]; exact hrange) route td gap

end Sys2Proof.Machine

/-! SUPPORT. What an opening leaves of the cell's records that it seals or moves to CLOSING first (R75, R82 to R87). -/

namespace Sys2Proof.Machine

set_option Elab.async false

/-! ## Steps that spare a slot -/

/-- From s to t the record in a slot keeps all but SUMMARY_OWED and its progress timer, and every cell its grace timer. -/
structure State.spares (s t : State) (j : SlotId) : Prop where
  content : t.content j = s.content j
  timer   : t.progressTimer j = s.progressTimer j
  grace   : ∀ c, (t.cell c).graceTimer = (s.cell c).graceTimer

/-- The slot's record is OPEN, CLOSING or CLOSED. -/
def State.unexported (s : State) (j : SlotId) : Prop := ∃ r, s.record j = some r ∧ r.state ≠ .exported

section

variable {s t u : State} {i j : SlotId} {r : Record} {c : CellId} {k : Key}

theorem State.spares.refl (s : State) (j : SlotId) : s.spares s j := ⟨rfl, rfl, fun _ => rfl⟩

theorem State.spares.trans (h : s.spares t j) (k : t.spares u j) : s.spares u j :=
  ⟨k.content.trans h.content, k.timer.trans h.timer, fun c => (k.grace c).trans (h.grace c)⟩

theorem State.spares.unexported (h : s.spares t j) (hj : s.unexported j) : t.unexported j := by
  obtain ⟨r, hr, hs⟩ := hj
  obtain ⟨b, hb⟩ := State.record_of_content (h.content.trans (State.content_of_record hr))
  exact ⟨_, hb, hs⟩

theorem State.spares.enters (h : s.spares t j) {w : CloseReason} {stamp : Word} (he : u.entersClosing s c j r w stamp) :
    u.entersClosing t c j r w stamp := he.kept h.timer h.content (h.grace c)

theorem State.isIn_of_mem_exportOrder (h : s.listLaw) (hi : i ∈ s.dir.exportOrder) :
    ∃ r, s.record i = some r ∧ r.state = .exported := by
  obtain ⟨⟨-, hmem, -⟩, -⟩ := h
  obtain ⟨r, hr, hs⟩ := State.isIn_iff.1 ((hmem i).1 hi)
  exact ⟨r, hr, List.mem_singleton.1 hs⟩

theorem State.unexported.ne (hj : s.unexported j) (hr : s.record i = some r) (hs : r.state = .exported) : j ≠ i := by
  rintro rfl
  obtain ⟨q, hq, hne⟩ := hj
  exact hne (by rw [Option.some.inj (hq.symm.trans hr), hs])

theorem State.unexported.ne_of_free (hj : s.unexported j) (hi : s.record i = none) : j ≠ i := by
  rintro rfl
  obtain ⟨q, hq, -⟩ := hj
  exact nomatch hq.symm.trans hi

/-! ## Frees (R84, R85, R93) -/

theorem State.dequeued_contents (s : State) (i : SlotId) : s.sameContents (s.dequeued i) :=
  (s.removeSum_contents _).trans (State.removeSum_contents _ _)

theorem State.content_freeRecord (hr : s.record i = some r) (j : SlotId) :
    (s.freeRecord i).content j = if j = i then none else s.content j := by
  rw [State.content_congr (State.record_freeRecord hr j), State.dequeued_contents, State.content, State.record_emptied]
  split <;> rfl

theorem State.freeRecord_spares (hr : s.record i = some r) (hs : r.state = .exported) (hj : j ≠ i) :
    s.spares (s.freeRecord i) j := by
  refine ⟨(State.content_freeRecord hr j).trans (if_neg hj), (State.progressTimer_freeRecord hr j).trans (if_neg hj),
    fun c => ?_⟩
  rw [State.cell_freeRecord hr]
  exact if_neg fun h => nomatch h.1.symm.trans hs

theorem State.freeExportedWith_spares (hj : s.unexported j) (k : Key) : s.spares (s.freeExportedWith k) j := by
  unfold State.freeExportedWith
  generalize allSlots = is
  induction is generalizing s with
  | nil => exact .refl s j
  | cons i is ih =>
    have hone : s.spares (match s.record i with
        | none => s
        | some r => if r.state = .exported ∧ r.key = k then s.freeRecord i else s) j := by
      split
      · exact .refl s j
      · next r hr =>
        split
        · next h => exact State.freeRecord_spares hr h.1 (hj.ne hr h.1)
        · exact .refl s j
    exact hone.trans (ih (hone.unexported hj))

theorem State.takeSlot_spares (hlist : s.listLaw) (hj : s.unexported j) : s.spares s.takeSlot.1 j := by
  unfold State.takeSlot
  split
  · exact .refl s j
  · split
    · exact .refl s j
    · next i is hi =>
      obtain ⟨r, hr, hs⟩ := State.isIn_of_mem_exportOrder (i := i) hlist (by rw [hi]; exact List.mem_cons_self)
      exact State.freeRecord_spares hr hs (hj.ne hr hs)

/-! ## The frame and the opening (R86, R87) -/

theorem State.oldestWithFrame_mem {f : FrameId} (h : s.oldestWithFrame = some (i, f)) : i ∈ s.dir.exportOrder := by
  obtain ⟨l, hl, hi⟩ := List.exists_of_findSome?_eq_some h
  cases hr : s.record l with
  | none =>
    rw [hr] at hi
    exact nomatch hi
  | some r =>
    rw [hr] at hi
    obtain ⟨g, -, hpair⟩ := Option.map_eq_some_iff.1 hi
    rw [← (Prod.mk.inj hpair).1]
    exact hl

theorem State.content_reclaimed_other (s : State) (hj : j ≠ i) : (s.reclaimed i).content j = s.content j :=
  State.content_congr ((s.record_reclaimed i j).trans (if_neg hj))

theorem State.progressTimer_reclaimed (s : State) (i j : SlotId) :
    (s.reclaimed i).progressTimer j = s.progressTimer j := by
  have hxport : (s.modRecord i Record.loseFrame).xport = s.xport := (s.modRecord_changes i _).xport
  rw [State.progressTimer, State.progressTimer, ← hxport]
  rfl

theorem State.takeFrame_spares (hlist : s.listLaw) (hj : s.unexported j) : s.spares s.takeFrame.1 j := by
  rcases s.takeFrame_cases with ⟨f, rest, -, htake⟩ | ⟨i, f, -, hold, htake⟩ | ⟨-, -, htake⟩
  · rw [htake]
    exact ⟨rfl, rfl, fun _ => rfl⟩
  · rw [htake]
    obtain ⟨r, hr, hs⟩ := State.isIn_of_mem_exportOrder hlist (State.oldestWithFrame_mem hold)
    exact ⟨s.content_reclaimed_other (hj.ne hr hs), s.progressTimer_reclaimed i j,
      fun c => congrArg Cell.graceTimer ((s.reclaimed_changes i).cell c)⟩
  · rw [htake]
    exact .refl s j

theorem State.raise_spares (s : State) (a : Alert) (j : SlotId) : s.spares (s.raise a) j :=
  ⟨(s.raise_changes a).contents (by decide) j, (s.raise_changes a).progressTimer j, fun c => by rw [State.cell_raise]⟩

theorem State.openIn_spares (s : State) (hj : j ≠ i) (f : Option FrameId) (c : CellId) (k : Key) (p : Fin 8) (lb : BankId) :
    s.spares (s.openIn i f c k p lb) j := by
  refine ⟨State.content_congr ((s.record_openIn i f c k p lb j).trans (if_neg hj)),
    (s.progressTimer_openIn i f c k p lb j).trans (if_neg hj), fun d => ?_⟩
  rw [State.cell_openIn]
  change ((s.framed i f c k).cell d).graceTimer = _
  unfold State.framed
  split
  · exact (s.raise_spares _ j).grace d
  · rfl

theorem State.openFresh_spares (hlist : s.listLaw) (hj : s.unexported j) (c : CellId) (k : Key) (w : Option (Fin 8))
    (lb : BankId) : s.spares (s.openFresh c k w lb).1 j := by
  have hfree := State.freeExportedWith_spares hj k
  have hlist1 : (s.freeExportedWith k).listLaw :=
    (Closes.freeExportedWith (L := False) s k).acts.keeps (fun _ _ ha => ha.listLaw) hlist
  unfold State.openFresh
  generalize s.freeExportedWith k = s1 at hfree hlist1 ⊢
  have hj1 := hfree.unexported hj
  have hslot := hfree.trans (State.takeSlot_spares hlist1 hj1)
  have hlist2 : s1.takeSlot.1.listLaw :=
    (Closes.takeSlot (L := False) s1).acts.keeps (fun _ _ ha => ha.listLaw) hlist1
  have hspec : ∀ i, s1.takeSlot.2 = some i → s1.takeSlot.1.record i = none := fun i => State.takeSlot_free
  dsimp only
  split
  · exact hfree.trans (s1.raise_spares _ j)
  · next recipe _ =>
    generalize s1.takeSlot = ts at hslot hlist2 hspec ⊢
    obtain ⟨s2, o⟩ := ts
    cases o with
    | none => exact hslot.trans (State.raise_spares s2 _ j)
    | some i =>
      have hj2 := hslot.unexported hj
      exact (hslot.trans (State.takeFrame_spares hlist2 hj2)).trans
        (State.openIn_spares _ (hj2.ne_of_free (hspec i rfl)) _ c k recipe lb)

/-! ## A resume (R83) -/

theorem State.resumeSlot_spares (hr : s.record i = some r) (hj : j ≠ i) (c : CellId) : s.spares (s.resumeSlot i c) j := by
  refine ⟨?_, (State.progressTimer_resumeSlot hr c j).trans (if_neg hj),
    fun d => congrArg Cell.graceTimer ((s.resumeSlot_changes i c).cell d)⟩
  rw [State.content_congr (State.record_resumeSlot_other hr c hj), State.removeSum_contents, State.dropOwed_contents]

/-! ## What an opening does first (steps 1 and 2 of R82) -/

/-- The state in which an opening looks for a record: the cell's CLOSING record is sealed, its OPEN one closed. -/
def State.prepared (s : State) (c : CellId) : State :=
  (s.sealIf (s.closingOn c) .forced).closeOpen c .nextWafer s.time

theorem State.openWafer_eq (s : State) (c : CellId) (k : Key) (w : Option (Fin 8)) (lb : BankId) :
    s.openWafer c k w lb = match (s.prepared c).findSlot ((s.prepared c).resumable k) with
      | some i => ((s.prepared c).resumeSlot i c, .record i)
      | none => (s.prepared c).openFresh c k w lb := by
  rw [State.openWafer, (s.sealIf_changes (s.closingOn c) .forced).time]
  rfl

theorem State.findSlot_congr_any {p : Record → Bool} (h : ∀ i, (t.record i).any p = (s.record i).any p) :
    t.findSlot p = s.findSlot p := by
  refine congrArg (List.find? · allSlots) (funext fun i => ?_)
  have hi := h i
  cases ht : t.record i <;> cases hs : s.record i <;> rw [ht, hs] at hi <;> exact hi

theorem State.content_any {p : Record → Bool} (hp : ∀ r b, p (r.withOwed b) = p r) (s : State) (i : SlotId) :
    (s.content i).any p = (s.record i).any p := by
  unfold State.content
  cases s.record i with
  | none => rfl
  | some r => exact hp r false

theorem State.openOn_sealClosing (s : State) (c d : CellId) (w : CloseReason) :
    (s.sealIf (s.closingOn c) w).openOn d = s.openOn d := by
  refine State.findSlot_congr_any fun j => ?_
  rw [← State.content_any (by exact fun _ _ => rfl), ← State.content_any (s := s) (by exact fun _ _ => rfl)]
  by_cases hj : s.closingOn c = some j
  · obtain ⟨q, hq, -⟩ := State.findSlot_some hj
    have hst := (State.closingOn_spec hj hq).1
    rw [hj, State.sealIf_seals hq (Record.isActive_iff.2 (.inr hst)), State.content_of_record hq]
    have hold : (q.withOwed false).state = .closing := hst
    simp only [Option.any_some, hold]
    rfl
  · rw [State.content_sealIf_other _ hj]

theorem State.prepared_closes (s : State) (c : CellId) : Closes False s (s.prepared c) :=
  (Closes.sealIf s _ .forced).trans (State.closeOpen_closes nofun c .nextWafer s.time).1

theorem State.prepared_forces (s : State) (c : CellId) : s.forcesClosing (s.prepared c) c := by
  refine (s.sealClosing_forces c).kept fun j hj => ?_
  obtain ⟨q, hq, -⟩ := State.findSlot_some hj
  obtain ⟨q', hq', hst, -⟩ := s.sealClosing_forces c j q hj hq
  unfold State.prepared State.closeOpen
  split
  · rfl
  · next i hi =>
    obtain ⟨r, hr, ho, hc⟩ := State.openOn_spec' hi
    refine State.content_moveToClosing_other hr ho _ _ (fun h => ?_) fun h => ?_
    · rw [h, hr] at hq'
      rw [Option.some.inj hq', hst] at ho
      exact nomatch ho
    · exact nomatch (State.closingOn_spec h hq').1.symm.trans hst

theorem State.prepared_enters (s : State) (ho : s.openOn c = some i) (hr : s.record i = some r) :
    s.entersClosing (s.prepared c) c i r .nextWafer s.time := by
  obtain ⟨hst, hcell⟩ := State.openOn_spec ho hr
  obtain ⟨b, hb⟩ := State.record_of_sealClosing hr hst c .forced
  have hsealed := s.sealIf_changes (s.closingOn c) .forced
  have hcfg : (s.cell c).cfg = ((s.sealIf (s.closingOn c) .forced).cell c).cfg := by
    rw [(s.sealClosing_closesOn c .forced).timed c]
  have h := State.moveToClosing_enters hb hst .nextWafer s.time
  change State.entersClosing _ _ r.cell i r .nextWafer s.time at h
  rw [hcell] at h
  rw [State.prepared, State.closeOpen, State.openOn_sealClosing, ho]
  exact h.from hcfg hsealed.time.symm

theorem State.prepared_alone (ho : s.openOn c = none) (hc : s.closingOn c = none) : s.prepared c = s := by
  rw [State.prepared, hc]
  change s.closeOpen c _ _ = s
  rw [State.closeOpen, ho]

/-- A record the preparation sealed or moved is neither exported nor of the key of the opening. -/
theorem State.prepared_keeps (hk : s.activeWith k = none) (hj : s.closingOn c = some j ∨ s.openOn c = some j) :
    ∃ r, (s.prepared c).record j = some r ∧ r.key ≠ k ∧ r.state ≠ .exported := by
  have hkey : ∀ q, s.record j = some q → q.isActive = true → q.key ≠ k := fun q hq ha =>
    State.activeWith_none hk j _ (State.role_of_active hq ha)
  rcases hj with hj | hj <;> obtain ⟨q, hq, -⟩ := State.findSlot_some hj
  · have hst := (State.closingOn_spec hj hq).1
    obtain ⟨r, hr, hs, -, -, -, hrk, -⟩ := s.prepared_forces c j q hj hq
    exact ⟨r, hr, hrk ▸ hkey q hq (Record.isActive_iff.2 (.inr hst)), by rw [hs]; decide⟩
  · have hst := (State.openOn_spec hj hq).1
    obtain ⟨-, r, hr, hrk, -, -, -, -, -, hend⟩ := s.prepared_enters hj hq
    refine ⟨r, hr, hrk ▸ hkey q hq (Record.isActive_iff.2 (.inl hst)), ?_⟩
    split at hend
    · rw [hend.1]
      decide
    · rw [hend.1]
      decide

theorem State.openWafer_spares (hlist : s.listLaw) (hk : s.activeWith k = none)
    (hj : s.closingOn c = some j ∨ s.openOn c = some j) (w : Option (Fin 8)) (lb : BankId) :
    (s.prepared c).spares (s.openWafer c k w lb).1 j := by
  obtain ⟨r, hr, hkey, hne⟩ := State.prepared_keeps hk hj
  have hlist' : (s.prepared c).listLaw := (s.prepared_closes c).acts.keeps (fun _ _ ha => ha.listLaw) hlist
  rw [State.openWafer_eq]
  split
  · next i hi =>
    obtain ⟨q, hq, hres⟩ := State.findSlot_some hi
    refine State.resumeSlot_spares hq (fun h => hkey ?_) c
    simp only [State.resumable, Bool.and_eq_true, beq_iff_eq] at hres
    rw [h, hq] at hr
    rw [← Option.some.inj hr]
    exact hres.1.1.1.1.1.1.2
  · exact State.openFresh_spares hlist' ⟨r, hr, hne⟩ c k w lb

/-- An opening seals the cell's CLOSING record and moves its OPEN record to CLOSING. -/
theorem State.openWafer_closes (hlist : s.listLaw) (hk : s.activeWith k = none) (c : CellId) (w : Option (Fin 8))
    (lb : BankId) : s.forcesClosing (s.openWafer c k w lb).1 c ∧ ∀ j q, s.openOn c = some j → s.record j = some q →
      s.entersClosing (s.openWafer c k w lb).1 c j q .nextWafer s.time :=
  ⟨(s.prepared_forces c).kept fun _ hj => (State.openWafer_spares hlist hk (.inl hj) w lb).content,
    fun _ _ hj hq => (State.openWafer_spares hlist hk (.inr hj) w lb).enters (s.prepared_enters hj hq)⟩

end

end Sys2Proof.Machine

/-! SUPPORT. The outcomes of an opening on a cell with no OPEN and no CLOSING record (R82 to R87). -/

namespace Sys2Proof.Machine

set_option Elab.async false

section

variable {s t u : State} {i j : SlotId} {r : Record} {c : CellId} {k : Key} {lb : BankId} {p : Fin 8} {b : Byte}

/-! ## The choice of a recipe (R68, R84) -/

theorem recipeOfByte_eq_some {w : Fin 8} : recipeOfByte b = some w ↔ b = natByte w.val := by
  refine ⟨fun h => ?_, fun h => by rw [h, recipeOfByte_natByte]⟩
  unfold recipeOfByte at h
  split at h
  · rw [← Option.some.inj h]
    exact BitVec.eq_of_toNat_eq (by simp [natByte])
  · exact nomatch h

theorem State.chooseRecipe_of_chooses (h : s.choosesRecipe c lb b p) : s.chooseRecipe c lb (recipeOfByte b) = some p := by
  obtain ⟨huse, hb | ⟨hp, hnone⟩⟩ := h
  · rw [recipeOfByte_eq_some.2 hb]
    exact if_pos huse
  · cases hw : recipeOfByte b with
    | none =>
      rw [hp] at huse ⊢
      exact if_pos huse
    | some w =>
      have hoff := hnone w (recipeOfByte_eq_some.1 hw)
      rw [hp] at huse ⊢
      simp only [State.chooseRecipe, hoff, huse, if_true]
      rfl

theorem State.chooseRecipe_of_none (h : s.noRecipeFor c lb b) : s.chooseRecipe c lb (recipeOfByte b) = none := by
  obtain ⟨hdflt, hnone⟩ := h
  cases hw : recipeOfByte b with
  | none => simp [State.chooseRecipe, hdflt]
  | some w => simp [State.chooseRecipe, hdflt, hnone w (recipeOfByte_eq_some.1 hw)]

theorem State.noRecipeFor.congr (h : s.noRecipeFor c lb b) (hb : t.bank lb = s.bank lb)
    (hc : (t.cell c).cfg = (s.cell c).cfg) : t.noRecipeFor c lb b := by
  simpa only [State.noRecipeFor, hb, hc] using h

theorem State.choosesRecipe.congr (h : s.choosesRecipe c lb b p) (hb : t.bank lb = s.bank lb)
    (hc : (t.cell c).cfg = (s.cell c).cfg) : t.choosesRecipe c lb b p := by
  simpa only [State.choosesRecipe, hb, hc] using h

/-! ## The free of exported records (R84, R85) -/

/-- From s to t exported records at most have been freed: cells, banks and the copies forwarded are as they were. -/
structure State.clearsRoom (s t : State) : Prop where
  cell     : ∀ c, t.cell c = s.cell c
  bank     : ∀ lb, t.bank lb = s.bank lb
  fwd      : t.hall.fwd = s.hall.fwd
  changes  : s.changesOnly t [.cells, .banks, .dir, .maps, .xport, .hall, .tags]
  standing : ∀ j, t.standing j = none ∨ t.standing j = s.standing j

theorem State.clearsRoom.refl (s : State) : s.clearsRoom s :=
  ⟨fun _ => rfl, fun _ => rfl, rfl, .refl s _, fun _ => .inr rfl⟩

theorem State.clearsRoom.trans (h : s.clearsRoom t) (k : t.clearsRoom u) : s.clearsRoom u :=
  ⟨fun c => (k.cell c).trans (h.cell c), fun lb => (k.bank lb).trans (h.bank lb), k.fwd.trans h.fwd,
    h.changes.trans k.changes, fun j => (k.standing j).elim .inl fun hj => hj ▸ h.standing j⟩

theorem State.clearsRoom.choosesRecipe (h : s.clearsRoom t) (hp : s.choosesRecipe c lb b p) : t.choosesRecipe c lb b p :=
  hp.congr (h.bank lb) (congrArg Cell.cfg (h.cell c))

theorem State.freeRecord_clearsRoom (hr : s.record i = some r) (hs : r.state = .exported) :
    s.clearsRoom (s.freeRecord i) := by
  have hidle : r.isActive ≠ true := fun ha => by
    rcases Record.isActive_iff.1 ha with h | h <;> rw [hs] at h <;> exact nomatch h
  refine ⟨fun c => ?_, fun lb => ?_, by rw [State.hall_freeRecord hr], s.freeRecord_changes i, fun j => ?_⟩
  · rw [State.cell_freeRecord hr, if_neg fun h => nomatch h.1.symm.trans hs]
  · rw [State.bank_freeRecord hr, if_neg fun h => hidle h.1]
  · rw [State.standing_freeRecord hr]
    split
    · exact .inl rfl
    · exact .inr rfl

/-- The slot's record is EXPORTED with key k. -/
def State.holdsExported (s : State) (k : Key) (j : SlotId) : Prop :=
  ∃ ρ, s.standing j = some ρ ∧ ρ.state = .exported ∧ ρ.key = k

theorem State.clearsRoom.holdsExported (h : s.clearsRoom t) (hj : t.holdsExported k j) : s.holdsExported k j := by
  obtain ⟨ρ, hρ, hs⟩ := hj
  refine ⟨ρ, ?_, hs⟩
  rcases h.standing j with hn | hn
  · exact nomatch hn.symm.trans hρ
  · exact hn.symm.trans hρ

/-- One slot's turn in the free of the exported records of a key. -/
def State.freeIfExported (k : Key) (s : State) (i : SlotId) : State :=
  match s.record i with
  | none => s
  | some r => if r.state = .exported ∧ r.key = k then s.freeRecord i else s

theorem State.freeExportedWith_eq (s : State) (k : Key) :
    s.freeExportedWith k = allSlots.foldl (State.freeIfExported k) s := rfl

theorem State.freeIfExported_clearsRoom (s : State) (k : Key) (i : SlotId) :
    s.clearsRoom (s.freeIfExported k i) ∧ ¬ (s.freeIfExported k i).holdsExported k i := by
  unfold State.freeIfExported
  split
  · next hr =>
    refine ⟨.refl s, fun ⟨ρ, hρ, _⟩ => ?_⟩
    rw [State.standing, hr] at hρ
    exact nomatch hρ
  · next r hr =>
    split
    · next h =>
      refine ⟨State.freeRecord_clearsRoom hr h.1, fun ⟨ρ, hρ, _⟩ => ?_⟩
      rw [State.standing_freeRecord hr, if_pos rfl] at hρ
      exact nomatch hρ
    · next h =>
      refine ⟨.refl s, fun ⟨ρ, hρ, hst, hkey⟩ => h ?_⟩
      rw [State.standing_of_record hr] at hρ
      rw [← Option.some.inj hρ] at hst hkey
      exact ⟨hst, hkey⟩

theorem State.foldl_freeIfExported (k : Key) (is : List SlotId) (s : State) :
    s.clearsRoom (is.foldl (State.freeIfExported k) s) ∧
      ∀ i ∈ is, ¬ (is.foldl (State.freeIfExported k) s).holdsExported k i := by
  induction is generalizing s with
  | nil => exact ⟨.refl s, nofun⟩
  | cons i is ih =>
    obtain ⟨hone, hgone⟩ := s.freeIfExported_clearsRoom k i
    obtain ⟨hrest, hall⟩ := ih (s.freeIfExported k i)
    refine ⟨hone.trans hrest, fun j hj => ?_⟩
    rcases List.mem_cons.1 hj with rfl | hj
    · exact fun h => hgone (hrest.holdsExported h)
    · exact hall j hj

theorem State.freeExportedWith_clearsRoom (s : State) (k : Key) : s.clearsRoom (s.freeExportedWith k) :=
  (State.foldl_freeIfExported k allSlots s).1

theorem State.record_freeExportedWith (hr : s.record j = some r) (hk : r.key = k) (hs : r.state = .exported) :
    (s.freeExportedWith k).record j = none := by
  obtain ⟨hclear, hall⟩ := State.foldl_freeIfExported k allSlots s
  refine State.standing_eq_none.1 ((hclear.standing j).resolve_right fun h => hall j (mem_allSlots j) ?_)
  exact ⟨r.standing, h.trans (State.standing_of_record hr), hs, hk⟩

theorem State.freeExportedWith_of_none (h : ∀ j q, s.record j = some q → q.key = k → q.state ≠ .exported) :
    s.freeExportedWith k = s := by
  have hstep : ∀ i, s.freeIfExported k i = s := fun i => by
    unfold State.freeIfExported
    split
    · rfl
    · next r hr => exact if_neg fun hc => h i r hr hc.2 hc.1
  rw [State.freeExportedWith_eq]
  generalize allSlots = is
  induction is with
  | nil => rfl
  | cons i is ih => rw [List.foldl_cons, hstep, ih]

/-! ## The slot and the frame (R85, R86) -/

theorem State.freeSlot_of_lowest (h : s.lowestFree i) : s.freeSlot? = some i := by
  have hslots : allSlots = List.finRange 24 := rfl
  obtain ⟨hi, hlow⟩ := h
  rw [State.freeSlot?, hslots, ← Fin.find?_eq_find?_finRange, Fin.find?_eq_some_iff]
  refine ⟨by rw [hi]; rfl, fun j hj => ?_⟩
  rw [Option.isNone_eq_false_iff, Option.isSome_iff_ne_none]
  exact hlow j hj

theorem State.freeSlot_of_full (h : ∀ j, s.record j ≠ none) : s.freeSlot? = none :=
  List.find?_eq_none.2 fun j _ hj => h j (Option.isNone_iff_eq_none.1 hj)

theorem State.takeFrame_of_free {f : FrameId} {fs : List FrameId} (h : s.maps.free = f :: fs) :
    s.takeFrame = (s.withMaps { s.maps with free := fs }, some f) := by
  rw [State.takeFrame, h]

theorem State.takeFrame_of_reclaim {f : FrameId} {before after : List SlotId} (h : s.maps.free = [])
    (ho : s.dir.exportOrder = before ++ j :: after) (hb : ∀ x ∈ before, ∀ q, s.record x = some q → q.frame = none)
    (hr : s.record j = some r) (hf : r.frame = some f) : s.takeFrame = (s.reclaimed j, some f) := by
  have hold : s.oldestWithFrame = some (j, f) := by
    refine List.findSome?_eq_some_iff.2 ⟨before, j, after, ho, by rw [hr]; simp only [hf, Option.map_some], fun x hx => ?_⟩
    cases hq : s.record x with
    | none => rfl
    | some q => simp only [hb x hx q hq, Option.map_none]
  rw [State.takeFrame, h, hold]
  rfl

theorem State.takeFrame_of_none (h : s.maps.free = [])
    (hb : ∀ x ∈ s.dir.exportOrder, ∀ q, s.record x = some q → q.frame = none) : s.takeFrame = (s, none) := by
  have hold : s.oldestWithFrame = none := by
    refine List.findSome?_eq_none_iff.2 fun x hx => ?_
    cases hq : s.record x with
    | none => rfl
    | some q => simp only [hb x hx q hq, Option.map_none]
  rw [State.takeFrame, h, hold]

/-! ## The opening in its slot (R87, R101, R162) -/

theorem State.openIn_opensFresh (s : State) (i : SlotId) (f : Option FrameId) (c : CellId) (k : Key) (p : Fin 8)
    (lb : BankId) : s.opensFresh (s.openIn i f c k p lb) c k p lb i f := by
  refine ⟨(s.record_openIn i f c k p lb i).trans (if_pos rfl), ?_, fun g hg => ?_, ?_, ?_, ?_⟩
  · rw [State.cell_openIn]
    exact if_pos rfl
  · rw [State.frame_congr (s.maps_openIn i f c k p lb), hg]
    exact s.frame_setFrame_same g _
  · rw [State.bank_openIn, if_pos rfl]
  · rw [State.bank_openIn, if_neg lb.other_ne]
  · rw [State.progressTimer_openIn, if_pos rfl]
    rfl

theorem State.opensFresh.from {f : Option FrameId} (h : u.opensFresh t c k p lb i f) (hb : ∀ x, u.bank x = s.bank x)
    (hc : (u.cell c).pendingLoad = (s.cell c).pendingLoad) (ht : u.time = s.time) : s.opensFresh t c k p lb i f := by
  unfold State.opensFresh
  rw [← hc, ← ht, ← hb, ← hb]
  exact h

theorem State.opensFresh.kept {f : Option FrameId} (h : s.opensFresh t c k p lb i f) (hc : t.changesOnly u [.hall]) :
    s.opensFresh u c k p lb i f := by
  unfold State.opensFresh
  rw [hc.record, hc.cell, hc.bank, hc.bank, hc.progressTimer]
  refine ⟨h.1, h.2.1, fun g hg => ?_, h.2.2.2⟩
  rw [State.frame_congr hc.maps]
  exact h.2.2.1 g hg

theorem State.openIn_changes_but (s : State) (i : SlotId) (f : Option FrameId) (c : CellId) (k : Key) (p : Fin 8)
    (lb : BankId) : s.changesOnly (s.openIn i f c k p lb) [.cells, .banks, .dir, .maps, .alerts, .xport] :=
  (s.placed_changes i f c k p lb).mono.trans (s.openIn_placed i f c k p lb).mono

theorem State.openIn_some_changes (s : State) (i : SlotId) (f : FrameId) (c : CellId) (k : Key) (p : Fin 8)
    (lb : BankId) : s.changesOnly (s.openIn i (some f) c k p lb) [.cells, .banks, .dir, .maps, .xport] :=
  ((State.clearFrame_changes s (some f)).mono.trans (State.setSlot_changes _ i _).mono).trans
    (s.openIn_placed i (some f) c k p lb).mono

theorem State.openIn_slotsKeptBut (s : State) (i : SlotId) (f : Option FrameId) (c : CellId) (k : Key) (p : Fin 8)
    (lb : BankId) : s.slotsKeptBut (s.openIn i f c k p lb) i := fun j hj =>
  (s.record_openIn i f c k p lb j).trans (if_neg hj)

/-! ## A fresh opening (R84 to R87) -/

/-- The alert of an opening that finds no recipe, or no slot (R84, R85). -/
def openFailed (kind : AlertKind) (c : CellId) (k : Key) : Alert := { kind := kind, cell := some c, key := some k }

theorem State.openFresh_noRecipe (hn : s.noRecipeFor c lb b) (k : Key) : s.openFresh c k (recipeOfByte b) lb =
    ((s.freeExportedWith k).raise (openFailed .noRecipe c k), .noRecipe) := by
  have hclear := s.freeExportedWith_clearsRoom k
  have hnone := State.chooseRecipe_of_none (hn.congr (hclear.bank lb) (congrArg Cell.cfg (hclear.cell c)))
  simp only [State.openFresh, hnone]
  rfl

section

variable (hp : s.choosesRecipe c lb b p) (hk : ∀ j q, s.record j = some q → q.key = k → q.state ≠ .exported)

include hp hk

theorem State.openFresh_noSlot (hfull : ∀ j, s.record j ≠ none) (ho : s.dir.exportOrder = []) :
    s.openFresh c k (recipeOfByte b) lb = (s.raise (openFailed .noSlot c k), .noSlot) := by
  have htake : s.takeSlot = (s, none) := by rw [State.takeSlot, State.freeSlot_of_full hfull, ho]
  simp only [State.openFresh, State.freeExportedWith_of_none hk, State.chooseRecipe_of_chooses hp, htake]
  rfl

theorem State.openFresh_lowest (hi : s.lowestFree i) : s.openFresh c k (recipeOfByte b) lb =
    (s.takeFrame.1.openIn i s.takeFrame.2 c k p lb, .record i) := by
  have htake : s.takeSlot = (s, some i) := by rw [State.takeSlot, State.freeSlot_of_lowest hi]
  simp only [State.openFresh, State.freeExportedWith_of_none hk, State.chooseRecipe_of_chooses hp, htake]

theorem State.openFresh_oldest {is : List SlotId} (hfull : ∀ j, s.record j ≠ none) (ho : s.dir.exportOrder = i :: is) :
    s.openFresh c k (recipeOfByte b) lb =
      ((s.freeRecord i).takeFrame.1.openIn i (s.freeRecord i).takeFrame.2 c k p lb, .record i) := by
  have htake : s.takeSlot = (s.freeRecord i, some i) := by rw [State.takeSlot, State.freeSlot_of_full hfull, ho]
  simp only [State.openFresh, State.freeExportedWith_of_none hk, State.chooseRecipe_of_chooses hp, htake]

end

/-! ## A resume (R83) -/

theorem State.resumable_iff (hlive : s.liveBank = some lb) : s.resumable k r = true ↔ s.mayResume k lb r := by
  have hcap : Config.resultCap = 1048575 := rfl
  have hbank : (some lb == some r.bank) = true ↔ r.bank = lb := by
    rw [beq_iff_eq, Option.some_inj, eq_comm]
  unfold State.resumable State.mayResume
  rw [hlive]
  simp only [Bool.and_eq_true, hbank, beq_iff_eq, Record.isSealed, Bool.or_eq_true, Option.isSome_iff_ne_none,
    Bool.not_eq_true', decide_eq_true_eq, Record.results, hcap]
  constructor
  · rintro ⟨⟨⟨⟨⟨⟨⟨hst, hkey⟩, rfl⟩, hgen⟩, hf⟩, ht⟩, hm⟩, hc⟩
    exact ⟨hkey, hst, rfl, hgen, hf, ht, hm, hc⟩
  · rintro ⟨hkey, hst, rfl, hgen, hf, ht, hm, hc⟩
    exact ⟨⟨⟨⟨⟨⟨⟨hst, hkey⟩, rfl⟩, hgen⟩, hf⟩, ht⟩, hm⟩, hc⟩

theorem State.resumeSlot_resumes (hlist : s.listLaw) (hr : s.record i = some r) (hs : r.isSealed = true)
    (hlive : (s.bank r.bank).state = .live) (c : CellId) : s.resumes (s.resumeSlot i c) c i r := by
  have hrec := State.record_resumeSlot_same hr c
  have hlist' : (s.resumeSlot i c).listLaw :=
    (Act.resume (L := False) s i r c hr hs hlive nofun).listLaw hlist
  obtain ⟨-, ⟨-, -, hkind, -, howed, -⟩, -⟩ := hlist'
  have htx := State.hall_resumeSlot hr c
  refine ⟨hrec, State.exportOrder_resumeSlot hr c, State.sealOrder_resumeSlot hr c, ?_, ?_, fun hm => ?_, fun hm => ?_,
    ?_, ?_, fun st f h => ?_, fun st f b h => ?_, ?_⟩
  · rw [State.bank_resumeSlot hr, if_pos rfl]
  · rw [State.bank_resumeSlot hr, if_neg r.bank.other_ne]
  · obtain ⟨q, hq, hst⟩ := State.isIn_iff.1 (hkind _ hm)
    rw [← Option.some.inj (hrec.symm.trans hq)] at hst
    simp [Record.resumed] at hst
  · have h := (howed i).1 hm
    rw [State.owesSummary, hrec] at h
    exact Bool.noConfusion h
  · rw [State.xport_resumeSlot hr]
  · rw [State.xport_resumeSlot hr]
  · rw [htx, h]
    simp [TxAction.cancelFor]
  · rw [htx, h]
    simp [TxAction.cancelFor]
  · rw [State.progressTimer_resumeSlot hr, if_pos rfl]
    rfl

theorem State.resumes.from {bs : List Block} (h : u.resumes t c i r) (hu : s.changesOnly u bs) (hd : .dir ∉ bs := by decide)
    (hx : .xport ∉ bs := by decide) (hh : .hall ∉ bs := by decide) (hb : .banks ∉ bs := by decide) :
    s.resumes t c i r := by
  unfold State.resumes
  rw [← hu.dir hd, ← hu.xport hx, ← hu.hall hh, ← hu.bank _ hb, ← hu.bank _ hb]
  exact h

theorem State.resumes.kept (h : s.resumes t c i r) (hu : t.changesOnly u [.hall]) (htx : u.hall.tx = t.hall.tx) :
    s.resumes u c i r := by
  unfold State.resumes
  rw [hu.record, hu.dir, hu.xport, hu.bank, hu.bank, hu.progressTimer, htx]
  exact h

theorem State.openWafer_resumes (ho : s.openOn c = none) (hc : s.closingOn c = none) (hlive : s.liveBank = some lb)
    (hr : s.record i = some r) (hm : s.mayResume k lb r)
    (hlow : ∀ j q, j < i → s.record j = some q → ¬ s.mayResume k lb q) (w : Option (Fin 8)) :
    s.openWafer c k w lb = (s.resumeSlot i c, .record i) := by
  have hfind : s.findSlot (s.resumable k) = some i :=
    State.findSlot_eq_some.2 ⟨⟨r, hr, (State.resumable_iff hlive).2 hm⟩, fun j hj q hq =>
      Bool.eq_false_iff.2 fun h => hlow j q hj hq ((State.resumable_iff hlive).1 h)⟩
  rw [State.openWafer_eq, State.prepared_alone ho hc, hfind]

theorem State.openWafer_fresh (ho : s.openOn c = none) (hc : s.closingOn c = none) (hlive : s.liveBank = some lb)
    (hno : ∀ j q, s.record j = some q → ¬ s.mayResume k lb q) (w : Option (Fin 8)) :
    s.openWafer c k w lb = s.openFresh c k w lb := by
  have hfind : s.findSlot (s.resumable k) = none := State.findSlot_eq_none.2 fun j q hq =>
    Bool.eq_false_iff.2 fun h => hno j q hq ((State.resumable_iff hlive).1 h)
  rw [State.openWafer_eq, State.prepared_alone ho hc, hfind]

end

end Sys2Proof.Machine

/-! SUPPORT. A BEGIN that is collated: the copy, the return to OPEN, and the openings (R68, R69, R81 to R87). -/

namespace Sys2Proof.Machine

set_option Elab.async false

section

variable {s t u : State} {i j : SlotId} {r q : Record} {c : CellId} {k : Key} {lb : BankId} {p : Fin 8} {b : Byte}
  {w : CloseReason} {stamp : Word}

/-! ## Recipes through an entry to CLOSING -/

/-- From s to t the recipes of both banks stay. -/
def State.recipesKept (s t : State) : Prop := ∀ lb, (t.bank lb).recipes = (s.bank lb).recipes

theorem State.changesOnly.recipesKept {bs : List Block} (h : s.changesOnly t bs) (hb : .banks ∉ bs := by decide) :
    s.recipesKept t := fun lb => by rw [h.bank lb hb]

theorem State.recipesKept.trans (h : s.recipesKept t) (k : t.recipesKept u) : s.recipesKept u := fun lb =>
  (k lb).trans (h lb)

theorem State.sealSlot_recipesKept (s : State) (i : SlotId) (w : Option CloseReason) : s.recipesKept (s.sealSlot i w) := by
  by_cases hidle : ∀ r, s.record i = some r → r.isActive = false
  · rw [State.sealSlot_of_idle hidle]
    exact fun _ => rfl
  · push Not at hidle
    obtain ⟨r, hr, ha⟩ := hidle
    intro lb
    rw [State.bank_sealSlot hr (Bool.eq_true_of_not_eq_false ha)]
    split <;> rfl

theorem State.startGrace_recipesKept (s : State) (i : SlotId) (c : CellId) : s.recipesKept (s.startGrace i c) := by
  unfold State.startGrace
  split
  · exact s.sealSlot_recipesKept i none
  · exact (s.modCell_changes c _).recipesKept

theorem State.moveToClosing_recipesKept (s : State) (i : SlotId) (w : CloseReason) (stamp : Word) :
    s.recipesKept (s.moveToClosing i w stamp) := by
  unfold State.moveToClosing
  split
  · exact fun _ => rfl
  · next r _ =>
    have hseal : s.recipesKept (s.sealIf (s.closingOn r.cell) .forced) := by
      cases s.closingOn r.cell with
      | none => exact fun _ => rfl
      | some j => exact s.sealSlot_recipesKept j _
    have hrecord := State.modRecord_changes (s.sealIf (s.closingOn r.cell) .forced) i fun r => r.enterClosing w stamp
    exact (hseal.trans (hrecord.recipesKept.trans (State.setProgress_changes _ i none).recipesKept)).trans
      (State.startGrace_recipesKept _ i r.cell)

/-! ## The return to OPEN (R81) -/

theorem State.not_owed_of_active (h : s.listLaw) (hr : s.record i = some r) (ha : r.isActive = true) :
    r.flags.summaryOwed = false := by
  obtain ⟨-, ⟨-, -, -, -, howed, hsealed, -⟩, -⟩ := h
  refine Bool.eq_false_iff.2 fun hf => ?_
  have hmem := (howed i).2 ((State.owesSummary_of_record hr).trans hf)
  obtain ⟨q, hq, hst⟩ := State.isIn_iff.1 (hsealed i hmem).1
  rw [← Option.some.inj (hr.symm.trans hq)] at hst
  rcases Record.isActive_iff.1 ha with h | h <;> simp [h] at hst

/-- The CLOSING record returned to OPEN, before the cell's other record is closed. -/
def State.reopening (s : State) (i : SlotId) (r : Record) : State :=
  (s.stopGrace r.cell).setSlot i (some r.reopened)

theorem State.reopening_changes (s : State) (i : SlotId) (r : Record) : s.changesOnly (s.reopening i r) [.cells, .dir] :=
  (s.stopGrace_changes r.cell).seq (State.setSlot_changes _ i _)

theorem State.record_reopening (s : State) (i j : SlotId) (r : Record) :
    (s.reopening i r).record j = if j = i then some r.reopened else s.record j := by
  rw [State.reopening, State.record_setSlot, (s.stopGrace_changes r.cell).record]

/-- The cell's OPEN record closed after that. -/
def State.returned (s : State) (i : SlotId) (r : Record) : State :=
  match s.openOn r.cell with
  | none => s.reopening i r
  | some j => (s.reopening i r).moveToClosing j .nextWafer s.time

theorem State.returnToOpen_eq (hr : s.record i = some r) : s.returnToOpen r.cell i = (s.returned i r).startProgress i := by
  have hrec : (s.stopGrace r.cell).record i = some r := ((s.stopGrace_changes r.cell).record i).trans hr
  rw [State.returnToOpen, State.returned, State.modRecord_of_record hrec]
  cases s.openOn r.cell with
  | none => rfl
  | some j =>
    change ((s.reopening i r).moveToClosing j .nextWafer (s.reopening i r).time).startProgress i = _
    rw [(s.reopening_changes i r).time]

theorem State.returned_recipesKept (s : State) (i : SlotId) (r : Record) : s.recipesKept (s.returned i r) := by
  have hbase := (s.reopening_changes i r).recipesKept
  unfold State.returned
  split
  · exact hbase
  · exact hbase.trans (State.moveToClosing_recipesKept _ _ _ _)

theorem State.returned_changes (s : State) (i : SlotId) (r : Record) :
    s.changesOnly (s.returned i r) [.cells, .banks, .dir, .alerts, .xport, .tags] := by
  unfold State.returned
  split
  · exact (s.reopening_changes i r).mono
  · exact (s.reopening_changes i r).mono.trans (State.moveToClosing_changes _ _ _ _)

theorem State.openOn_ne_closing (hr : s.record i = some r) (hc : r.state = .closing) {d : CellId}
    (hj : s.openOn d = some j) : j ≠ i := by
  rintro rfl
  exact nomatch (State.openOn_spec hj hr).1.symm.trans hc

section

variable (hr : s.record i = some r) (hc : r.state = .closing)

include hr hc

theorem State.content_returned : (s.returned i r).content i = some (r.reopened.withOwed false) := by
  have hbase := (s.record_reopening i i r).trans (if_pos rfl)
  unfold State.returned
  split
  · exact State.content_of_record hbase
  · next j hj =>
    obtain ⟨q, hq, ho, -⟩ := State.openOn_spec' hj
    have hji := State.openOn_ne_closing hr hc hj
    have hq' := (s.record_reopening i j r).trans ((if_neg hji).trans hq)
    rw [State.content_moveToClosing_other hq' ho _ _ hji.symm fun h =>
      nomatch (State.closingOn_spec h hbase).1]
    exact State.content_of_record hbase

theorem State.returned_timed : (s.cell r.cell).onlyTimed ((s.returned i r).cell r.cell) := by
  have hstop := (s.stopGrace_closesOn r.cell).timed r.cell
  have hbase : (s.cell r.cell).onlyTimed ((s.reopening i r).cell r.cell) := by
    rw [State.reopening, (State.setSlot_changes _ i _).cell]
    exact hstop
  unfold State.returned
  split
  · exact hbase
  · next j hj =>
    refine hbase.trans ((State.moveToClosing_closesOn (c := r.cell) (fun q hq => ?_) _ _).timed r.cell)
    rw [State.record_reopening, if_neg (State.openOn_ne_closing hr hc hj)] at hq
    exact (State.openOn_spec hj hq).2

theorem State.returned_enters (hj : s.openOn r.cell = some j) (hq : s.record j = some q) :
    s.entersClosing (s.returned i r) r.cell j q .nextWafer s.time := by
  obtain ⟨ho, hcell⟩ := State.openOn_spec hj hq
  have hq' := (s.record_reopening i j r).trans ((if_neg (State.openOn_ne_closing hr hc hj)).trans hq)
  have hcfg : (s.cell r.cell).cfg = ((s.reopening i r).cell r.cell).cfg := by
    rw [State.reopening, (State.setSlot_changes _ i _).cell, (s.stopGrace_closesOn r.cell).timed r.cell]
  have h := State.moveToClosing_enters hq' ho .nextWafer s.time
  rw [hcell] at h
  rw [State.returned, hj]
  exact h.from hcfg (s.reopening_changes i r).time.symm

/-- A CLOSING record returns to OPEN with nothing but its closing fields lost, and its progress timer starts. -/
theorem State.returnToOpen_returns (hlist : s.listLaw) :
    (s.returnToOpen r.cell i).record i = some r.reopened ∧
      (s.returnToOpen r.cell i).progressTimer i = (s.recipeOf r).progressTimer := by
  obtain ⟨b, hb⟩ := State.record_of_content (State.content_returned hr hc)
  have hlist' := (State.returnToOpen_acts (L := False) nofun hr hc).keeps (fun _ _ ha => ha.listLaw) hlist
  rw [State.returnToOpen_eq hr] at hlist' ⊢
  have hrec := ((State.startProgress_changes _ i).record i).trans hb
  have hfalse : b = false := State.not_owed_of_active hlist' hrec (Record.isActive_iff.2 (.inl rfl))
  have hsame : r.reopened.withOwed b = r.reopened := by
    rw [hfalse, ← State.not_owed_of_active hlist hr (Record.isActive_iff.2 (.inr hc))]
    rfl
  rw [hsame] at hrec hb
  refine ⟨hrec, ?_⟩
  rw [State.progressTimer_startProgress hb, if_pos rfl, State.recipeOf_congr (s.returned_recipesKept i r)]
  rfl

theorem State.returnToOpen_enters (hj : s.openOn r.cell = some j) (hq : s.record j = some q) :
    s.entersClosing (s.returnToOpen r.cell i) r.cell j q .nextWafer s.time := by
  obtain ⟨b, hb⟩ := State.record_of_content (State.content_returned hr hc)
  have hstart := State.startProgress_changes (s.returned i r) i
  rw [State.returnToOpen_eq hr]
  refine (State.returned_enters hr hc hj hq).kept ?_ (hstart.contents (by decide) j)
    (congrArg Cell.graceTimer (hstart.cell r.cell))
  rw [State.progressTimer_startProgress hb, if_neg (State.openOn_ne_closing hr hc hj)]

end

/-! ## A BEGIN taken from the FIFO (R68, R69, R81) -/

theorem State.fwd_forwardMarker (hfwd : u.hall.fwd = s.hall.fwd) {route : Byte} {m : Marker} {slot : Option SlotId}
    {f : OutFrame} (hf : fwdMarker u c route m slot = f) :
    (u.forwardMarker c (s.cell c).cfg.mode.forwards route m slot).hall.fwd = (s.copied c f).fwd := by
  rw [State.copied_eq, State.forwardMarker, hf]
  split
  · rw [State.forward, State.withHall_hall, hfwd]
  · exact hfwd

theorem State.tx_forwardMarker (u : State) (c : CellId) (x : Bool) (route : Byte) (m : Marker) (slot : Option SlotId) :
    (u.forwardMarker c x route m slot).hall.tx = u.hall.tx := by
  unfold State.forwardMarker
  split <;> rfl

theorem State.opensFresh.copy {f : Option FrameId} (h : s.opensFresh u c k p lb i f) (hnode : u.node = s.node)
    (route : Byte) (m : Marker) : fwdMarker u c route m (some i) =
      s.markerCopy c route m ([natByte i.val, lb.code] ++ wordBytes (s.bank lb).gen) :=
  State.fwdMarker_placed hnode h.1 (r := freshRecord k c p lb (s.bank lb).gen f (s.cell c).pendingLoad s.time) rfl rfl
    c route m

section

variable {route : Byte} {m : Marker} {rest : List FifoEntry}

theorem exec_engineTake_begin (h : s.collatesNext c (.marker route m) rest lb) (hm : m.kind = 0x01) :
    exec .engineTake s = .next (((s.taken c).beginMarker c m.key (recipeOfByte m.recipe) lb).1.forwardMarker c
      (s.cell c).cfg.mode.forwards route m ((s.taken c).beginMarker c m.key (recipeOfByte m.recipe) lb).2) := by
  rw [exec_engineTake_marker h, State.deliver, if_pos hm]
  rfl

theorem exec_engineTake_opening (h : s.collatesNext c (.marker route m) rest lb) (hm : m.kind = 0x01)
    (hk : s.activeWith m.key = none) {x : Resolution}
    (hx : (s.taken c).openWafer c m.key (recipeOfByte m.recipe) lb = (u, x)) :
    exec .engineTake s = .next (u.forwardMarker c (s.cell c).cfg.mode.forwards route m x.slot) := by
  have hbegin : (s.taken c).beginMarker c m.key (recipeOfByte m.recipe) lb = (u, x.slot) := by
    rw [State.beginMarker, ((s.taken_changes c).activeWith m.key).trans hk, hx]
  rw [exec_engineTake_begin h hm, hbegin]

theorem exec_engineTake_begin_active (h : s.collatesNext c (.marker route m) rest lb) (hm : m.kind = 0x01)
    (hi : s.activeWith m.key = some i) (hr : s.record i = some r) {x : State × Option SlotId}
    (hx : (if r.cell ≠ c then ((s.taken c).raise (conflictAlert c m.key i), none)
      else if r.state = .opened then (s.taken c, some i) else ((s.taken c).returnToOpen c i, some i)) = x) :
    exec .engineTake s = .next (x.1.forwardMarker c (s.cell c).cfg.mode.forwards route m x.2) := by
  have hbegin : (s.taken c).beginMarker c m.key (recipeOfByte m.recipe) lb = x := by
    rw [State.beginMarker, ((s.taken_changes c).activeWith m.key).trans hi]
    simp only [((s.taken_changes c).record i).trans hr]
    exact hx
  rw [exec_engineTake_begin h hm, hbegin]

end

end

end Sys2Proof.Machine

/-! SUPPORT. The openings of a BEGIN, and what it does to a record of its key that is OPEN or CLOSING (R81 to R87). -/

namespace Sys2Proof.Machine

set_option Elab.async false

/-- An opening of key k on cell c in LIVE bank lb finds no record to seal, to close or to resume. -/
structure State.opensOn (s : State) (c : CellId) (k : Key) (lb : BankId) : Prop where
  opened  : s.openOn c = none
  closing : s.closingOn c = none
  live    : s.liveBank = some lb
  fresh   : ∀ j q, s.record j = some q → ¬ s.mayResume k lb q

/-- Recipe p is chosen for an opening of key k, and no EXPORTED record has that key. -/
structure State.readyFor (s : State) (c : CellId) (k : Key) (lb : BankId) (b : Byte) (p : Fin 8) : Prop where
  recipe : s.choosesRecipe c lb b p
  unheld : ∀ j q, s.record j = some q → q.key = k → q.state ≠ .exported

section

variable {s t u : State} {i j : SlotId} {r q : Record} {c : CellId} {k : Key} {lb : BankId} {p : Fin 8} {b : Byte}
  {f : FrameId} {fs : List FrameId}

/-! ## In the state the take leaves -/

theorem State.cfg_taken (s : State) (c : CellId) : ((s.taken c).cell c).cfg = (s.cell c).cfg := by rw [State.cell_taken]

theorem State.pendingLoad_taken (s : State) (c : CellId) : ((s.taken c).cell c).pendingLoad = (s.cell c).pendingLoad := by
  rw [State.cell_taken]

theorem State.changesOnly.listLaw {bs : List Block} (h : s.changesOnly t bs) (hs : s.listLaw)
    (hd : .dir ∉ bs := by decide) (hx : .xport ∉ bs := by decide) : t.listLaw := by
  obtain ⟨horders, hsums, hmaps⟩ := State.listLaw_iff.1 hs
  exact State.listLaw_iff.2 ⟨h.ordersOk horders hd hx, h.sumsOk hsums hd hx, h.mapsOk hmaps hd hx⟩

theorem State.mayResume.taken (h : (s.taken c).mayResume k lb q) : s.mayResume k lb q := by
  unfold State.mayResume at h ⊢
  rwa [(s.taken_changes c).bank] at h

theorem State.opensOn.taken (h : s.opensOn c k lb) : (s.taken c).opensOn c k lb := by
  have hv := s.taken_changes c
  exact ⟨(hv.openOn c).trans h.opened, (hv.closingOn c).trans h.closing, (s.liveBank_taken c).trans h.live,
    fun j q hq hm => h.fresh j q ((hv.record j).symm.trans hq) hm.taken⟩

theorem State.readyFor.taken (h : s.readyFor c k lb b p) : (s.taken c).readyFor c k lb b p := by
  have hv := s.taken_changes c
  exact ⟨h.recipe.congr (hv.bank lb) (s.cfg_taken c), fun j q hq => h.unheld j q ((hv.record j).symm.trans hq)⟩

theorem State.lowestFree.taken (h : s.lowestFree i) (c : CellId) : (s.taken c).lowestFree i := by
  unfold State.lowestFree
  simp only [(s.taken_changes c).record]
  exact h

theorem State.opensFresh.of_taken {o : Option FrameId} (h : (s.taken c).opensFresh t c k p lb i o) :
    s.opensFresh t c k p lb i o :=
  h.from (fun x => (s.taken_changes c).bank x) (s.pendingLoad_taken c) (s.taken_changes c).time

/-! ## The outcomes of a fresh opening -/

theorem State.opensOn.openWafer_eq (h : s.opensOn c k lb) (w : Option (Fin 8)) :
    s.openWafer c k w lb = s.openFresh c k w lb := State.openWafer_fresh h.opened h.closing h.live h.fresh w

theorem State.cfg_openIn (s : State) (i : SlotId) (o : Option FrameId) (c : CellId) (k : Key) (p : Fin 8) (lb : BankId) :
    ((s.openIn i o c k p lb).cell c).cfg = (s.cell c).cfg := by
  rw [State.cell_openIn]
  change ((s.framed i o c k).cell c).cfg = _
  unfold State.framed
  split
  · rw [State.cell_raise]
  · rfl

/-- The opening takes the lowest FREE slot and the head of the free-frame list. -/
theorem State.openWafer_opens (h : s.opensOn c k lb) (hp : s.readyFor c k lb b p) (hi : s.lowestFree i)
    (hf : s.maps.free = f :: fs) : ∃ u, s.openWafer c k (recipeOfByte b) lb = (u, .record i) ∧
      s.opensFresh u c k p lb i (some f) ∧ u.maps.free = fs ∧ s.slotsKeptBut u i ∧
      s.changesOnly u [.cells, .banks, .dir, .maps, .xport] ∧ (u.cell c).cfg = (s.cell c).cfg := by
  have hm := s.withMaps_changes { s.maps with free := fs }
  have hchanges := State.openIn_some_changes (s.withMaps { s.maps with free := fs }) i f c k p lb
  refine ⟨(s.withMaps { s.maps with free := fs }).openIn i (some f) c k p lb, ?_, ?_, ?_, ?_, ?_, ?_⟩
  · rw [h.openWafer_eq, State.openFresh_lowest hp.recipe hp.unheld hi, State.takeFrame_of_free hf]
  · exact (State.openIn_opensFresh _ i (some f) c k p lb).from (fun _ => rfl) rfl rfl
  · rw [State.maps_free_openIn, State.withMaps_maps]
  · exact State.openIn_slotsKeptBut _ i (some f) c k p lb
  · exact hm.mono.trans hchanges
  · exact State.cfg_openIn _ i (some f) c k p lb

/-- With no FREE slot the opening takes the slot of the oldest EXPORTED record, which is freed. -/
theorem State.openWafer_reuses {is : List SlotId} (h : s.opensOn c k lb) (hp : s.readyFor c k lb b p) (hlist : s.listLaw)
    (hfull : ∀ j, s.record j ≠ none) (ho : s.dir.exportOrder = i :: is) (hr : s.record i = some r)
    (hf : s.maps.free ++ r.frame.toList = f :: fs) : ∃ u, s.openWafer c k (recipeOfByte b) lb = (u, .record i) ∧
      s.opensFresh u c k p lb i (some f) ∧ u.maps.free = fs ∧ u.dir.exportOrder = is ∧ u.alerts = s.alerts ∧
      u.hall.fwd = s.hall.fwd ∧ u.node = s.node := by
  obtain ⟨r', hr', hs⟩ := State.isIn_of_mem_exportOrder (i := i) hlist (by rw [ho]; exact List.mem_cons_self)
  obtain rfl := Option.some.inj (hr.symm.trans hr')
  have hclear := State.freeRecord_clearsRoom hr hs
  have hfree : (s.freeRecord i).maps.free = f :: fs := by
    rw [State.maps_freeRecord hr]
    exact hf
  have hchanges := State.openIn_some_changes ((s.freeRecord i).withMaps { (s.freeRecord i).maps with free := fs }) i f c k p lb
  refine ⟨((s.freeRecord i).withMaps { (s.freeRecord i).maps with free := fs }).openIn i (some f) c k p lb, ?_, ?_, ?_, ?_,
    ?_, ?_, ?_⟩
  · rw [h.openWafer_eq, State.openFresh_oldest hp.recipe hp.unheld hfull ho, State.takeFrame_of_free hfree]
  · exact (State.openIn_opensFresh _ i (some f) c k p lb).from hclear.bank (congrArg Cell.pendingLoad (hclear.cell c))
      hclear.changes.time
  · rw [State.maps_free_openIn, State.withMaps_maps]
  · refine (State.openIn_orders _ i (some f) c k p lb).1.trans ((State.exportOrder_freeRecord hr).trans ?_)
    rw [ho, List.erase_cons_head]
  · exact hchanges.alerts.trans hclear.changes.alerts
  · exact (congrArg HallPort.fwd hchanges.hall).trans hclear.fwd
  · exact hchanges.node.trans hclear.changes.node

/-- With no frame free the opening takes the frame of the oldest EXPORTED record that holds one. -/
theorem State.openWafer_reclaims {before after : List SlotId} (h : s.opensOn c k lb) (hp : s.readyFor c k lb b p)
    (hi : s.lowestFree i) (hf : s.maps.free = []) (ho : s.dir.exportOrder = before ++ j :: after)
    (hb : ∀ x ∈ before, ∀ q, s.record x = some q → q.frame = none) (hr : s.record j = some r) (hrf : r.frame = some f) :
    ∃ u, s.openWafer c k (recipeOfByte b) lb = (u, .record i) ∧ s.opensFresh u c k p lb i (some f) ∧
      u.record j = some r.loseFrame ∧ u.dir.exportOrder = s.dir.exportOrder ∧ u.maps.free = [] ∧
      u.xport.mapQ = s.xport.mapQ.filter (fun e => e.1 != j) ∧
      (∀ d, s.xport.dump = some d → d.slot = j → d.gone = false → u.xport.dump = some { d with aborted := true }) ∧
      u.alerts = s.alerts := by
  have hj : j ≠ i := by
    rintro rfl
    exact nomatch hi.1.symm.trans hr
  have hclaim := s.reclaimed_changes j
  have hxport := (State.xport_openIn (s.reclaimed j) i (some f) c k p lb)
  rw [State.xport_reclaimed] at hxport
  refine ⟨(s.reclaimed j).openIn i (some f) c k p lb, ?_, ?_, ?_, ?_, ?_, ?_, fun d hd hslot hgone => ?_, ?_⟩
  · rw [h.openWafer_eq, State.openFresh_lowest hp.recipe hp.unheld hi, State.takeFrame_of_reclaim hf ho hb hr hrf]
  · exact (State.openIn_opensFresh _ i (some f) c k p lb).from (fun x => hclaim.bank x)
      (congrArg Cell.pendingLoad (hclaim.cell c)) hclaim.time
  · rw [State.record_openIn, if_neg hj, State.record_reclaimed, if_pos rfl, hr]
    rfl
  · exact (State.openIn_orders _ i (some f) c k p lb).1.trans
      (((s.reclaimed_lists j).orders).1.trans (s.modRecord_orders j _).1)
  · rw [State.maps_free_openIn, hclaim.maps, hf]
  · rw [hxport]
  · rw [hxport, hd, Option.map_some, if_pos ⟨hslot, hgone⟩]
  · exact (State.openIn_some_changes _ i f c k p lb).alerts.trans hclaim.alerts

/-- With no frame at all the opening is tally-only, with NO_FRAME. -/
theorem State.openWafer_tallyOnly (h : s.opensOn c k lb) (hp : s.readyFor c k lb b p) (hi : s.lowestFree i)
    (hf : s.maps.free = []) (hb : ∀ x ∈ s.dir.exportOrder, ∀ q, s.record x = some q → q.frame = none) :
    ∃ u, s.openWafer c k (recipeOfByte b) lb = (u, .record i) ∧ s.opensFresh u c k p lb i none ∧ s.slotsKeptBut u i ∧
      u.alerts = (s.raise (noFrameNotice i c k)).alerts := by
  refine ⟨s.openIn i none c k p lb, ?_, s.openIn_opensFresh i none c k p lb, s.openIn_slotsKeptBut i none c k p lb,
    s.alerts_openIn i none c k p lb⟩
  rw [h.openWafer_eq, State.openFresh_lowest hp.recipe hp.unheld hi, State.takeFrame_of_none hf hb]

/-! ## A BEGIN that opens (R81 to R87) -/

section

variable {route : Byte} {m : Marker} {rest : List FifoEntry} (htake : s.collatesNext c (.marker route m) rest lb)
  (hm : m.kind = 0x01) (hk : s.activeWith m.key = none)

include htake hm hk

theorem State.begin_closes (hlist : s.listLaw) : ∃ t, exec .engineTake s = .next t ∧ s.forcesClosing t c ∧
    ∀ j q, s.openOn c = some j → s.record j = some q → s.entersClosing t c j q .nextWafer s.time := by
  have hv := s.taken_changes c
  obtain ⟨hforce, henter⟩ := State.openWafer_closes (hv.listLaw hlist) ((hv.activeWith m.key).trans hk) c
    (recipeOfByte m.recipe) lb
  have hfwd := State.forwardMarker_changes ((s.taken c).openWafer c m.key (recipeOfByte m.recipe) lb).1 c
    (s.cell c).cfg.mode.forwards route m ((s.taken c).openWafer c m.key (recipeOfByte m.recipe) lb).2.slot
  refine ⟨_, exec_engineTake_opening htake hm hk rfl, (hforce.from hv).kept fun j _ => hfwd.contents (by decide) j,
    fun j q hj hq => ?_⟩
  have h := henter j q ((hv.openOn c).trans hj) ((hv.record j).trans hq)
  rw [hv.time] at h
  exact (h.from (s.cfg_taken c).symm hv.time.symm).kept (hfwd.progressTimer j) (hfwd.contents (by decide) j)
    (congrArg Cell.graceTimer (hfwd.cell c))

theorem State.begin_resumes (hlist : s.listLaw) (ho : s.openOn c = none) (hc : s.closingOn c = none)
    (hr : s.record i = some r) (hmay : s.mayResume m.key lb r)
    (hlow : ∀ j q, j < i → s.record j = some q → ¬ s.mayResume m.key lb q) :
    ∃ t, exec .engineTake s = .next t ∧ s.resumes t c i r ∧ (t.cell c).pendingLoad = (s.cell c).pendingLoad ∧
      t.hall.fwd = (s.copied c (s.markerCopy c route m (r.place i))).fwd ∧ t.maps = s.maps ∧ t.alerts = s.alerts := by
  have hv := s.taken_changes c
  have hr' := (hv.record i).trans hr
  have hlive := (s.liveBank_taken c).trans htake.2.2.2
  have hmay' : (s.taken c).mayResume m.key lb r := by
    unfold State.mayResume
    rwa [hv.bank]
  have hopen := State.openWafer_resumes ((hv.openOn c).trans ho) ((hv.closingOn c).trans hc) hlive hr' hmay'
    (fun j q hj hq hmj => hlow j q hj ((hv.record j).symm.trans hq) hmj.taken) (recipeOfByte m.recipe)
  have hsealed : r.isSealed = true := by
    obtain ⟨-, hst, -⟩ := hmay
    simpa [Record.isSealed] using hst
  have hstate : ((s.taken c).bank r.bank).state = .live := by
    rw [hmay.2.2.1]
    exact State.liveBank_state hlive
  have hres := (State.resumeSlot_resumes (hv.listLaw hlist) hr' hsealed hstate c).from hv
  have hchanges := State.resumeSlot_changes (s.taken c) i c
  have hfwd := State.forwardMarker_changes ((s.taken c).resumeSlot i c) c (s.cell c).cfg.mode.forwards route m
    (Resolution.record i).slot
  have hhall : ((s.taken c).resumeSlot i c).hall.fwd = s.hall.fwd := by
    rw [State.hall_resumeSlot hr', hv.hall]
  refine ⟨_, exec_engineTake_opening htake hm hk hopen, hres.kept hfwd (State.tx_forwardMarker _ c _ route m _), ?_,
    State.fwd_forwardMarker hhall (State.fwdMarker_placed (hchanges.node.trans hv.node)
      (State.record_resumeSlot_same hr' c) rfl rfl c route m),
    hfwd.maps.trans (hchanges.maps.trans hv.maps), hfwd.alerts.trans (hchanges.alerts.trans hv.alerts)⟩
  rw [hfwd.cell, hchanges.cell, s.pendingLoad_taken c]

theorem State.begin_noRecipe (ho : s.opensOn c m.key lb) (hn : s.noRecipeFor c lb m.recipe) :
    ∃ t, exec .engineTake s = .next t ∧ t.alerts = (s.raise (openFailed .noRecipe c m.key)).alerts ∧
      t.hall.fwd = (s.copied c (s.markerCopy c route m noPlace)).fwd ∧
      (∀ j q, s.record j = some q → q.key = m.key → q.state = .exported → t.record j = none) ∧
      ((∀ j q, s.record j = some q → q.key = m.key → q.state ≠ .exported) →
        s.changesOnly t [.cells, .engine, .alerts, .hall, .sent]) := by
  have hv := s.taken_changes c
  have hopen := (ho.taken.openWafer_eq (recipeOfByte m.recipe)).trans
    (State.openFresh_noRecipe (hn.congr (hv.bank lb) (s.cfg_taken c)) m.key)
  have hclear := State.freeExportedWith_clearsRoom (s.taken c) m.key
  have hraise := State.raise_changes ((s.taken c).freeExportedWith m.key) (openFailed .noRecipe c m.key)
  have hfwd := State.forwardMarker_changes (((s.taken c).freeExportedWith m.key).raise (openFailed .noRecipe c m.key)) c
    (s.cell c).cfg.mode.forwards route m Resolution.noRecipe.slot
  refine ⟨_, exec_engineTake_opening htake hm hk hopen, ?_, ?_, fun j q hq hkey hst => ?_, fun hno => ?_⟩
  · rw [hfwd.alerts]
    exact State.alerts_raise_congr (hclear.changes.alerts.trans hv.alerts) (hclear.changes.time.trans hv.time) _
  · exact State.fwd_forwardMarker ((congrArg HallPort.fwd hraise.hall).trans (hclear.fwd.trans (congrArg _ hv.hall)))
      (State.fwdMarker_nowhere (hraise.node.trans (hclear.changes.node.trans hv.node)) c route m)
  · rw [hfwd.record, hraise.record]
    exact State.record_freeExportedWith ((hv.record j).trans hq) hkey hst
  · rw [State.freeExportedWith_of_none fun j q hq => hno j q ((hv.record j).symm.trans hq)] at hraise hfwd ⊢
    exact (hv.mono.trans hraise.mono).trans hfwd.mono

theorem State.begin_noSlot (ho : s.opensOn c m.key lb) (hp : s.readyFor c m.key lb m.recipe p)
    (hfull : ∀ j, s.record j ≠ none) (hnone : s.dir.exportOrder = []) :
    ∃ t, exec .engineTake s = .next t ∧ t.alerts = (s.raise (openFailed .noSlot c m.key)).alerts ∧
      t.hall = s.copied c (s.markerCopy c route m noPlace) ∧ s.changesOnly t [.cells, .engine, .alerts, .hall, .sent] := by
  have hv := s.taken_changes c
  have hopen := (ho.taken.openWafer_eq (recipeOfByte m.recipe)).trans (State.openFresh_noSlot hp.taken.recipe hp.taken.unheld
    (fun j => by rw [hv.record]; exact hfull j) ((congrArg Directory.exportOrder hv.dir).trans hnone))
  have hraise := State.raise_changes (s.taken c) (openFailed .noSlot c m.key)
  have hfwd := State.forwardMarker_changes ((s.taken c).raise (openFailed .noSlot c m.key)) c
    (s.cell c).cfg.mode.forwards route m Resolution.noSlot.slot
  refine ⟨_, exec_engineTake_opening htake hm hk hopen, ?_, ?_, (hv.mono.trans hraise.mono).trans hfwd.mono⟩
  · rw [hfwd.alerts]
    exact State.alerts_raise_congr hv.alerts hv.time _
  · exact State.hall_forwardMarker (hraise.hall.trans hv.hall)
      (State.fwdMarker_nowhere (hraise.node.trans hv.node) c route m)

theorem State.begin_opens (ho : s.opensOn c m.key lb) (hp : s.readyFor c m.key lb m.recipe p) (hi : s.lowestFree i)
    (hf : s.maps.free = f :: fs) :
    ∃ t, exec .engineTake s = .next t ∧ s.opensFresh t c m.key p lb i (some f) ∧ t.maps.free = fs ∧
      s.slotsKeptBut t i ∧ t.alerts = s.alerts ∧ t.hall = s.copied c
        (s.markerCopy c route m ([natByte i.val, lb.code] ++ wordBytes (s.bank lb).gen)) := by
  have hv := s.taken_changes c
  obtain ⟨u, hopen, hfresh, hmaps, hslots, hchanges, -⟩ := State.openWafer_opens ho.taken hp.taken (hi.taken c)
    ((congrArg MapStore.free hv.maps).trans hf)
  have hfwd := State.forwardMarker_changes u c (s.cell c).cfg.mode.forwards route m (some i)
  refine ⟨_, exec_engineTake_opening htake hm hk hopen, hfresh.of_taken.kept hfwd, ?_, fun j hj => ?_, ?_, ?_⟩
  · exact (congrArg MapStore.free hfwd.maps).trans hmaps
  · exact (hfwd.record j).trans ((hslots j hj).trans (hv.record j))
  · exact hfwd.alerts.trans (hchanges.alerts.trans hv.alerts)
  · exact State.hall_forwardMarker (hchanges.hall.trans hv.hall)
      (hfresh.of_taken.copy (hchanges.node.trans hv.node) route m)

theorem State.begin_reuses {is : List SlotId} (ho : s.opensOn c m.key lb) (hp : s.readyFor c m.key lb m.recipe p)
    (hlist : s.listLaw) (hfull : ∀ j, s.record j ≠ none) (hx : s.dir.exportOrder = i :: is) (hr : s.record i = some r)
    (hf : s.maps.free ++ r.frame.toList = f :: fs) :
    ∃ t, exec .engineTake s = .next t ∧ s.opensFresh t c m.key p lb i (some f) ∧ t.maps.free = fs ∧
      t.dir.exportOrder = is ∧ t.alerts = s.alerts ∧ t.hall.fwd = (s.copied c
        (s.markerCopy c route m ([natByte i.val, lb.code] ++ wordBytes (s.bank lb).gen))).fwd := by
  have hv := s.taken_changes c
  obtain ⟨u, hopen, hfresh, hmaps, horder, halerts, hcopies, hnode⟩ := State.openWafer_reuses ho.taken hp.taken
    (hv.listLaw hlist) (fun j => by rw [hv.record]; exact hfull j) ((congrArg Directory.exportOrder hv.dir).trans hx)
    ((hv.record i).trans hr) (by rw [hv.maps]; exact hf)
  have hfwd := State.forwardMarker_changes u c (s.cell c).cfg.mode.forwards route m (some i)
  refine ⟨_, exec_engineTake_opening htake hm hk hopen, hfresh.of_taken.kept hfwd, ?_, ?_, ?_, ?_⟩
  · exact (congrArg MapStore.free hfwd.maps).trans hmaps
  · exact (congrArg Directory.exportOrder hfwd.dir).trans horder
  · exact hfwd.alerts.trans (halerts.trans hv.alerts)
  · exact State.fwd_forwardMarker (hcopies.trans (congrArg HallPort.fwd hv.hall))
      (hfresh.of_taken.copy (hnode.trans hv.node) route m)

theorem State.begin_reclaims {before after : List SlotId} (ho : s.opensOn c m.key lb)
    (hp : s.readyFor c m.key lb m.recipe p) (hi : s.lowestFree i) (hf : s.maps.free = [])
    (hx : s.dir.exportOrder = before ++ j :: after) (hb : ∀ x ∈ before, ∀ q, s.record x = some q → q.frame = none)
    (hr : s.record j = some r) (hrf : r.frame = some f) :
    ∃ t, exec .engineTake s = .next t ∧ s.opensFresh t c m.key p lb i (some f) ∧ t.record j = some r.loseFrame ∧
      t.dir.exportOrder = s.dir.exportOrder ∧ t.maps.free = [] ∧
      t.xport.mapQ = s.xport.mapQ.filter (fun e => e.1 != j) ∧
      (∀ d, s.xport.dump = some d → d.slot = j → d.gone = false → t.xport.dump = some { d with aborted := true }) ∧
      t.alerts = s.alerts := by
  have hv := s.taken_changes c
  obtain ⟨u, hopen, hfresh, hrec, horder, hmaps, hmapQ, hdump, halerts⟩ := State.openWafer_reclaims ho.taken hp.taken
    (hi.taken c) ((congrArg MapStore.free hv.maps).trans hf) ((congrArg Directory.exportOrder hv.dir).trans hx)
    (fun x hx q hq => hb x hx q ((hv.record x).symm.trans hq)) ((hv.record j).trans hr) hrf
  have hfwd := State.forwardMarker_changes u c (s.cell c).cfg.mode.forwards route m (some i)
  rw [hv.xport] at hmapQ hdump
  refine ⟨_, exec_engineTake_opening htake hm hk hopen, hfresh.of_taken.kept hfwd, (hfwd.record j).trans hrec, ?_, ?_, ?_,
    fun d hd hs hg => ?_, hfwd.alerts.trans (halerts.trans hv.alerts)⟩
  · exact (congrArg Directory.exportOrder hfwd.dir).trans (horder.trans (congrArg Directory.exportOrder hv.dir))
  · exact (congrArg MapStore.free hfwd.maps).trans hmaps
  · exact (congrArg ExportEngine.mapQ hfwd.xport).trans hmapQ
  · exact (congrArg ExportEngine.dump hfwd.xport).trans (hdump d hd hs hg)

theorem State.begin_tallyOnly (ho : s.opensOn c m.key lb) (hp : s.readyFor c m.key lb m.recipe p) (hi : s.lowestFree i)
    (hf : s.maps.free = []) (hb : ∀ x ∈ s.dir.exportOrder, ∀ q, s.record x = some q → q.frame = none) :
    ∃ t, exec .engineTake s = .next t ∧ s.opensFresh t c m.key p lb i none ∧ s.slotsKeptBut t i ∧
      t.alerts = (s.raise (noFrameNotice i c m.key)).alerts := by
  have hv := s.taken_changes c
  obtain ⟨u, hopen, hfresh, hslots, halerts⟩ := State.openWafer_tallyOnly ho.taken hp.taken (hi.taken c)
    ((congrArg MapStore.free hv.maps).trans hf) (by
      rw [hv.dir]
      exact fun x hx q hq => hb x hx q ((hv.record x).symm.trans hq))
  have hfwd := State.forwardMarker_changes u c (s.cell c).cfg.mode.forwards route m (some i)
  refine ⟨_, exec_engineTake_opening htake hm hk hopen, hfresh.of_taken.kept hfwd, fun j hj => ?_, ?_⟩
  · exact (hfwd.record j).trans ((hslots j hj).trans (hv.record j))
  · exact hfwd.alerts.trans (halerts.trans (State.alerts_raise_congr hv.alerts hv.time _))

end

end

end Sys2Proof.Machine

/-! SUPPORT. A BEGIN whole (R68, R69, R81 to R87). -/

namespace Sys2Proof.Machine

set_option Elab.async false

section

variable {s : State} {i : SlotId} {r : Record} {c : CellId} {lb : BankId} {route : Byte} {m : Marker}
  {rest : List FifoEntry} (htake : s.collatesNext c (.marker route m) rest lb) (hm : m.kind = 0x01)
  (hk : s.activeWith m.key = some i) (hr : s.record i = some r)

include htake hm hk hr

/-- A BEGIN whose key is OPEN on its cell has no effect. -/
theorem State.begin_again (hcell : r.cell = c) (hst : r.state = .opened) :
    ∃ t, exec .engineTake s = .next t ∧ t.hall = s.copied c (s.markerCopy c route m (r.place i)) ∧
      t.cell c = { s.cell c with fifo := rest, flow := (t.cell c).flow } ∧ s.cellsKeptBut t c ∧
      s.changesOnly t [.cells, .engine, .hall, .sent] := by
  have hv := s.taken_changes c
  have hfwd := State.forwardMarker_changes (s.taken c) c (s.cell c).cfg.mode.forwards route m (some i)
  refine ⟨_, exec_engineTake_begin_active htake hm hk hr (by rw [if_neg (not_not.2 hcell), if_pos hst]), ?_, ?_, ?_, ?_⟩
  · exact State.hall_forwardMarker hv.hall (State.fwdMarker_placed hv.node ((hv.record i).trans hr) rfl rfl c route m)
  · rw [hfwd.cell]
    exact State.cell_taken_of_fifo htake.2.1
  · exact (s.taken_cellsKeptBut c).trans (hfwd.cellsKeptBut c)
  · exact hv.mono.trans hfwd.mono

/-- A BEGIN whose key is active on another cell raises KEY_CONFLICT. -/
theorem State.begin_conflicts (hcell : r.cell ≠ c) :
    ∃ t, exec .engineTake s = .next t ∧ t.hall = s.copied c (s.markerCopy c route m noPlace) ∧
      t.alerts = (s.raise (conflictAlert c m.key i)).alerts ∧ s.cellsKeptBut t c ∧
      s.changesOnly t [.cells, .engine, .alerts, .hall, .sent] := by
  have hv := s.taken_changes c
  have hraise := State.raise_changes (s.taken c) (conflictAlert c m.key i)
  have hfwd := State.forwardMarker_changes ((s.taken c).raise (conflictAlert c m.key i)) c
    (s.cell c).cfg.mode.forwards route m none
  refine ⟨_, exec_engineTake_begin_active htake hm hk hr (if_pos hcell), ?_, ?_, ?_, ?_⟩
  · exact State.hall_forwardMarker (hraise.hall.trans hv.hall)
      (State.fwdMarker_nowhere (hraise.node.trans hv.node) c route m)
  · exact hfwd.alerts.trans (State.alerts_raise_congr hv.alerts hv.time _)
  · exact ((s.taken_cellsKeptBut c).trans (State.raise_cellsKeptBut _ rfl)).trans (hfwd.cellsKeptBut c)
  · exact (hv.mono.trans hraise.mono).trans hfwd.mono

/-- A BEGIN whose key is CLOSING on its cell returns the record to OPEN. -/
theorem State.begin_returns (hcell : r.cell = c) (hst : r.state = .closing) (hlist : s.listLaw) :
    ∃ t, exec .engineTake s = .next t ∧ t.hall = s.copied c (s.markerCopy c route m (r.place i)) ∧
      t.record i = some r.reopened ∧ t.progressTimer i = (s.recipeOf r).progressTimer ∧
      (t.cell c).pendingLoad = (s.cell c).pendingLoad ∧
      (∀ j q, s.openOn c = some j → s.record j = some q → s.entersClosing t c j q .nextWafer s.time) ∧
      (s.openOn c = none → (t.cell c).graceTimer = none ∧ s.slotsKeptBut t i ∧ s.cellsKeptBut t c ∧
        s.changesOnly t [.cells, .engine, .dir, .xport, .hall, .sent]) := by
  subst hcell
  have hv := s.taken_changes r.cell
  have hr' := (hv.record i).trans hr
  have hne : r.state ≠ .opened := by
    rw [hst]
    decide
  obtain ⟨hrec, htimer⟩ := State.returnToOpen_returns hr' hst (hv.listLaw hlist)
  have hstart := State.startProgress_changes ((s.taken r.cell).returned i r) i
  have hret := State.returned_changes (s.taken r.cell) i r
  have htimed := State.returned_timed hr' hst
  have heq := State.returnToOpen_eq hr'
  have hback := fun j q => State.returnToOpen_enters (j := j) (q := q) hr' hst
  have hfwd := State.forwardMarker_changes ((s.taken r.cell).returnToOpen r.cell i) r.cell
    (s.cell r.cell).cfg.mode.forwards route m (some i)
  have hexec := exec_engineTake_begin_active htake hm hk hr (x := ((s.taken r.cell).returnToOpen r.cell i, some i))
    (by rw [if_neg (not_not.2 rfl), if_neg hne])
  generalize (s.taken r.cell).returnToOpen r.cell i = u at hrec htimer heq hfwd hexec hback
  refine ⟨_, hexec, ?_, (hfwd.record i).trans hrec, ?_, ?_, fun j q hj hq => ?_, fun ho => ?_⟩
  · have hhall : u.hall = s.hall := by
      rw [heq]
      exact hstart.hall.trans (hret.hall.trans hv.hall)
    have hnode : u.node = s.node := by
      rw [heq]
      exact hstart.node.trans (hret.node.trans hv.node)
    exact State.hall_forwardMarker hhall (State.fwdMarker_placed hnode hrec rfl rfl r.cell route m)
  · rw [hfwd.progressTimer, htimer, hv.recipeOf]
  · rw [hfwd.cell, heq, hstart.cell, htimed]
    exact s.pendingLoad_taken r.cell
  · have h := hback j q ((hv.openOn r.cell).trans hj) ((hv.record j).trans hq)
    rw [hv.time] at h
    exact (h.from (s.cfg_taken r.cell).symm hv.time.symm).kept (hfwd.progressTimer j) (hfwd.contents (by decide) j)
      (congrArg Cell.graceTimer (hfwd.cell r.cell))
  · have hbase : (s.taken r.cell).returned i r = (s.taken r.cell).reopening i r := by
      rw [State.returned, (hv.openOn r.cell).trans ho]
    have hopen := State.reopening_changes (s.taken r.cell) i r
    rw [heq, hbase] at hfwd ⊢
    rw [hbase] at hstart
    have hcell : ∀ d, ((s.taken r.cell).reopening i r).cell d = ((s.taken r.cell).stopGrace r.cell).cell d :=
      fun d => (State.setSlot_changes _ i _).cell d
    refine ⟨?_, fun j hj => ?_, fun d hd => ?_, ((hv.mono.trans hopen.mono).trans hstart.mono).trans hfwd.mono⟩
    · rw [hfwd.cell, hstart.cell, hcell, State.stopGrace, State.cell_modCell_same]
    · rw [hfwd.record, hstart.record, State.record_reopening, if_neg hj, hv.record]
    · rw [hfwd.cell, hstart.cell, hcell, ((State.stopGrace_closesOn _ r.cell).kept) d hd]
      exact s.taken_cellsKeptBut r.cell d hd

end

theorem State.copied_of_silent {s : State} {c : CellId} (h : (s.cell c).cfg.mode = .silent) (f : OutFrame) :
    s.copied c f = s.hall := by
  rw [State.copied_eq, h]
  rfl

theorem State.activeWith_eq_none {s : State} {k : Key} (h : ∀ j r, s.record j = some r → r.key ≠ k) :
    s.activeWith k = none :=
  State.findSlot_eq_none.2 fun j r hr => by simp [h j r hr]

/-- Settles O28: each outcome of a BEGIN, in the order the key's record, the resume and the fresh opening are tried. -/
theorem beginOpensAFreshRecord : Obligations.BeginOpensAFreshRecord := by
  refine ⟨fun s c route m rest lb p i f fs hn hfifo hmode hlive hm hrecipe huse hkeys ho hc hi hlow hf => ?_,
    fun s c route m rest lb htake hm => ⟨fun i r hk hr => ⟨fun hcell hst => ?_, fun hcell hst _ hlist => ?_,
      fun hcell => ?_⟩, fun hk _ hlist => ⟨?_, fun ho hc => ⟨fun i r hr hmay hlow => ?_, fun hno => ⟨fun hnone => ?_,
        fun p hp hun => ⟨fun hfull hx => ?_, fun i f fs hi hf => ?_, fun i is q f fs hfull hx hq hf => ?_,
          fun i before j after q f hi hf hx hb hq hqf => ?_, fun i hi hf hb => ?_⟩⟩⟩⟩⟩⟩
  · have htake : s.collatesNext c (.marker route m) rest lb := ⟨hn, hfifo, .inr hmode, hlive⟩
    have hopens : s.opensOn c m.key lb := ⟨ho, hc, hlive, fun j q hq hmay => hkeys j q hq hmay.1⟩
    have hready : s.readyFor c m.key lb m.recipe p := ⟨⟨huse, .inl hrecipe⟩, fun j q hq hk => absurd hk (hkeys j q hq)⟩
    obtain ⟨t, hexec, ⟨hrec, hload, hframe, hbank, -⟩, hmaps, hslots, halerts, hhall⟩ :=
      State.begin_opens htake hm (State.activeWith_eq_none hkeys) hopens hready ⟨hi, hlow⟩ hf
    exact ⟨t, _, hexec, hrec, rfl, rfl, rfl, rfl, rfl, rfl, rfl, rfl, rfl, rfl, rfl, rfl, rfl, hmaps, hframe f rfl, hload,
      by rw [hbank], hslots, halerts, hhall.trans (State.copied_of_silent hmode _)⟩
  · exact State.begin_again htake hm hk hr hcell hst
  · exact State.begin_returns htake hm hk hr hcell hst hlist
  · exact State.begin_conflicts htake hm hk hr hcell
  · exact State.begin_closes htake hm hk hlist
  · exact State.begin_resumes htake hm hk hlist ho hc hr hmay hlow
  · exact State.begin_noRecipe htake hm hk ⟨ho, hc, htake.2.2.2, hno⟩ hnone
  · exact State.begin_noSlot htake hm hk ⟨ho, hc, htake.2.2.2, hno⟩ ⟨hp, hun⟩ hfull hx
  · exact State.begin_opens htake hm hk ⟨ho, hc, htake.2.2.2, hno⟩ ⟨hp, hun⟩ hi hf
  · exact State.begin_reuses htake hm hk ⟨ho, hc, htake.2.2.2, hno⟩ ⟨hp, hun⟩ hlist hfull hx hq hf
  · exact State.begin_reclaims htake hm hk ⟨ho, hc, htake.2.2.2, hno⟩ ⟨hp, hun⟩ hi hf hx hb hq hqf
  · exact State.begin_tallyOnly htake hm hk ⟨ho, hc, htake.2.2.2, hno⟩ ⟨hp, hun⟩ hi hf hb

end Sys2Proof.Machine

/-! SUPPORT. What the collation of a touchdown leaves of the slots it does not work on (R57 to R65). -/

namespace Sys2Proof.Machine

set_option Elab.async false

/-- From s to t work is done on the record in slot i, which keeps its state; every other slot is spared. -/
structure State.worksOn (s t : State) (i : SlotId) : Prop where
  others : ∀ j, j ≠ i → s.spares t j
  state  : (t.record i).map Record.state = (s.record i).map Record.state

/-- From s to t every cell keeps its grace timer. -/
def State.graceKept (s t : State) : Prop := ∀ c, (t.cell c).graceTimer = (s.cell c).graceTimer

section

variable {s t u : State} {i j : SlotId} {r q : Record} {c : CellId}

theorem State.graceKept.trans (h : s.graceKept t) (k : t.graceKept u) : s.graceKept u := fun c => (k c).trans (h c)

theorem State.changesOnly.graceKept {bs : List Block} (h : s.changesOnly t bs) (hb : .cells ∉ bs := by decide) :
    s.graceKept t := fun c => congrArg Cell.graceTimer (h.cell c hb)

theorem State.modCell_graceKept (s : State) (c : CellId) {f : Cell → Cell} (hf : ∀ k, (f k).graceTimer = k.graceTimer) :
    s.graceKept (s.modCell c f) := fun d => by
  rw [State.cell_modCell]
  split
  · next h => rw [h, hf]
  · rfl

theorem State.raise_graceKept (s : State) (a : Alert) : s.graceKept (s.raise a) := fun c => by rw [State.cell_raise]

theorem State.raiseAll_graceKept (s : State) (as : List Alert) : s.graceKept (s.raiseAll as) := fun c => by
  rw [State.cell_raiseAll]

theorem State.worksOn.refl (s : State) (i : SlotId) : s.worksOn s i := ⟨fun j _ => .refl s j, rfl⟩

theorem State.worksOn.trans (h : s.worksOn t i) (k : t.worksOn u i) : s.worksOn u i :=
  ⟨fun j hj => (h.others j hj).trans (k.others j hj), k.state.trans h.state⟩

theorem State.worksOn.of_records (hrec : ∀ j, t.record j = if j = i then some q else s.record j)
    (hr : s.record i = some r) (hs : q.state = r.state) (hp : t.xport.progress = s.xport.progress)
    (hg : s.graceKept t) : s.worksOn t i := by
  refine ⟨fun j hj => ⟨State.content_congr ((hrec j).trans (if_neg hj)), ?_, hg⟩, ?_⟩
  · rw [State.progressTimer, State.progressTimer, hp]
  · rw [hrec, if_pos rfl, hr, Option.map_some, Option.map_some, hs]

theorem State.worksOn.of_aside {bs : List Block} (h : s.changesOnly t bs) (hg : s.graceKept t)
    (hd : .dir ∉ bs := by decide) (hx : .xport ∉ bs := by decide) : s.worksOn t i :=
  ⟨fun j _ => ⟨h.contents hd j, h.progressTimer j hx, hg⟩, by rw [h.record i hd]⟩

theorem State.setSlot_worksOn (hr : s.record i = some r) (hs : q.state = r.state) : s.worksOn (s.setSlot i (some q)) i :=
  .of_records (fun j => s.record_setSlot i j _) hr hs rfl fun _ => rfl

theorem State.siteRun_worksOn (s : State) (i : SlotId) (c : CellId) (k : Fin 16) (cls : BinClass) (limit : Nat) :
    s.worksOn (s.siteRun c k cls limit) i := by
  have hcounted : s.graceKept (s.runCounted c k) := s.modCell_graceKept c fun _ => rfl
  have hmarked : (s.runCounted c k).graceKept (s.marked c k) := State.modCell_graceKept _ c fun _ => rfl
  have hfault : ∀ cls, cls = .fail ∨ cls = .recheck → s.graceKept (s.siteRun c k cls limit) := fun cls h => by
    rw [State.siteRun_of_fault h]
    split
    · exact (hcounted.trans hmarked).trans (State.raise_graceKept _ _)
    · exact hcounted
  refine .of_aside (s.siteRun_changes c k cls limit) ?_
  cases cls with
  | void => exact fun _ => rfl
  | pass => exact s.modCell_graceKept c fun _ => rfl
  | fail => exact hfault _ (.inl rfl)
  | recheck => exact hfault _ (.inr rfl)

theorem State.resolveResult_graceKept (s : State) (i : SlotId) (r : Record) (x : SiteResult) :
    s.graceKept (s.resolveResult i r x).1 := by
  have h := s.resolvesTo i r x
  generalize (s.resolveResult i r x).1 = t at h ⊢
  cases h with
  | void _ => exact fun _ => rfl
  | counted _ _ => exact ((s.clearTagsOn_changes i).seq (State.setSlot_changes _ i _) (ds := [.dir, .tags])).graceKept
  | new f _ _ => exact State.dieResolved_changes.graceKept.trans (State.countChange_changes _ i f x.y).graceKept
  | replaced f b n _ _ => exact State.dieResolved_changes.graceKept.trans (State.countChange_changes _ i f x.y).graceKept
  | kept f b n _ _ => exact State.dieResolved_changes.graceKept
  | noticed f b n _ _ => exact State.dieResolved_changes.graceKept.trans (State.raise_graceKept _ _)

theorem State.resolveResult_worksOn (hr : s.record i = some r) (x : SiteResult) :
    s.worksOn (s.resolveResult i r x).1 i := by
  obtain ⟨q, hq, hrec⟩ := s.record_resolveResult i r x
  obtain ⟨g, hx⟩ := s.xport_resolveResult i r x
  exact .of_records hrec hr (by rw [hq]) (by rw [hx]) (s.resolveResult_graceKept i r x)

theorem Record.state_countStopped (r : Record) (v : Verdict) : (r.countStopped v).state = r.state := by
  unfold Record.countStopped
  split <;> rfl

theorem Progress.entry_worksOn (c : CellId) (i : SlotId) (x : Progress) (e : SiteEntry) :
    x.state.worksOn (x.entry c i e).state i := by
  unfold Progress.entry
  split
  · exact .refl _ i
  · next r hr =>
    dsimp only
    split
    · exact State.setSlot_worksOn hr (r.state_countStopped _)
    · exact (State.resolveResult_worksOn hr _).trans (State.siteRun_worksOn _ i c _ _ _)

theorem State.collate_worksOn (hr : s.record i = some r) (c : CellId) (td : Touchdown) (gap : Half) :
    s.worksOn (s.collate c i td gap).state i := by
  have hgap : s.worksOn (s.addGap i gap) i := by
    rw [State.addGap_of_record hr]
    exact State.setSlot_worksOn hr rfl
  have hfold : ∀ (es : List SiteEntry) (x : Progress), x.state.worksOn (es.foldl (Progress.entry c i) x).state i :=
    fun es => by
      induction es with
      | nil => exact fun x => .refl _ i
      | cons e es ih => exact fun x => (x.entry_worksOn c i e).trans (ih _)
  exact hgap.trans (hfold td.entries { state := s.addGap i gap, dies := [], notes := [] })

theorem State.checkpointTest_worksOn (s : State) (i : SlotId) : s.worksOn (s.checkpointTest i) i := by
  cases hr : s.record i with
  | none =>
    rw [State.checkpointTest_of_none hr]
    exact .refl s i
  | some r =>
    rw [State.checkpointTest_of_record hr]
    exact (State.setSlot_worksOn hr (congrArg Standing.state (r.standing_checked _))).trans
      (.of_aside (State.raiseAll_changes _ _) (State.raiseAll_graceKept _ _))

theorem State.sealSlot_spares (hr : s.record i = some r) (ho : r.state = .opened) (hj : j ≠ i) (w : Option CloseReason) :
    s.spares (s.sealSlot i w) j := by
  have ha := Record.isActive_iff.2 (.inl ho)
  refine ⟨s.content_sealSlot_other hj w, (State.progressTimer_sealSlot hr ha w j).trans (if_neg hj), fun d => ?_⟩
  rw [State.cell_sealSlot hr ha]
  exact if_neg fun h => nomatch h.1.symm.trans ho

theorem State.sealAtCap_spares (ho : (s.record i).map Record.state = some .opened) (hj : j ≠ i) :
    s.spares (s.sealAtCap i) j := by
  obtain ⟨r, hr, hst⟩ := Option.map_eq_some_iff.1 ho
  rw [State.sealAtCap, hr]
  dsimp only
  split
  · exact State.sealSlot_spares hr hst hj _
  · exact .refl s j

/-- A touchdown bound to an OPEN record spares every other slot. -/
theorem State.boundTouchdown_spares (hr : s.record i = some r) (ho : r.state = .opened) (hj : j ≠ i) (c : CellId)
    (x : Bool) (route : Byte) (td : Touchdown) (gap : Half) : s.spares (s.boundTouchdown c i x route td gap) j := by
  have hwork := (State.collate_worksOn hr c td gap).trans (State.checkpointTest_worksOn _ i)
  have hopen : ((((s.collate c i td gap).state.checkpointTest i).record i).map Record.state) = some .opened := by
    rw [hwork.state, hr, Option.map_some, ho]
  have hseal := (hwork.others j hj).trans (State.sealAtCap_spares hopen hj)
  unfold State.boundTouchdown
  dsimp only
  split
  · exact hseal.trans ⟨rfl, rfl, fun _ => rfl⟩
  · exact hseal

end

end Sys2Proof.Machine

/-! SUPPORT. A collated touchdown whose key no active record of its cell has (R57, R58, R67, R81, R84 to R88). -/

namespace Sys2Proof.Machine

set_option Elab.async false

section

variable {s u : State} {i j : SlotId} {r : Record} {c : CellId} {k : Key} {lb : BankId} {route : Byte} {td : Touchdown}
  {gap : Half} {rest : List FifoEntry} {p : Fin 8}

/-! ## The copy of a touchdown that binds to no record -/

theorem State.hall_unboundTouchdown (hhall : u.hall = s.hall) (hnode : u.node = s.node) (v : Verdict) :
    (u.unboundTouchdown c (s.cell c).cfg.mode.forwards route td v).hall =
      s.copied c (s.touchdownCopy c route td noPlace (td.entries.flatMap fun _ => [0xFF, 0xFF, v.code, 0])) := by
  rw [State.copied_eq, State.unboundTouchdown, State.fwdTouchdown_plain, State.touchdownCopy, State.touchdownCopy, hnode]
  split
  · rw [State.forward, State.withHall_hall, hhall]
  · exact hhall

/-- What is left of a touchdown that binds to no record: the copy with one verdict for every site. -/
theorem State.unbound_leaves {bs : List Block} (hc : s.changesOnly u bs) (v : Verdict) (hh : .hall ∉ bs := by decide)
    (hn : .node ∉ bs := by decide) :
    (u.unboundTouchdown c (s.cell c).cfg.mode.forwards route td v).hall =
      s.copied c (s.touchdownCopy c route td noPlace (td.entries.flatMap fun _ => [0xFF, 0xFF, v.code, 0])) ∧
    u.changesOnly (u.unboundTouchdown c (s.cell c).cfg.mode.forwards route td v) [.hall] :=
  ⟨State.hall_unboundTouchdown (hc.hall hh) (hc.node hn) v, u.unboundTouchdown_changes c _ route td v⟩

/-! ## LATE and CONFLICT (R88) -/

theorem State.lastSealedWith_eq {before after : List SlotId} (hlist : s.listLaw)
    (ho : s.dir.sealOrder = before ++ j :: after) (hr : s.record j = some r) (hk : r.key = k)
    (hafter : ∀ x ∈ after, ∀ q, s.record x = some q → q.key ≠ k) : s.lastSealedWith k = some j := by
  obtain ⟨⟨-, -, -, hmem, -⟩, -⟩ := hlist
  obtain ⟨q, hq, hst⟩ := State.isIn_iff.1 ((hmem j).1 (by rw [ho]; exact List.mem_append_right _ List.mem_cons_self))
  have hsealed : r.isSealed = true := by
    rw [← Option.some.inj (hr.symm.trans hq)] at hst
    simpa [Record.isSealed] using hst
  have hnone : after.reverse.find? (fun i => match s.record i with
      | none => false
      | some r => r.key == k && r.isSealed) = none := by
    refine List.find?_eq_none.2 fun x hx => ?_
    cases hq : s.record x with
    | none => simp
    | some q => simp [hafter x (List.mem_reverse.1 hx) q hq]
  rw [State.lastSealedWith, ho, List.reverse_append, List.reverse_cons, List.append_assoc, List.find?_append]
  refine (congrArg (fun o => Option.or o _) hnone).trans ?_
  simp [hr, hk, hsealed]

theorem recipeOfByte_unnamed : recipeOfByte 0xFF = none := rfl

/-! ## An implicit opening and the record it is collated into (R82, R84 to R88) -/

/-- The record that an opening names is OPEN. -/
theorem State.openFresh_opened {w : Option (Fin 8)} (h : (s.openFresh c k w lb).2.slot = some i) :
    ∃ r, (s.openFresh c k w lb).1.record i = some r ∧ r.state = .opened := by
  unfold State.openFresh at h ⊢
  generalize s.freeExportedWith k = s1 at h ⊢
  dsimp only at h ⊢
  split
  · next hw =>
    rw [hw] at h
    exact nomatch h
  · next p hw =>
    rw [hw] at h
    dsimp only at h
    generalize s1.takeSlot = ts at h ⊢
    obtain ⟨s2, o⟩ := ts
    cases o with
    | none => exact nomatch h
    | some i' =>
      obtain rfl := Option.some.inj h
      exact ⟨_, (State.record_openIn _ i' _ c k p lb i').trans (if_pos rfl), rfl⟩

theorem State.openWafer_opened {w : Option (Fin 8)} (h : (s.openWafer c k w lb).2.slot = some i) :
    ∃ r, (s.openWafer c k w lb).1.record i = some r ∧ r.state = .opened := by
  rw [State.openWafer_eq] at h ⊢
  split
  · next x hx =>
    rw [hx] at h
    obtain rfl := Option.some.inj h
    obtain ⟨r, hr, -⟩ := State.findSlot_some hx
    exact ⟨_, State.record_resumeSlot_same hr c, rfl⟩
  · next hx =>
    rw [hx] at h
    exact State.openFresh_opened h

theorem State.forcesClosing.ne {q : Record} (h : s.forcesClosing u c) (hj : s.closingOn c = some j)
    (hr : u.record i = some q) (ho : q.state = .opened) : j ≠ i := by
  rintro rfl
  obtain ⟨p, hp, -⟩ := State.findSlot_some hj
  obtain ⟨p', hp', hst, -⟩ := h j p hj hp
  rw [Option.some.inj (hr.symm.trans hp'), hst] at ho
  exact nomatch ho

theorem State.entersClosing.ne {q : Record} {w : CloseReason} {stamp : Word} (h : s.entersClosing u c j r w stamp)
    (hr : u.record i = some q) (ho : q.state = .opened) : j ≠ i := by
  rintro rfl
  obtain ⟨-, p, hp, -, -, -, -, -, -, hend⟩ := h
  rw [Option.some.inj (hr.symm.trans hp)] at ho
  split at hend <;> exact nomatch hend.1.symm.trans ho

section

variable (htake : s.collatesNext c (.touchdown route td gap) rest lb)

include htake

theorem exec_engineTake_unbound {x : Resolution} (hx : (s.taken c).resolveKey c td.key lb = (u, x)) (hslot : x.slot = none) :
    exec .engineTake s = .next (u.unboundTouchdown c (s.cell c).cfg.mode.forwards route td x.verdict) := by
  rw [exec_engineTake_touchdown htake, State.classifyTouchdown, hx]
  simp only [hslot]

/-- A touchdown whose key stands on sealed records alone is late. -/
theorem State.touchdown_late (hk : s.activeWith td.key = none) (hr : s.record j = some r) (hkey : r.key = td.key) :
    ∃ t, exec .engineTake s = .next t ∧
      (t.cell c).counts = { (s.cell c).counts with
        late := BitVec.ofNat 16 (min ((s.cell c).counts.late.toNat + 1) 65535) } ∧
      t.alerts = (s.raise { kind := .lateResult, cell := some c, slot := s.lastSealedWith td.key,
                            key := some td.key }).alerts ∧
      t.hall = s.copied c (s.touchdownCopy c route td noPlace (td.entries.flatMap fun _ => [0xFF, 0xFF, 9, 0])) ∧
      s.cellsKeptBut t c ∧ s.changesOnly t [.cells, .engine, .alerts, .hall, .sent] := by
  have hv := s.taken_changes c
  have hfind : ∃ x, (s.taken c).findSlot (fun r => r.key == td.key) = some x := by
    refine Option.ne_none_iff_exists'.1 fun hnone => ?_
    have h := State.findSlot_eq_none.1 hnone j r ((hv.record j).trans hr)
    simp [hkey] at h
  obtain ⟨x, hx⟩ := hfind
  have hlast : (s.taken c).lastSealedWith td.key = s.lastSealedWith td.key := by
    simp only [State.lastSealedWith, hv.dir, hv.record]
  have hresolve : (s.taken c).resolveKey c td.key lb = (((s.taken c).countLate c).raise
      { kind := .lateResult, cell := some c, slot := s.lastSealedWith td.key, key := some td.key }, .late) := by
    rw [State.resolveKey, (hv.activeWith td.key).trans hk, ← hlast]
    simp only [hx]
  have hcount := State.modCell_changes (s.taken c) c fun k =>
    { k with counts := { k.counts with late := satAdd k.counts.late 1 } }
  have hraise := State.raise_changes ((s.taken c).countLate c)
    { kind := .lateResult, cell := some c, slot := s.lastSealedWith td.key, key := some td.key }
  have hall := (hv.mono (cs := [.cells, .engine, .alerts, .sent])).trans
    ((hcount.mono (cs := [.cells, .engine, .alerts, .sent])).trans hraise.mono)
  obtain ⟨hhall, hcopy⟩ := State.unbound_leaves (c := c) (route := route) (td := td) hall
    Resolution.late.verdict
  refine ⟨_, exec_engineTake_unbound htake hresolve rfl, ?_, ?_, hhall, ?_, hall.mono.trans hcopy.mono⟩
  · rw [hcopy.cell, State.cell_raise, State.countLate, State.cell_modCell_same, State.cell_taken]
    rfl
  · exact hcopy.alerts.trans
      (State.alerts_raise_congr (hcount.alerts.trans hv.alerts) (hcount.time.trans hv.time) _)
  · exact (((s.taken_cellsKeptBut c).trans (State.modCell_cellsKeptBut _ c _)).trans
      (State.raise_cellsKeptBut _ rfl)).trans (hcopy.cellsKeptBut c)

/-- A touchdown whose key is active on another cell raises KEY_CONFLICT. -/
theorem State.touchdown_conflicts (hk : s.activeWith td.key = some i) (hr : s.record i = some r) (hcell : r.cell ≠ c) :
    ∃ t, exec .engineTake s = .next t ∧ (t.cell c).counts = (s.cell c).counts ∧
      t.alerts = (s.raise (conflictAlert c td.key i)).alerts ∧
      t.hall = s.copied c (s.touchdownCopy c route td noPlace (td.entries.flatMap fun _ => [0xFF, 0xFF, 10, 0])) ∧
      s.cellsKeptBut t c ∧ s.changesOnly t [.cells, .engine, .alerts, .hall, .sent] := by
  have hv := s.taken_changes c
  have hresolve : (s.taken c).resolveKey c td.key lb = ((s.taken c).raise (conflictAlert c td.key i), .conflict) := by
    rw [State.resolveKey, (hv.activeWith td.key).trans hk]
    simp only [(hv.record i).trans hr, hcell, if_false]
  have hraise := State.raise_changes (s.taken c) (conflictAlert c td.key i)
  have hall := (hv.mono (cs := [.cells, .engine, .alerts, .sent])).trans hraise.mono
  obtain ⟨hhall, hcopy⟩ := State.unbound_leaves (c := c) (route := route) (td := td) hall
    Resolution.conflict.verdict
  refine ⟨_, exec_engineTake_unbound htake hresolve rfl, ?_, ?_, hhall, ?_, hall.mono.trans hcopy.mono⟩
  · rw [hcopy.cell, State.cell_raise, State.cell_taken]
  · exact hcopy.alerts.trans (State.alerts_raise_congr hv.alerts hv.time _)
  · exact ((s.taken_cellsKeptBut c).trans (State.raise_cellsKeptBut _ rfl)).trans (hcopy.cellsKeptBut c)

/-! ## Implicit openings (R84 to R88) -/

section

variable (hkeys : ∀ j q, s.record j = some q → q.key ≠ td.key)

include hkeys

omit htake in
theorem State.resolveKey_opens : (s.taken c).resolveKey c td.key lb =
    (s.taken c).openWafer c td.key (recipeOfByte 0xFF) lb := by
  have hkeys' : ∀ j q, (s.taken c).record j = some q → q.key ≠ td.key := fun j q hq =>
    hkeys j q (((s.taken_changes c).record j).symm.trans hq)
  have hfind : (s.taken c).findSlot (fun r => r.key == td.key) = none :=
    State.findSlot_eq_none.2 fun j q hq => beq_false_of_ne (hkeys' j q hq)
  rw [State.resolveKey, State.activeWith_eq_none hkeys', recipeOfByte_unnamed]
  simp only [hfind]

theorem State.opensOn_of_unheld (ho : s.openOn c = none) (hc : s.closingOn c = none) : s.opensOn c td.key lb :=
  ⟨ho, hc, htake.2.2.2, fun j q hq hm => hkeys j q hq hm.1⟩

omit htake in
theorem State.readyFor_of_unheld (hp : s.choosesRecipe c lb 0xFF p) : s.readyFor c td.key lb 0xFF p :=
  ⟨hp, fun j q hq hk => absurd hk (hkeys j q hq)⟩

/-- Whatever becomes of the touchdown in its new record, the records the opening sealed or closed stay so. -/
theorem State.touchdown_closes (hlist : s.listLaw) : ∃ t, exec .engineTake s = .next t ∧ s.forcesClosing t c ∧
    ∀ j q, s.openOn c = some j → s.record j = some q → s.entersClosing t c j q .nextWafer s.time := by
  have hv := s.taken_changes c
  have hnone : s.activeWith td.key = none := State.activeWith_eq_none hkeys
  obtain ⟨hforce, henter⟩ := State.openWafer_closes (hv.listLaw hlist) ((hv.activeWith td.key).trans hnone) c
    (recipeOfByte 0xFF) lb
  have hopened := fun i => State.openWafer_opened (s := s.taken c) (c := c) (k := td.key) (w := recipeOfByte 0xFF)
    (lb := lb) (i := i)
  refine ⟨_, exec_engineTake_touchdown htake, ?_⟩
  rw [State.classifyTouchdown, State.resolveKey_opens hkeys]
  generalize (s.taken c).openWafer c td.key (recipeOfByte 0xFF) lb = out at hforce henter hopened ⊢
  have hstart : ∀ {j q}, s.openOn c = some j → s.record j = some q →
      s.entersClosing out.1 c j q .nextWafer s.time := fun hj hq => by
    have h := henter _ _ ((hv.openOn c).trans hj) ((hv.record _).trans hq)
    rw [hv.time] at h
    exact h.from (s.cfg_taken c).symm hv.time.symm
  have hforce := hforce.from hv
  split
  · next i hi =>
    obtain ⟨r, hr, ho⟩ := hopened i hi
    exact ⟨hforce.kept fun j hj => (State.boundTouchdown_spares hr ho (hforce.ne hj hr ho) c _ route td gap).content,
      fun j q hj hq => (State.boundTouchdown_spares hr ho ((hstart hj hq).ne hr ho) c _ route td gap).enters (hstart hj hq)⟩
  · have hcopy := out.1.unboundTouchdown_changes c (s.cell c).cfg.mode.forwards route td out.2.verdict
    exact ⟨hforce.kept fun j _ => hcopy.contents (by decide) j, fun j q hj hq => (hstart hj hq).kept
      (hcopy.progressTimer j) (hcopy.contents (by decide) j) (congrArg Cell.graceTimer (hcopy.cell c))⟩

theorem State.touchdown_noRecipe (ho : s.openOn c = none) (hc : s.closingOn c = none) (hn : s.noRecipeFor c lb 0xFF) :
    ∃ t, exec .engineTake s = .next t ∧ t.alerts = (s.raise (openFailed .noRecipe c td.key)).alerts ∧
      t.hall = s.copied c (s.touchdownCopy c route td noPlace (td.entries.flatMap fun _ => [0xFF, 0xFF, 12, 0])) ∧
      s.changesOnly t [.cells, .engine, .alerts, .hall, .sent] := by
  have hv := s.taken_changes c
  have hopen := (State.opensOn_of_unheld htake hkeys ho hc).taken.openWafer_eq (recipeOfByte 0xFF)
  rw [State.openFresh_noRecipe (hn.congr (hv.bank lb) (s.cfg_taken c)), State.freeExportedWith_of_none fun j q hq hk =>
    absurd hk (hkeys j q ((hv.record j).symm.trans hq))] at hopen
  have hraise := State.raise_changes (s.taken c) (openFailed .noRecipe c td.key)
  have hall := (hv.mono (cs := [.cells, .engine, .alerts, .sent])).trans hraise.mono
  obtain ⟨hhall, hcopy⟩ := State.unbound_leaves (c := c) (route := route) (td := td) hall
    Resolution.noRecipe.verdict
  exact ⟨_, exec_engineTake_unbound htake ((State.resolveKey_opens hkeys).trans hopen) rfl,
    hcopy.alerts.trans (State.alerts_raise_congr hv.alerts hv.time _), hhall, hall.mono.trans hcopy.mono⟩

theorem State.touchdown_noSlot (ho : s.openOn c = none) (hc : s.closingOn c = none) (hp : s.choosesRecipe c lb 0xFF p)
    (hfull : ∀ j, s.record j ≠ none) (hx : s.dir.exportOrder = []) :
    ∃ t, exec .engineTake s = .next t ∧ t.alerts = (s.raise (openFailed .noSlot c td.key)).alerts ∧
      t.hall = s.copied c (s.touchdownCopy c route td noPlace (td.entries.flatMap fun _ => [0xFF, 0xFF, 11, 0])) ∧
      s.changesOnly t [.cells, .engine, .alerts, .hall, .sent] := by
  have hv := s.taken_changes c
  have hready := (State.readyFor_of_unheld hkeys hp).taken
  have hopen := ((State.opensOn_of_unheld htake hkeys ho hc).taken.openWafer_eq (recipeOfByte 0xFF)).trans
    (State.openFresh_noSlot hready.recipe hready.unheld (fun j => by rw [hv.record]; exact hfull j)
      ((congrArg Directory.exportOrder hv.dir).trans hx))
  have hraise := State.raise_changes (s.taken c) (openFailed .noSlot c td.key)
  have hall := (hv.mono (cs := [.cells, .engine, .alerts, .sent])).trans hraise.mono
  obtain ⟨hhall, hcopy⟩ := State.unbound_leaves (c := c) (route := route) (td := td) hall
    Resolution.noSlot.verdict
  exact ⟨_, exec_engineTake_unbound htake ((State.resolveKey_opens hkeys).trans hopen) rfl,
    hcopy.alerts.trans (State.alerts_raise_congr hv.alerts hv.time _), hhall, hall.mono.trans hcopy.mono⟩

theorem State.touchdown_opens {f : FrameId} {fs : List FrameId} (ho : s.openOn c = none) (hc : s.closingOn c = none)
    (hp : s.choosesRecipe c lb 0xFF p) (hi : s.lowestFree i) (hf : s.maps.free = f :: fs)
    (hrange : (s.bank lb).recipes[p.val].inRange = true) :
    ∃ t u r, exec .engineTake s = .next t ∧ s.opensFresh u c td.key p lb i (some f) ∧ u.record i = some r ∧
      u.maps.free = fs ∧ s.slotsKeptBut u i ∧ s.changesOnly u [.cells, .engine, .banks, .dir, .maps, .xport, .sent] ∧
      u.collated t c i r route td gap := by
  have hv := s.taken_changes c
  obtain ⟨u, hopen, hfresh, hmaps, hslots, hchanges, hcfg⟩ := State.openWafer_opens
    (State.opensOn_of_unheld htake hkeys ho hc).taken (State.readyFor_of_unheld hkeys hp).taken (hi.taken c)
    ((congrArg MapStore.free hv.maps).trans hf)
  have hfresh := hfresh.of_taken
  have hmode : (s.cell c).cfg.mode = (u.cell c).cfg.mode := by rw [hcfg, s.cfg_taken c]
  have hbank : (u.bank lb).recipes = (s.bank lb).recipes := by rw [hfresh.2.2.2.1]
  refine ⟨_, u, _, exec_engineTake_touchdown htake, hfresh, hfresh.1, hmaps,
    fun j hj => (hslots j hj).trans (hv.record j), hv.mono.trans hchanges.mono, ?_⟩
  rw [State.classifyTouchdown, (State.resolveKey_opens hkeys).trans hopen, hmode]
  refine State.boundTouchdown_collated hfresh.1 ?_ route td gap
  change (u.bank lb).recipes[p.val].inRange = true
  rw [hbank]
  exact hrange

end

end

end

/-- Settles O29: LATE and CONFLICT move no record; an implicit opening is one of a BEGIN that names no recipe. -/
theorem lateTouchdownTouchesNoRecord : Obligations.LateTouchdownTouchesNoRecord := by
  refine ⟨fun s c route td gap rest lb j r hn hfifo hmode hlive hk hr hkey => ?_, fun s c route td gap rest lb htake =>
    ⟨fun before j after r hk hlist ho hr hkey hafter => ?_, fun i r hk hr hcell => ?_, fun hkeys _ hlist =>
      ⟨State.touchdown_closes htake hkeys hlist, fun ho hc => ⟨fun hn => ?_, fun p hp =>
        ⟨fun hfull hx => ?_, fun i f fs hi hf hrange => ?_⟩⟩⟩⟩⟩
  · obtain ⟨t, hexec, hcounts, halerts, hhall, hcells, hchanges⟩ :=
      State.touchdown_late ⟨hn, hfifo, .inr hmode, hlive⟩ hk hr hkey
    have hsame : t.hall = s.hall := hhall.trans (State.copied_of_silent hmode _)
    refine ⟨t, hexec, hcounts, halerts, hcells, fun b hb => ?_⟩
    by_cases hh : b = .hall
    · subst hh
      exact hsame
    · refine hchanges b fun hm => hb ?_
      simpa [hh] using hm
  · rw [← State.lastSealedWith_eq hlist ho hr hkey hafter]
    exact State.touchdown_late htake hk hr hkey
  · exact State.touchdown_conflicts htake hk hr hcell
  · exact State.touchdown_noRecipe htake hkeys ho hc hn
  · exact State.touchdown_noSlot htake hkeys ho hc hp hfull hx
  · exact State.touchdown_opens htake hkeys ho hc hp hi hf hrange

end Sys2Proof.Machine

/-! SUPPORT. Completions of frames: the exporting step, the chained map and the dump (R92, R154, R166, R168, R169, R171,
R173). -/

namespace Sys2Proof.Machine

set_option Elab.async false

section

variable {s t u : State} {i : SlotId} {r : Record} {f : OutFrame} {st : Stream} {d : Dump}

/-! ## The link idle again (R154) -/

/-- The state with the frame in transmission sent and the transmitter idle. -/
def State.finished (s : State) (f : OutFrame) : State := (s.withHall { s.hall with tx := none }).emit (.frame f.wire)

theorem State.finished_changes (s : State) (f : OutFrame) : s.changesOnly (s.finished f) [.hall, .sent] :=
  (s.withHall_changes _).seq (State.emit_changes _ _)

theorem exec_transmitCompletion {a : TxAction} (h : s.hall.tx = some { stream := st, frame := f, action := a }) :
    exec .transmitCompletion s = .next ((s.finished f).complete a) := by
  change execTransmitCompletion s = _
  simp only [execTransmitCompletion, h]
  rfl

/-! ## The exporting step (R92) -/

/-- A record that is no CLOSED one is left alone. -/
theorem State.exportStep_of_unclosed (hr : s.record i = some r) (h : r.state ≠ .closed) : s.exportStep i = s := by
  simp only [State.exportStep, hr, h, if_false]

theorem State.exportStep_of_closed (hr : s.record i = some r) (h : r.state = .closed) :
    (s.exportStep i).record i = some { r with state := .exported } ∧
      (s.exportStep i).dir.exportOrder = s.dir.exportOrder ++ [i] ∧ s.slotsKeptBut (s.exportStep i) i := by
  have hstep : s.exportStep i = (s.setSlot i (some { r with state := .exported })).withDir
      { (s.setSlot i (some { r with state := .exported })).dir with
        exportOrder := (s.setSlot i (some { r with state := .exported })).dir.exportOrder ++ [i] } := by
    simp only [State.exportStep, hr, h, if_true]
  have horder := (s.setSlot_orders i (some { r with state := .exported })).1
  rw [hstep]
  refine ⟨s.record_setSlot_same i _, ?_, fun j hj => s.record_setSlot_other _ hj⟩
  rw [State.withDir_dir, horder]

/-! ## The chained map (R168, R169) -/

theorem State.chainMap_chainsMap {g : FrameId} (hr : s.record i = some r) (hf : r.frame = some g) :
    s.chainsMap (s.chainMap i) i r g := by
  have hx := s.withXport_changes { s.xport with mapQ := s.xport.mapQ ++ [(i, .chain)] }
  refine ⟨fun hp => ?_, fun hno hd => ?_, fun hq hd => ?_⟩
  · rw [State.chainMap, if_pos (State.pending_any.2 hp), State.withXport_xport]
  · have hno' : ¬ (s.xport.mapQ.any fun e => e.1 == i) = true := fun h => by
      obtain ⟨e, he, hi⟩ := State.pending_any.1 h
      exact hno e he hi
    obtain ⟨d, hd⟩ := Option.ne_none_iff_exists'.1 hd
    rw [State.chainMap, if_neg hno']
    exact congrArg State.xport (State.startDump_of_running
      (s := s.withXport { s.xport with mapQ := s.xport.mapQ ++ [(i, .chain)] }) hd)
  · have hno : ¬ (s.xport.mapQ.any fun e => e.1 == i) = true := by simp [hq]
    have hstart := State.startDump_of_pending (s := s.withXport { s.xport with mapQ := s.xport.mapQ ++ [(i, .chain)] })
      (e := (i, .chain)) (rest := []) hd (by simp [hq])
    rw [State.chainMap, if_neg hno, hstart, State.dumpFor_of_record ((hx.record i).trans hr) hf, hx.recipeOf]
    simp [hq, State.withXport, newDump]

theorem State.chainsMap.from {g : FrameId} {bs : List Block} (h : u.chainsMap t i r g) (hu : s.changesOnly u bs)
    (hx : .xport ∉ bs := by decide) (hb : .banks ∉ bs := by decide) : s.chainsMap t i r g := by
  unfold State.chainsMap
  rw [← hu.xport hx, ← hu.recipeOf r hb]
  exact h

/-! ## Completed summaries and map ends (R166, R173) -/

theorem State.finalDone_exports (hr : s.record i = some r) (hs : r.isSealed = true)
    (hno : (s.recipeOf r).exporting = .summary ∨ r.frame = none) : s.finalDone i = s.exportStep i := by
  have hmap : ¬ ((s.recipeOf r).exporting = .summaryMap ∧ r.frame.isSome = true) := fun ⟨hm, hf⟩ => by
    rcases hno with h | h
    · exact nomatch h.symm.trans hm
    · rw [h] at hf
      exact nomatch hf
  simp only [State.finalDone, hr, hs, Bool.true_eq_false, if_false, hmap]

theorem State.finalDone_chains {g : FrameId} (hr : s.record i = some r) (hs : r.isSealed = true)
    (hm : (s.recipeOf r).exporting = .summaryMap) (hf : r.frame = some g) : s.finalDone i = s.chainMap i := by
  simp only [State.finalDone, hr, hs, Bool.true_eq_false, if_false, hm, hf, Option.isSome_some, and_self, if_true]

theorem State.endDone_of_unclosed (hr : s.record i = some r) (h : r.state ≠ .closed) (x : Bool) : s.endDone i x = s := by
  simp only [State.endDone, hr, h, ne_eq, not_false_eq_true, if_true]

theorem State.endDone_exports (hr : s.record i = some r) (h : r.state = .closed) :
    s.endDone i false = s.exportStep i := by
  simp only [State.endDone, hr, h, ne_eq, not_true_eq_false, if_false, if_true]

theorem State.endDone_chains {g : FrameId} (hr : s.record i = some r) (h : r.state = .closed) (hf : r.frame = some g) :
    s.endDone i true = s.chainMap i := by
  simp only [State.endDone, hr, h, hf, ne_eq, not_true_eq_false, if_false, Bool.true_eq_false, Option.isSome_some, if_true]

/-! ## DUMP_UNSTABLE (R171) -/

theorem State.raise_changes_of_no_cell {a : Alert} (h : a.cell = none) : s.changesOnly (s.raise a) [.alerts] := by
  unfold State.raise
  split
  · exact .refl s _
  · rw [State.stopTest, h]
    exact s.withAlerts_changes _

theorem State.raiseUnstable_alerts_only (s : State) (d : Dump) : s.changesOnly (s.raiseUnstable d) [.alerts] := by
  unfold State.raiseUnstable
  split
  · exact .refl s _
  · exact State.raise_changes_of_no_cell rfl

theorem State.alerts_raiseUnstable (s : State) (d : Dump) : (s.raiseUnstable d).alerts =
    if d.unstable = false then
      (s.raise { kind := .dumpUnstable, slot := some d.slot, key := (s.record d.slot).map fun x => x.key }).alerts
    else s.alerts := by
  unfold State.raiseUnstable
  cases d.unstable <;> rfl

/-! ## A completed MAP_ROW (R171) -/

theorem State.rowDone_effects (hd : s.xport.dump = some d) :
    s.rowDone.xport = { s.xport with dump := some (
      if d.dirty = false ∨ d.aborted = true then d
      else if d.restarts < 3 then { d with restarts := d.restarts + 1, nextRow := 0, dirty := false }
      else { d with unstable := true, dirty := false }) } ∧
    s.rowDone.alerts = (if d.dirty = true ∧ d.aborted = false ∧ 3 ≤ d.restarts ∧ d.unstable = false then
        (s.raise { kind := .dumpUnstable, slot := some d.slot, key := (s.record d.slot).map fun x => x.key }).alerts
      else s.alerts) ∧ s.changesOnly s.rowDone [.alerts, .xport] := by
  have hcap : Config.maxRestarts = 3 := rfl
  simp only [State.rowDone, hd, hcap]
  by_cases hidle : d.dirty = false ∨ d.aborted = true
  · have hnot : ¬ (d.dirty = true ∧ d.aborted = false ∧ 3 ≤ d.restarts ∧ d.unstable = false) := by
      rintro ⟨hdirty, haborted, -⟩
      simp [hdirty, haborted] at hidle
    simp only [hidle, if_true, hnot, if_false]
    exact ⟨by rw [← hd], trivial, .refl s _⟩
  · obtain ⟨hdirty, haborted⟩ : d.dirty = true ∧ d.aborted = false := by simpa using hidle
    simp only [hidle, if_false]
    by_cases hleft : d.restarts < 3
    · have hnot : ¬ (d.dirty = true ∧ d.aborted = false ∧ 3 ≤ d.restarts ∧ d.unstable = false) :=
        fun h => absurd h.2.2.1 (by omega)
      simp only [hleft, if_true, hnot, if_false]
      exact ⟨rfl, rfl, (s.withXport_changes _).mono⟩
    · have hraise := s.raiseUnstable_alerts_only d
      have hset := State.withXport_changes (s.raiseUnstable d) { (s.raiseUnstable d).xport with dump := some d.markUnstable }
      simp only [hleft, if_false]
      refine ⟨?_, ?_, hraise.seq hset⟩
      · rw [State.setDump, State.withXport_xport, hraise.xport]
        rfl
      · rw [State.setDump, hset.alerts, State.alerts_raiseUnstable]
        simp only [hdirty, haborted, not_lt.1 hleft, true_and]

end

/-- Settles O42: the completion's action, after the link is idle again. -/
theorem finalCompletionExports : Obligations.FinalCompletionExports := by
  refine ⟨fun s f i r htx hr hst hno => ?_, fun s st f i r hr => ?_⟩ <;> have hv := s.finished_changes f <;>
    have hr' := (hv.record i).trans hr <;> have hrc := hv.recipeOf r
  · have hstep := State.exportStep_changes (s.finished f) i
    obtain ⟨hrec, horder, hslots⟩ := State.exportStep_of_closed hr' hst
    refine ⟨_, exec_transmitCompletion htx, ?_⟩
    rw [State.complete, State.finalDone_exports hr' (by rw [Record.isSealed, hst]; rfl) (by rw [hrc]; exact hno)]
    exact ⟨hrec, horder.trans (by rw [hv.dir]), hstep.hall, hstep.sent, fun j hj => (hslots j hj).trans (hv.record j),
      hv.mono.trans hstep.mono⟩
  · refine ⟨fun htx => ⟨fun g hst hx hf => ?_, fun hst hno => ?_⟩, fun d htx hd => ?_, fun aborted htx => ?_⟩
    · have hchain := State.chainMap_changes (s.finished f) i
      refine ⟨_, exec_transmitCompletion htx, ?_⟩
      rw [State.complete, State.finalDone_chains hr' (by simpa [Record.isSealed] using hst) (hrc ▸ hx) hf]
      exact ⟨(State.chainMap_chainsMap hr' hf).from hv, hchain.hall, hchain.sent, hv.mono.trans hchain.mono⟩
    · rw [exec_transmitCompletion htx, State.complete,
        State.finalDone_exports hr' (by rw [Record.isSealed, hst]; rfl) (by rw [hrc]; exact hno),
        State.exportStep_of_unclosed hr' (by rw [hst]; decide)]
      rfl
    · obtain ⟨hxport, halerts, hrow⟩ := State.rowDone_effects (s := s.finished f) hd
      refine ⟨_, exec_transmitCompletion htx, hrow.hall, hrow.sent, hxport, ?_, hv.mono.trans hrow.mono⟩
      rw [State.complete, halerts, State.alerts_raise_congr hv.alerts hv.time, hv.alerts, hv.record]
    · have hend := State.complete_changes (s.finished f) (.mapEnd i aborted)
      refine ⟨_, exec_transmitCompletion htx, hend.hall, hend.sent, fun hst => ?_, fun hst ha => ?_, fun g hst ha hf => ?_⟩
      · rw [State.complete, State.endDone_of_unclosed hr' hst]
        exact hv
      · obtain ⟨hrec, horder, hslots⟩ := State.exportStep_of_closed hr' hst
        rw [ha, State.complete, State.endDone_exports hr' hst]
        exact ⟨hrec, horder.trans (by rw [hv.dir]), fun j hj => (hslots j hj).trans (hv.record j),
          hv.mono.trans (State.exportStep_changes _ i).mono⟩
      · rw [ha, State.complete, State.endDone_chains hr' hst hf]
        exact ⟨(State.chainMap_chainsMap hr' hf).from hv, hv.mono.trans (State.chainMap_changes _ i).mono⟩

end Sys2Proof.Machine

/-! SUPPORT. The SUMMARY payload by its offsets, and the arbiter's grant (R153, R155, R156, R165, R198). -/

namespace Sys2Proof.Machine

set_option Elab.async false

/-! ## The three lists of a summary (R165) -/

theorem filterMap_unless {α β : Type} (p : α → Prop) [DecidablePred p] (f : α → β) (l : List α) :
    (l.filterMap fun x => if p x then none else some (f x)) = (l.filter fun x => !decide (p x)).map f := by
  induction l with
  | nil => rfl
  | cons a l ih => by_cases h : p a <;> simp [h, ih]

section

variable (r : Record)

theorem Record.binList_eq : r.binList = r.summaryBins := by
  rw [Record.binList, filterMap_unless]
  rfl

theorem Record.zoneList_eq : r.zoneList = r.summaryZones := by
  rw [Record.zoneList, filterMap_unless]
  rfl

theorem Record.siteList_eq : r.siteList = r.summarySites := by
  rw [Record.siteList, filterMap_unless]
  rfl

end

/-! ## The fixed bytes of a summary (R165, R198) -/

theorem length_yieldBytes (v : Option Nat) : (yieldBytes v).length = 2 := by cases v <;> rfl

theorem length_timeBytes (v : Option Word) : (timeBytes v).length = 4 := by cases v <;> rfl

/-- A part of a payload stands at the sum of the lengths of the parts before it. -/
theorem fieldOf_flatten {cs : List (List Byte)} {lens : List Nat} (h : cs.map List.length = lens) (tail : List Byte)
    {k : Nat} {c : List Byte} (hk : cs[k]? = some c) {o n : Nat} (ho : (lens.take k).sum = o) (hn : lens[k]? = some n) :
    fieldOf (cs.flatten ++ tail) o n = c := by
  induction cs generalizing lens k o with
  | nil => exact nomatch hk
  | cons a cs ih =>
    rw [List.map_cons] at h
    subst h
    cases k with
    | zero =>
      obtain rfl := Option.some.inj hk
      obtain rfl := Option.some.inj hn
      rw [← ho, List.flatten_cons, List.append_assoc]
      exact List.take_left
    | succ k =>
      rw [List.take_succ_cons, List.sum_cons] at ho
      rw [← ho, List.flatten_cons, List.append_assoc, fieldOf, ← List.drop_drop, List.drop_left]
      exact ih rfl hk rfl hn

/-- The fixed parts of a record's summary, one for each group of fields that the layout names. -/
def State.summaryFields (s : State) (kind : Byte) (i : SlotId) (r : Record) : List (List Byte) :=
  [ [kind, natByte i.val, r.state.code, natByte r.cell.val],
    wordBytes r.key.lot ++ [r.key.wafer],
    [natByte r.recipe.val, r.bank.code, reasonCode r.reason],
    wordBytes r.gen,
    [bitsByte [r.loadTime.isSome, r.closeStart.isSome, r.sealTime.isSome, r.frame.isSome], r.flags.byte],
    [(s.recipeOf r).denominator.code, outcomeCode r.outcome, dispositionCode r.disposition, indexByte r.frame],
    yieldBytes (r.waferYield (s.recipeOf r)),
    yieldBytes r.firstPassYield,
    yieldBytes (r.finalYield.map BitVec.toNat),
    timeBytes r.loadTime ++ wordBytes r.openTime ++ timeBytes r.closeStart ++ timeBytes r.sealTime,
    timeBytes (s.serialOf r) ++ wordBytes r.checkpoint,
    r.countBytes,
    [natByte r.binList.length, natByte r.zoneList.length, natByte r.siteList.length] ]

section

variable (s : State) (kind : Byte) (i : SlotId) (r : Record)

theorem State.summaryFields_lengths :
    (s.summaryFields kind i r).map List.length = [4, 5, 3, 4, 2, 4, 2, 2, 2, 16, 8, 40, 3] := by
  simp [State.summaryFields, length_yieldBytes, length_timeBytes, wordBytes, Record.countBytes]

theorem State.recordSummary_eq : s.recordSummary kind i r =
    (s.summaryFields kind i r).flatten ++ (r.binList.flatten ++ r.zoneList.flatten ++ r.siteList.flatten) := by
  have hserial : (s.serialOf r).isSome = r.frame.isSome := Option.isSome_map
  unfold State.recordSummary State.summaryFields
  simp only [hserial, List.flatten_cons, List.flatten_nil, List.append_assoc]
  simp only [List.cons_append, List.nil_append]

theorem State.recordSummary_isSummaryOf : s.isSummaryOf kind i r (s.recordSummary kind i r) := by
  have hlens := s.summaryFields_lengths kind i r
  have hlength : (s.summaryFields kind i r).flatten.length = 95 := by
    rw [List.length_flatten, hlens]
    rfl
  rw [s.recordSummary_eq]
  unfold State.isSummaryOf
  rw [← r.binList_eq, ← r.zoneList_eq, ← r.siteList_eq]
  have h := fun {k : Nat} {c : List Byte} => fieldOf_flatten hlens
    (r.binList.flatten ++ r.zoneList.flatten ++ r.siteList.flatten) (k := k) (c := c)
  exact ⟨h (k := 0) rfl rfl rfl, h (k := 1) rfl rfl rfl, h (k := 2) rfl rfl rfl, h (k := 3) rfl rfl rfl,
    h (k := 4) rfl rfl rfl, h (k := 5) rfl rfl rfl, h (k := 6) rfl rfl rfl, h (k := 7) rfl rfl rfl,
    h (k := 8) rfl rfl rfl, h (k := 9) rfl rfl rfl, h (k := 10) rfl rfl rfl, h (k := 11) rfl rfl rfl,
    h (k := 12) rfl rfl rfl, List.drop_left' hlength⟩

end

end Sys2Proof.Machine

/-! SUPPORT. The arbiter's grant (R153, R155, R156). -/

namespace Sys2Proof.Machine

set_option Elab.async false

/-! ## The highest priority (step 1 of R155) -/

theorem le_foldr_max {α : Type} (f : α → Fin 4) {l : List α} {a : α} (h : a ∈ l) :
    f a ≤ l.foldr (fun x m => max (f x) m) 0 := by
  induction l with
  | nil => exact nomatch h
  | cons b l ih =>
    rcases List.mem_cons.1 h with rfl | h
    · exact le_max_left _ _
    · exact (ih h).trans (le_max_right _ _)

theorem exists_foldr_max {α : Type} (f : α → Fin 4) {l : List α} (h : l ≠ []) :
    ∃ a ∈ l, f a = l.foldr (fun x m => max (f x) m) 0 := by
  induction l with
  | nil => exact absurd rfl h
  | cons b l ih =>
    by_cases hl : l = []
    · exact ⟨b, List.mem_cons_self, by rw [hl]; exact (max_eq_left (Fin.zero_le _)).symm⟩
    · obtain ⟨a, ha, hmax⟩ := ih hl
      rcases le_total (f a) (f b) with hab | hab
      · exact ⟨b, List.mem_cons_self, by rw [List.foldr_cons, ← hmax, max_eq_left hab]⟩
      · exact ⟨a, List.mem_cons_of_mem b ha, by rw [List.foldr_cons, ← hmax, max_eq_right hab]⟩

/-- What a search finds comes first among those that would do. -/
theorem idxOf_le_of_find? {α : Type} [DecidableEq α] {p : α → Bool} {l : List α} {a b : α} (h : l.find? p = some a)
    (hb : p b = true) : l.idxOf a ≤ l.idxOf b := by
  induction l with
  | nil => exact nomatch h
  | cons x l ih =>
    rw [List.find?_cons] at h
    by_cases hx : p x = true
    · rw [hx] at h
      rw [← Option.some.inj h, List.idxOf_cons_self]
      exact Nat.zero_le _
    · rw [Bool.eq_false_of_not_eq_true hx] at h
      have hxb : x ≠ b := fun he => hx (he ▸ hb)
      have hxa : x ≠ a := fun he => hx (he ▸ List.find?_some h)
      rw [List.idxOf_cons_ne _ hxa, List.idxOf_cons_ne _ hxb]
      exact Nat.succ_le_succ (ih h)

theorem mem_allStreams (st : Stream) : st ∈ allStreams := by cases st <;> decide

theorem mem_streamsAfter (p st : Stream) : st ∈ streamsAfter p := by cases p <;> cases st <;> decide

section

variable {s : State} {st : Stream}

theorem State.mem_readyStreams : st ∈ s.readyStreams ↔ s.isReady st = true := by
  simp [State.readyStreams, List.mem_filter, mem_allStreams]

theorem State.prioOf_le_grantLevel (h : s.isReady st = true) : s.hall.prioOf st ≤ s.grantLevel :=
  le_foldr_max s.hall.prioOf (State.mem_readyStreams.2 h)

theorem State.exists_grantLevel (h : s.isReady st = true) :
    ∃ st', s.isReady st' = true ∧ s.hall.prioOf st' = s.grantLevel := by
  obtain ⟨st', hmem, hmax⟩ := exists_foldr_max s.hall.prioOf (List.ne_nil_of_mem (State.mem_readyStreams.2 h))
  exact ⟨st', State.mem_readyStreams.1 hmem, hmax⟩

theorem State.isReady_map_of_inBurst (h : s.inBurst = true) : s.isReady .map = true := by
  unfold State.inBurst at h
  cases hd : s.xport.dump with
  | none => simp [hd] at h
  | some d => simp [State.isReady, hd]

/-! ## The winner (R155, R156) -/

/-- A ready stream of the highest priority wins: MAP in burst, else the first after the level's pointer. -/
theorem State.winner_spec (h : s.isReady st = true) : ∃ w, s.winner = some w ∧ s.isReady w = true ∧
    s.hall.prioOf w = s.grantLevel ∧ (s.inBurst = true → s.hall.prioOf .map = s.grantLevel → w = .map) ∧
    ((s.inBurst = false ∨ s.hall.prioOf .map ≠ s.grantLevel) → ∀ st', s.isReady st' = true →
      s.hall.prioOf st' = s.grantLevel → (streamsAfter s.hall.rr[s.grantLevel.val]).idxOf w ≤
        (streamsAfter s.hall.rr[s.grantLevel.val]).idxOf st') := by
  by_cases hburst : s.inBurst = true ∧ s.hall.prioOf .map = s.grantLevel
  · obtain ⟨hb, hp⟩ := hburst
    have hready := State.isReady_map_of_inBurst hb
    refine ⟨.map, ?_, hready, hp, fun _ _ => rfl, fun hnot => ?_⟩
    · simp [State.winner, hb, hready, hp]
    · rcases hnot with hnot | hnot
      · exact Bool.noConfusion (hb.symm.trans hnot)
      · exact absurd hp hnot
  · have hcond : ¬ (s.inBurst && s.isReady .map && s.hall.prioOf .map == s.grantLevel) = true := fun hc => by
      simp only [Bool.and_eq_true, beq_iff_eq] at hc
      exact hburst ⟨hc.1.1, hc.2⟩
    obtain ⟨st', hr', hp'⟩ := State.exists_grantLevel h
    have hfound : ((streamsAfter s.hall.rr[s.grantLevel.val]).find? fun x =>
        s.isReady x && s.hall.prioOf x == s.grantLevel).isSome = true :=
      List.find?_isSome.2 ⟨st', mem_streamsAfter _ _, by simp [hr', hp']⟩
    obtain ⟨w, hw⟩ := Option.isSome_iff_exists.1 hfound
    have hspec := List.find?_some hw
    simp only [Bool.and_eq_true, beq_iff_eq] at hspec
    refine ⟨w, by rw [State.winner, if_neg hcond, hw], hspec.1, hspec.2, fun hb hp => absurd ⟨hb, hp⟩ hburst,
      fun _ x hx hpx => idxOf_le_of_find? hw (by simp [hx, hpx])⟩

theorem exec_transmitTake (htx : s.hall.tx = none) (hp : s.hall.paused = false) (h : s.isReady st = true) {w : Stream}
    (hw : s.winner = some w) : exec .transmitTake s = .next ((s.pointTo w).takeStream w) := by
  have hne : s.readyStreams.isEmpty = false :=
    Bool.eq_false_iff.2 fun he => List.ne_nil_of_mem (State.mem_readyStreams.2 h) (List.isEmpty_iff.1 he)
  have hboundary : s.atBoundary = true := by simp [State.atBoundary, htx, hp, hne]
  change execTransmitTake s = _
  simp only [execTransmitTake, hboundary, if_true, hw]

theorem exec_transmitTake_idle (h : s.hall.tx ≠ none ∨ s.hall.paused = true ∨ ∀ st, s.isReady st = false) :
    exec .transmitTake s = .next s := by
  have hboundary : s.atBoundary = false := by
    rw [State.atBoundary]
    rcases h with h | h | h
    · simp [Option.isNone_eq_false_iff.2 (Option.isSome_iff_ne_none.2 h)]
    · simp [h]
    · simp [State.readyStreams, h]
  change execTransmitTake s = _
  simp only [execTransmitTake, hboundary, Bool.false_eq_true, if_false]

end

/-! ## What a take leaves of the arbiter (R154, R155) -/

/-- From s to t the arbiter's pointers and priorities stay. -/
def State.arbiterKept (s t : State) : Prop := t.hall.rr = s.hall.rr ∧ t.hall.prio = s.hall.prio

section

variable {s t u : State} {bs : List Block}

theorem State.arbiterKept.of_hall (h : s.changesOnly t bs) (hb : .hall ∉ bs := by decide) : s.arbiterKept t := by
  rw [State.arbiterKept, h.hall hb]
  exact ⟨rfl, rfl⟩

theorem State.arbiterKept.sending (h : s.arbiterKept t) (st : Stream) (f : OutFrame) (a : TxAction) :
    s.arbiterKept (t.send st f a) := h

theorem State.takeEnd_arbiterKept (s : State) (d : Dump) : s.arbiterKept (s.takeEnd d) :=
  (State.arbiterKept.of_hall s.endDump_changes).sending _ _ _

theorem State.takeRow_arbiterKept (s : State) (d : Dump) : s.arbiterKept (s.takeRow d) := ⟨rfl, rfl⟩

theorem State.takeStream_arbiterKept (s : State) (st : Stream) : s.arbiterKept (s.takeStream st) := by
  cases st with
  | resp =>
    change s.arbiterKept s.takeResp
    unfold State.takeResp
    split <;> exact ⟨rfl, rfl⟩
  | alert =>
    change s.arbiterKept s.takeAlert
    unfold State.takeAlert
    split <;> exact ⟨rfl, rfl⟩
  | fwd =>
    change s.arbiterKept s.takeFwd
    unfold State.takeFwd
    split <;> exact ⟨rfl, rfl⟩
  | sum =>
    change s.arbiterKept s.takeSum
    unfold State.takeSum
    split
    · exact ⟨rfl, rfl⟩
    · exact (State.arbiterKept.of_hall (s.takeSum_changes _)).sending _ _ _
  | map =>
    change s.arbiterKept s.takeMap
    unfold State.takeMap
    split
    · exact ⟨rfl, rfl⟩
    · next d _ =>
      unfold State.takeMapFrame
      split
      · exact s.takeEnd_arbiterKept d
      · split
        · exact s.takeRow_arbiterKept d
        · split
          · exact s.takeEnd_arbiterKept d
          · split
            · exact s.takeRow_arbiterKept d.restart
            · have hraise := State.arbiterKept.of_hall (s.raiseUnstable_changes d)
              have hend := (s.raiseUnstable d).takeEnd_arbiterKept d.markUnstable
              exact ⟨hend.1.trans hraise.1, hend.2.trans hraise.2⟩

end

/-! ## The takes of replies, alerts and copies (R150, R154, R159) -/

section

variable {s : State}

theorem State.takeStream_resp {f : OutFrame} {rest : List OutFrame} (h : s.hall.resp = f :: rest) :
    s.takeStream .resp = s.withHall
      { s.hall with resp := rest, tx := some { stream := .resp, frame := f, action := .nothing } } := by
  simp only [State.takeStream, State.takeResp, h]
  rfl

theorem State.takeStream_fwd {f : OutFrame} {rest : List OutFrame} (h : s.hall.fwd = f :: rest) :
    s.takeStream .fwd = s.withHall
      { s.hall with fwd := rest, tx := some { stream := .fwd, frame := f, action := .nothing } } := by
  simp only [State.takeStream, State.takeFwd, h]
  rfl

theorem State.takeStream_alert {e : AlertEntry} {rest : List AlertEntry} (h : s.alerts.queue = e :: rest) :
    s.takeStream .alert =
      (s.withAlerts { s.alerts with queue := rest }).withHall (s.nowSending .alert 0x21 e.bytes .nothing) := by
  simp only [State.takeStream, State.takeAlert, h]
  rfl

/-! ## The take of a summary (R161, R164, R165) -/

/-- The state with its head SUM entry taken and the place filled. -/
def State.sumTaken (s : State) (rest : List (SlotId × SumKind)) : State :=
  (s.withXport { s.xport with sumQ := rest }).fillPlace

theorem State.sumTaken_of_none_owed (h : s.xport.owed = []) (rest : List (SlotId × SumKind)) :
    s.sumTaken rest = s.withXport { s.xport with sumQ := rest } := by
  have hx : (s.withXport { s.xport with sumQ := rest }).xport.owed = [] := h
  rw [State.sumTaken, State.fillPlace, hx]

theorem State.record_sumTaken {j : SlotId} {js : List SlotId} (h : s.xport.owed = j :: js)
    (rest : List (SlotId × SumKind)) (x : SlotId) :
    (s.sumTaken rest).record x = if j = x then (s.record x).map (·.withOwed false) else s.record x := by
  have hhead : (s.withXport { s.xport with sumQ := rest }).xport.owed.head? = some j := by
    change s.xport.owed.head? = some j
    rw [h]
    rfl
  rw [State.sumTaken, State.record_fillPlace, hhead]
  simp only [Option.some.injEq]
  rfl

theorem State.takeStream_sum {i : SlotId} {k : SumKind} {rest : List (SlotId × SumKind)} {r : Record}
    (h : s.xport.sumQ = (i, k) :: rest) (hr : s.record i = some r) : s.takeStream .sum =
      (s.sumTaken rest).withHall (s.nowSending .sum 0x22 (s.recordSummary k.code i r)
        (if k = .final then .final i else .nothing)) := by
  have hsummary : s.summary k.code i = s.recordSummary k.code i r := by rw [State.summary, hr]
  have haction : sumAction (i, k) = if k = .final then .final i else .nothing := by cases k <;> rfl
  have hhall : (s.sumTaken rest).hall = s.hall := (s.takeSum_changes rest).hall
  simp only [State.takeStream, State.takeSum, h, hsummary, haction]
  change (s.sumTaken rest).send _ _ _ = _
  rw [State.send, hhall]
  rfl

theorem State.takeStream_sum_effects {i : SlotId} {k : SumKind} {rest : List (SlotId × SumKind)} {r : Record}
    (h : s.xport.sumQ = (i, k) :: rest) (hr : s.record i = some r) :
    ∃ p, s.isSummaryOf (if k = .final then 1 else 2) i r p ∧
      (s.takeStream .sum).hall = s.nowSending .sum 0x22 p (if k = .final then .final i else .nothing) ∧
      (s.xport.owed = [] → (s.takeStream .sum).xport = { s.xport with sumQ := rest } ∧
        (s.takeStream .sum).dir = s.dir) ∧
      (∀ j js q, s.xport.owed = j :: js → s.record j = some q →
        (s.takeStream .sum).xport = { s.xport with sumQ := rest ++ [(j, .final)], owed := js } ∧
        (s.takeStream .sum).record j = some { q with flags := { q.flags with summaryOwed := false } } ∧
        s.slotsKeptBut (s.takeStream .sum) j) ∧
      s.changesOnly (s.takeStream .sum) [.dir, .xport, .hall] := by
  have hcode : (if k = .final then (1 : Byte) else 2) = k.code := by cases k <;> rfl
  rw [State.takeStream_sum h hr, hcode]
  refine ⟨_, s.recordSummary_isSummaryOf k.code i r, State.withHall_hall _ _, fun hnone => ?_, fun j js q ho hq => ?_,
    (s.takeSum_changes rest).mono.trans (State.withHall_changes _ _).mono⟩
  · rw [State.sumTaken_of_none_owed hnone]
    exact ⟨rfl, rfl⟩
  · have hrec := State.record_sumTaken ho rest
    refine ⟨?_, (hrec j).trans ((if_pos rfl).trans (by rw [hq]; rfl)), fun x hx => (hrec x).trans (if_neg (Ne.symm hx))⟩
    refine (State.xport_fillPlace _).trans ?_
    simp only [State.withXport_xport, ho]
    rfl

/-! ## The take of a dump's row or end (R169 to R171, R199) -/

variable {d : Dump}

theorem State.takeRow_effects (s : State) (d : Dump) :
    (s.takeRow d).hall = s.nowSending .map 0x23 (s.mapRow d) .mapRow ∧
      (s.takeRow d).xport = { s.xport with dump := some { d with nextRow := d.nextRow + 1, begun := true } } ∧
      s.changesOnly (s.takeRow d) [.xport, .hall] :=
  ⟨rfl, rfl, (s.withXport_changes _).seq (State.withHall_changes _ _)⟩

theorem State.takeEnd_effects (s : State) (d : Dump) :
    (s.takeEnd d).hall = s.nowSending .map 0x24 (s.mapEnd d) d.endAction ∧
      (s.xport.mapQ = [] → (s.takeEnd d).xport = { s.xport with dump := none }) ∧
      (∀ i o es r f, s.xport.mapQ = (i, o) :: es → s.record i = some r → r.frame = some f →
        (s.takeEnd d).xport = { s.xport with mapQ := es, dump := some (newDump i o r f (s.recipeOf r)) }) ∧
      s.changesOnly (s.takeEnd d) [.xport, .hall] := by
  have hhall := s.endDump_changes.hall
  refine ⟨?_, fun hq => ?_, fun i o es r f hq hr hf => ?_, s.endDump_changes.seq (State.withHall_changes _ _)⟩
  · rw [State.takeEnd, State.send, State.withHall_hall, hhall]
    rfl
  · have hstart : (s.setDump none).startDump = s.setDump none := by
      have hx : (s.setDump none).xport.mapQ = [] := hq
      rw [State.startDump, hx]
      rfl
    exact congrArg State.xport hstart
  · have hx : s.changesOnly (s.setDump none) [.xport] := s.withXport_changes _
    have hstart := State.startDump_of_pending (s := s.setDump none) rfl hq
    rw [State.dumpFor_of_record ((hx.record i).trans hr) hf, hx.recipeOf] at hstart
    exact congrArg State.xport hstart

theorem State.takeStream_map (h : s.xport.dump = some d) : s.takeStream .map = s.takeMapFrame d := by
  simp only [State.takeStream, State.takeMap, h]

theorem State.takeStream_map_row (h : s.xport.dump = some d) {n : Nat} (ha : d.aborted = false)
    (hn : (d.nextRow < d.rows ∧ n = d.nextRow) ∨ (d.rows ≤ d.nextRow ∧ d.dirty = true ∧ d.restarts < 3 ∧ n = 0)) :
    ∃ k, k = (if d.nextRow < d.rows then d.restarts else d.restarts + 1) ∧
      (s.takeStream .map).hall = s.nowSending .map 0x23 ([natByte d.slot.val] ++ natHalf n ++ [natByte k]
        ++ natHalf d.width ++ (List.range d.width).map fun x => (s.die d.frame x n).byte) .mapRow ∧
      (s.takeStream .map).xport = { s.xport with dump := some { d with
        nextRow := n + 1
        restarts := k
        dirty := if d.nextRow < d.rows then d.dirty else false
        begun := true } } ∧
      s.changesOnly (s.takeStream .map) [.xport, .hall] := by
  have hcap : Config.maxRestarts = 3 := rfl
  rw [State.takeStream_map h]
  rcases hn with ⟨hrow, rfl⟩ | ⟨hrow, hdirty, hleft, rfl⟩
  · have htake : s.takeMapFrame d = s.takeRow d := by
      simp only [State.takeMapFrame, ha, hrow, Bool.false_eq_true, if_false, if_true]
    obtain ⟨hhall, hxport, hchanges⟩ := s.takeRow_effects d
    rw [htake]
    refine ⟨d.restarts, (if_pos hrow).symm, hhall, ?_, hchanges⟩
    rw [hxport, if_pos hrow]
  · have hend : ¬ d.nextRow < d.rows := by omega
    have htake : s.takeMapFrame d = s.takeRow d.restart := by
      simp only [State.takeMapFrame, ha, hend, hdirty, hleft, hcap, Bool.false_eq_true, Bool.true_eq_false, if_false,
        if_true]
    obtain ⟨hhall, hxport, hchanges⟩ := s.takeRow_effects d.restart
    rw [htake]
    refine ⟨d.restarts + 1, (if_neg hend).symm, hhall, ?_, hchanges⟩
    rw [hxport, if_neg hend]
    rfl

/-- The payload of a MAP_END, from the dump's status. -/
theorem State.mapEnd_eq (s : State) (d : Dump) : s.mapEnd d = [natByte d.slot.val, d.status, natByte d.restarts,
      bitsByte [d.live, (s.record d.slot).isSome, (s.dumpSerial d).isSome]]
    ++ keyBytes ((s.record d.slot).map fun r => r.key) ++ natHalf d.rows ++ timeBytes (s.dumpSerial d) := by
  rw [State.mapEnd, Option.isSome_map]

end

end Sys2Proof.Machine

/-! SUPPORT. The take of a MAP_END, and the grant whole (R155, R156, R169 to R171, R199). -/

namespace Sys2Proof.Machine

set_option Elab.async false

section

variable {s u : State} {d : Dump}

theorem State.nowSending_congr {bs : List Block} (h : s.changesOnly u bs) (st : Stream) (cls : Byte) (p : List Byte)
    (a : TxAction) (hh : .hall ∉ bs := by decide) (hn : .node ∉ bs := by decide) :
    u.nowSending st cls p a = s.nowSending st cls p a := by
  rw [State.nowSending, State.nowSending, h.hall hh, h.node hn]

theorem State.mapEnd_congr {bs : List Block} (h : s.changesOnly u bs) (d : Dump) (hd : .dir ∉ bs := by decide)
    (hm : .maps ∉ bs := by decide) : u.mapEnd d = s.mapEnd d := by
  have hserial : u.dumpSerial d = s.dumpSerial d := by
    simp only [State.dumpSerial, h.record _ hd, State.frame_congr (h.maps hm)]
  rw [State.mapEnd, State.mapEnd, hserial, h.record _ hd]

/-- The flag a dump ends with: out of restarts it is unstable, unless it is aborted (R171, R172). -/
def Dump.endsUnstable (d : Dump) : Bool := d.unstable || (!d.aborted && d.dirty)

/-- The payload of a MAP_END (R199). -/
def State.endPayload (s : State) (d : Dump) : List Byte :=
  [natByte d.slot.val, if d.aborted then 3 else if d.endsUnstable then 2 else 1, natByte d.restarts,
      bitsByte [d.live, (s.record d.slot).isSome, (s.dumpSerial d).isSome]]
    ++ keyBytes ((s.record d.slot).map fun r => r.key) ++ natHalf d.rows ++ timeBytes (s.dumpSerial d)

/-- What the take of a dump's MAP_END leaves, from s to u. -/
structure State.endsDump (s u : State) (d : Dump) : Prop where
  hall    : u.hall = s.nowSending .map 0x24 (s.endPayload d)
    (if d.origin = .chain ∧ d.gone = false then .mapEnd d.slot d.aborted else .nothing)
  alerts  : u.alerts = if d.aborted = false ∧ d.dirty = true ∧ d.unstable = false then
      (s.raise { kind := .dumpUnstable, slot := some d.slot, key := (s.record d.slot).map fun r => r.key }).alerts
    else s.alerts
  idle    : s.xport.mapQ = [] → u.xport = { s.xport with dump := none }
  next    : ∀ i o es r f, s.xport.mapQ = (i, o) :: es → s.record i = some r → r.frame = some f →
    u.xport = { s.xport with mapQ := es, dump := some (newDump i o r f (s.recipeOf r)) }
  changes : s.changesOnly u [.alerts, .xport, .hall]

/-- A dump that is aborted, or has nothing behind it, ends as it stands. -/
theorem State.takeEnd_endsDump (s : State) (h : d.aborted = true ∨ d.dirty = false) : s.endsDump (s.takeEnd d) d := by
  obtain ⟨hhall, hidle, hnext, hchanges⟩ := s.takeEnd_effects d
  have hflag : d.endsUnstable = d.unstable := by
    rcases h with h | h <;> simp [Dump.endsUnstable, h]
  have hno : ¬ (d.aborted = false ∧ d.dirty = true ∧ d.unstable = false) := by
    rintro ⟨ha, hd, -⟩
    rcases h with h | h
    · exact Bool.noConfusion (h.symm.trans ha)
    · exact Bool.noConfusion (h.symm.trans hd)
  refine ⟨?_, by rw [if_neg hno, hchanges.alerts], hidle, hnext, hchanges.mono⟩
  rw [hhall, State.mapEnd_eq, Dump.status, State.endPayload, hflag]
  rfl

/-- A dump with changes behind it and no restarts left ends UNSTABLE. -/
theorem State.takeEnd_unstable (s : State) (ha : d.aborted = false) (hd : d.dirty = true) :
    s.endsDump ((s.raiseUnstable d).takeEnd d.markUnstable) d := by
  have hraise := s.raiseUnstable_alerts_only d
  obtain ⟨hhall, hidle, hnext, hchanges⟩ := (s.raiseUnstable d).takeEnd_effects d.markUnstable
  have hflag : d.endsUnstable = true := by simp [Dump.endsUnstable, ha, hd]
  rw [State.nowSending_congr hraise, State.mapEnd_congr hraise, State.mapEnd_eq] at hhall
  rw [hraise.xport] at hidle hnext
  refine ⟨?_, ?_, hidle, fun i o es r f hq hr hf => ?_, (hraise.mono.trans hchanges.mono)⟩
  · rw [hhall, State.endPayload, hflag, ha]
    simp only [Dump.status, Dump.markUnstable, Dump.endAction, ha]
    rfl
  · rw [hchanges.alerts, State.alerts_raiseUnstable]
    simp only [ha, hd, true_and]
  · rw [hnext i o es r f hq ((hraise.record i).trans hr) hf, hraise.recipeOf]

theorem State.takeStream_map_end (h : s.xport.dump = some d)
    (hend : d.aborted = true ∨ (d.rows ≤ d.nextRow ∧ (d.dirty = false ∨ 3 ≤ d.restarts))) :
    s.endsDump (s.takeStream .map) d := by
  have hcap : Config.maxRestarts = 3 := rfl
  rw [State.takeStream_map h, State.takeMapFrame]
  by_cases ha : d.aborted = true
  · rw [if_pos ha]
    exact s.takeEnd_endsDump (.inl ha)
  · obtain ⟨hrows, hlast⟩ := hend.resolve_left ha
    rw [if_neg ha, if_neg (by omega)]
    by_cases hd : d.dirty = false
    · rw [if_pos hd]
      exact s.takeEnd_endsDump (.inr hd)
    · have hout := hlast.resolve_left hd
      rw [if_neg hd, if_neg (by omega)]
      exact s.takeEnd_unstable (Bool.eq_false_of_not_eq_true ha) (Bool.eq_true_of_not_eq_false hd)

end

/-- Settles O41: the winner of the grant, and the take of each stream's frame. -/
theorem grantGoesToTheHighestPriority : Obligations.GrantGoesToTheHighestPriority := by
  refine ⟨fun s st0 htx hp hready => ?_, fun s h => exec_transmitTake_idle h, fun s =>
    ⟨fun f rest h => State.takeStream_resp h, fun f rest h => State.takeStream_fwd h,
      fun e rest h => State.takeStream_alert h, fun i k rest r h hr => State.takeStream_sum_effects h hr,
      fun d hd => ⟨fun n ha hn => State.takeStream_map_row hd ha hn, fun hend => ?_⟩⟩⟩
  · obtain ⟨w, hw, hrw, hlevel, hburst, hfirst⟩ := State.winner_spec hready
    obtain ⟨hrr, hprio⟩ := (s.pointTo w).takeStream_arbiterKept w
    simp only [← hlevel] at hburst hfirst
    refine ⟨_, w, exec_transmitTake htx hp hready hw, rfl, hrw, fun st' hr' => ?_, hfirst, hburst, ?_, hprio, ?_⟩
    · rw [hlevel]
      exact State.prioOf_le_grantLevel hr'
    · have hpoint : (s.pointTo w).hall.rr = s.hall.rr.set s.grantLevel.val w := rfl
      rw [hrr, hpoint]
      simp only [hlevel]
    · rw [hrr]
      rfl
  · have h := State.takeStream_map_end hd hend
    exact ⟨_, _, rfl, h.hall, rfl, h.alerts, h.idle, h.next, h.changes⟩

end Sys2Proof.Machine
